-- ==== Sys2Proof/Word.lean ====
section
/-!
DEFINITION. The one word type of the line trunk.

A trunk character carries eight data bits (R156), so every frame, payload and table entry is a list of
bytes. Every other quantity of the C4120 is a number with a stated range and is held as `Nat` or `Int`.
-/

namespace Sys2Proof

/-- The eight data bits of one trunk character (R156). -/
abbrev Byte := BitVec 8

end Sys2Proof
end

