-- ==== Sys2Proof/Syntax.lean ====
section
/-!
DEFINITION. The commands of the C4120: one constructor of `Instr` for each row of spec/opcode_table.json.

The part is a block: it has no program. Each row is one whole, indivisible step of the part
(spec/95_what_each_step_holds.md), taken when something reaches a block: a line condition of the trunk, an
arrival, an outcome, a timer expiry, or a directive. The operands are what the step is told from outside
itself. Section order follows the opcode table.
-/

namespace Sys2Proof

/-- The line mode (R125). -/
inductive LineMode where
  | stopped | priming | running | holding | draining | safe
  deriving DecidableEq, Repr, Inhabited

/-- The eight fault codes (R125). -/
inductive FaultCode where
  | overlength | knifeFault | chainTimeout | chainSlip
  | speedLost | climateLost | dischargeStall | pressFault
  deriving DecidableEq, Repr, Inhabited

/-- What the trunk port reports of one frame (R164). -/
inductive FrameOutcome where
  | acknowledged | nack | neverSent
  deriving DecidableEq, Repr, Inhabited

/-- A frame whose outcome is reported: its frame number and its content, the payload it carried (R164). -/
structure SentFrame where
  number : Nat
  content : List Byte
  deriving DecidableEq, Repr, Inhabited

/-- One received trunk character (R156): the lead bit, the eight data bits and the parity bit, each bit
`true` when dominant. -/
structure RxChar where
  lead : Bool
  data : Byte
  parity : Bool
  deriving DecidableEq, Repr, Inhabited

/-- How a reception closes at RECEPTION_END (R157, R177): by the END mark after the acknowledge slot, or by
an END-length dominant run where a character's bits were expected. (A second START, an idle gap and a trunk
reset close it within START_MARK, IDLE_GAP and TRUNK_RESET.) -/
inductive ReceptionEnding where
  | endMark | strayRun
  deriving DecidableEq, Repr, Inhabited

/-- What the supervisor sent with one directive, less the bytes that the row itself fixes: the tag, the
sender node of the frame's claim, and the argument bytes that follow the fixed ones (R167, section 11.4).
The fixed bytes are the directive code; after it, for WRITE_TABLE, the table ID, and for MODE, the
argument. -/
structure Request where
  tag : Byte
  sender : Nat
  args : List Byte
  deriving DecidableEq, Repr, Inhabited

/-- The commands, one constructor per row of the opcode table, in the table's order. -/
inductive Instr where
  /-- POWER_ON_RESET (R165). `straps`: the levels of NODE5 to NODE0. -/
  | powerOnReset (straps : BitVec 6)
  /-- TRUNK_RESET (R166): the trunk has been dominant for 64 bit times. -/
  | trunkReset
  /-- SIGNAL_UNIT_TRUNK_RESET (R154). -/
  | signalUnitTrunkReset
  /-- PACER_TRUNK_RESET (R45). -/
  | pacerTrunkReset
  /-- CHAIN_TRUNK_RESET (R72). -/
  | chainTrunkReset
  /-- DISCHARGE_TRUNK_RESET (R124). -/
  | dischargeTrunkReset
  /-- LINE_SEQUENCER_TRUNK_RESET (R138). -/
  | lineSequencerTrunkReset
  /-- AGENT_TRUNK_RESET (R167). -/
  | agentTrunkReset
  /-- IDLE_GAP (R155). `received`: the characters of the reception the gap cuts off, if one is open. -/
  | idleGap (received : List RxChar)
  /-- RECEPTION_END (R157). `received`: the characters between START and the acknowledge slot. -/
  | receptionEnd (received : List RxChar) (ending : ReceptionEnding)
  /-- DIRECTIVE_ACKNOWLEDGE (R159). `received`: the characters up to and including the check. -/
  | directiveAcknowledge (received : List RxChar)
  /-- FRAME_DRAW (R161). -/
  | frameDraw
  /-- CLAIM_LOST (R162). -/
  | claimLost
  /-- TRANSMISSION_BROKEN (R163). -/
  | transmissionBroken
  /-- ACKNOWLEDGE_SLOT_OUTCOME (R163). `dominant`: how the slot reads. -/
  | acknowledgeSlotOutcome (dominant : Bool)
  /-- KNIFE_FIRE_OUTCOME (R32). -/
  | knifeFireOutcome (frame : SentFrame) (outcome : FrameOutcome)
  /-- CHAIN_STEP_OUTCOME (R59). -/
  | chainStepOutcome (frame : SentFrame) (outcome : FrameOutcome)
  /-- PRESS_CMD_OUTCOME (R129). `run`: the command its content names. -/
  | pressCmdOutcome (frame : SentFrame) (run : Bool) (outcome : FrameOutcome)
  /-- ZONE_COMMAND_OUTCOME (R105). -/
  | zoneCommandOutcome (frame : SentFrame) (outcome : FrameOutcome)
  /-- STRIP_ORDER_OUTCOME (R118). `sequence`: the sequence number its content names. -/
  | stripOrderOutcome (frame : SentFrame) (sequence : Nat) (outcome : FrameOutcome)
  /-- MANAGEMENT_FRAME_OUTCOME (R170, R171). -/
  | managementFrameOutcome (frame : SentFrame) (outcome : FrameOutcome)
  /-- SPEED_ARRIVAL (R25). `value` in 10 µm/s, `tick`: the line clock tick of the arrival. -/
  | speedArrival (value : Nat) (tick : Nat)
  /-- SPREADER_STATE_ARRIVAL (R27, R150). -/
  | spreaderStateArrival (value : Int)
  /-- KNIFE_COUNT_EVENTS (R40). `n`: the size of the group. -/
  | knifeCountEvents (n : Nat)
  /-- KNIFE_TIMER_EXPIRY (R33). -/
  | knifeTimerExpiry
  /-- SETTLE_TIMER_EXPIRY (R43). -/
  | settleTimerExpiry
  /-- PACER_MODE_CHANGE (R28, R43): the line mode went from `old` to `new`. -/
  | pacerModeChange (old new : LineMode)
  /-- CHAIN_MODE_CHANGE (R57, R67). -/
  | chainModeChange (old new : LineMode)
  /-- CHAIN_COUNT_EVENTS (R61, R64, R65). -/
  | chainCountEvents (n : Nat)
  /-- CHAIN_INDEX_EVENTS (R66). -/
  | chainIndexEvents (n : Nat)
  /-- STEP_TIMER_EXPIRY (R60). -/
  | stepTimerExpiry
  /-- DRAIN_TIMER_EXPIRY (R67). -/
  | drainTimerExpiry
  /-- STRIPPER_STATE_ARRIVAL (R117). -/
  | stripperStateArrival (value : Int)
  /-- STRIPPER_COUNT_EVENTS (R119, R120). -/
  | stripperCountEvents (n : Nat)
  /-- STALL_TIMER_EXPIRY (R121). -/
  | stallTimerExpiry
  /-- PRESS_STATE_ARRIVAL (R129, R130). -/
  | pressStateArrival (value : Int)
  /-- ZONE_RH_ARRIVAL (R102). -/
  | zoneRhArrival (zone : Nat)
  /-- STALE_TIMER_EXPIRY (R147). `role`: the listen role of the slot. -/
  | staleTimerExpiry (role : Nat)
  /-- LOST_TIMER_EXPIRY (R147). -/
  | lostTimerExpiry (role : Nat)
  /-- CLIMATE_LOSS_TIMER_EXPIRY (R137). -/
  | climateLossTimerExpiry (zone : Nat)
  /-- AIR_TIMER_EXPIRY (R107). -/
  | airTimerExpiry (zone : Nat)
  /-- SWEEP_TIMER_EXPIRY (R77, R78). -/
  | sweepTimerExpiry
  /-- CANE_VISIT (R80). -/
  | caneVisit
  /-- SWEEP_END (R81). -/
  | sweepEnd
  /-- FAULT_RAISE (R132). -/
  | faultRaise (code : FaultCode) (detail : Nat)
  /-- READ_TABLE (R172), directive code 01h. -/
  | readTable (r : Request)
  /-- WRITE_TABLE LISTEN (R142), directive code 02h, table 1. -/
  | writeTableListen (r : Request)
  /-- WRITE_TABLE TALK (R152), table 2. -/
  | writeTableTalk (r : Request)
  /-- WRITE_TABLE ZONE (R52, R96), table 3. -/
  | writeTableZone (r : Request)
  /-- WRITE_TABLE ZONE_COUNT (R53, R97), table 4. -/
  | writeTableZoneCount (r : Request)
  /-- WRITE_TABLE MEQ (R74, R91), table 5. -/
  | writeTableMeq (r : Request)
  /-- WRITE_TABLE KD (R75, R91), table 6. -/
  | writeTableKd (r : Request)
  /-- WRITE_TABLE MODEL (R76, R91), table 7. -/
  | writeTableModel (r : Request)
  /-- WRITE_TABLE GAP (R18), table 8. -/
  | writeTableGap (r : Request)
  /-- WRITE_TABLE PACER (R23), table 9. -/
  | writeTablePacer (r : Request)
  /-- WRITE_TABLE LINE (R174), table 10. -/
  | writeTableLine (r : Request)
  /-- WRITE_TABLE naming an unknown table or LOT (R173); `args` holds every argument byte. -/
  | writeTableUnwritable (r : Request)
  /-- READ_CANE (R69), directive code 03h. -/
  | readCane (r : Request)
  /-- MARK_CANES (R68, R116), directive code 04h. -/
  | markCanes (r : Request)
  /-- CLEAR_LINE (R70), directive code 05h. -/
  | clearLine (r : Request)
  /-- LOT_OPEN (R6), directive code 08h. -/
  | lotOpen (r : Request)
  /-- LOT_STAGE (R7), directive code 09h. -/
  | lotStage (r : Request)
  /-- LOT_SEAL (R8), directive code 0Ah. -/
  | lotSeal (r : Request)
  /-- LOT_DISCARD (R9), directive code 0Bh. -/
  | lotDiscard (r : Request)
  /-- LOT_ARM (R10), directive code 0Ch. -/
  | lotArm (r : Request)
  /-- MODE PRIME (R126), directive code 10h, argument 0. -/
  | modePrime (r : Request)
  /-- MODE RUN (R126, R12), argument 1. -/
  | modeRun (r : Request)
  /-- MODE HOLD (R126), argument 2. -/
  | modeHold (r : Request)
  /-- MODE RESUME (R126), argument 3. -/
  | modeResume (r : Request)
  /-- MODE DRAIN (R126, R131), argument 4. -/
  | modeDrain (r : Request)
  /-- MODE STOP (R126), argument 5. -/
  | modeStop (r : Request)
  /-- MODE SAFE (R126, R135), argument 6. -/
  | modeSafe (r : Request)
  /-- MODE LEAVE_SAFE (R126), argument 7. -/
  | modeLeaveSafe (r : Request)
  /-- ACK_FAULT (R133), directive code 11h. -/
  | ackFault (r : Request)
  /-- READ_STATUS (R175), directive code 12h. -/
  | readStatus (r : Request)
  /-- READ_TOTALS (R44), directive code 13h. -/
  | readTotals (r : Request)
  /-- CLEAR_TOTALS (R44), directive code 14h. -/
  | clearTotals (r : Request)
  /-- UNKNOWN_DIRECTIVE (R169): the sender and the whole payload of a directive with no known code. -/
  | unknownDirective (sender : Nat) (payload : List Byte)
  /-- LINE_CLOCK_TICK (R1): one tick of 100 µs. -/
  | lineClockTick
  /-- START_MARK (R155) of another node. `received`: the characters of the reception it cuts off, if one is
  open. -/
  | startMark (received : List RxChar)
  /-- DOMINANT_RUN (R155, R177) of `bits` bit times, seen while no reception is open. -/
  | dominantRun (bits : Nat)
  /-- TRUNK_RESET_RELEASED (R155). -/
  | trunkResetReleased
  /-- MODE with an argument that is none of the eight (R126); `args` holds every argument byte. -/
  | modeUnknownArgument (r : Request)
  deriving DecidableEq, Repr, Inhabited

end Sys2Proof
end

