-- ==== Sys2Proof/Decode.lean ====
section
/-!
DEFINITION. What a word spells, for the host's questions about the opcode table.

The table gives no bits to any of its rows ("fields": [] throughout): a command reaches the part as a line
condition, an event or a directive frame, never as an instruction word. So no word spells a command.
-/

namespace Sys2Proof

/-- The command a word of the opcode table spells: none, because no row of the table has bits. -/
def decodeTableWord (_nbits _w : Nat) : Option Instr := none

end Sys2Proof
end

