-- ==== Sys2Proof/Config.lean ====
section
/-!
DEFINITION. What is fixed for the part: the capacities and limits the spec states, the node straps of the
model's reset state, and the free values for what the spec does not state.
-/

namespace Sys2Proof.Config

/-- Line clock ticks in a second: one tick is 100 µs (R1). -/
def ticksPerSecond : Nat := 10000

/-- Line clock ticks in a millisecond (R1). -/
def ticksPerMs : Nat := 10

/-- The largest curtain accumulator, 2^40 − 1 nm (R22). -/
def accMax : Nat := 1099511627775

/-- Sequence numbers are taken modulo 2^24 (R48). -/
def seqModulus : Nat := 16777216

/-- Frame numbers and the disposition counts roll over at 2^32 (R164, R112). -/
def roll32 : Nat := 4294967296

/-- The trunk counts, the rolling event counts and the sweeps-completed count roll over at 2^16
(R155, R149, R73). -/
def roll16 : Nat := 65536

/-- The length totals are 64-bit counts (R44). -/
def totalModulus : Nat := 18446744073709551616

/-- Capacity of the urgent queue (R160). -/
def urgentCapacity : Nat := 4

/-- Capacity of the routine queue (R160). -/
def routineCapacity : Nat := 24

/-- Capacity of the management queue (R160). -/
def managementCapacity : Nat := 6

/-- A report takes a place only while the fill of the management queue is below this (R171). -/
def reportLimit : Nat := 5

/-- Capacity of the directive queue (R167). -/
def directiveCapacity : Nat := 4

/-- Capacity of the discharge queue (R112). -/
def dischargeCapacity : Nat := 8

/-- The node number that the straps of the model's reset state spell. The spec reads it from pins; node 12 is
the part's number in its worked contention (section 9.6). DESIGN CHOICE, unsafe, assumption 3. -/
def resetStraps : BitVec 6 := 12

/-- What line time becomes when it has counted 4,294,967,295 s and another second ends; the spec gives line
time 32 bits (section 0.5) and does not say. A free value: no body. Assumption 7. -/
opaque lineTimeBeyondRange : Nat → BitVec 32

/-- What a length total becomes when an addition takes it past 2^64 − 1 nm (R44 says only that this does not
happen in service). A free value of the old total and the addition: no body. Assumption 8. -/
opaque totalBeyondRange : Nat → Nat → BitVec 64

/-- The tag of a directive frame whose payload has no tag character; the spec does not say. A free value: no
body. Assumption 20. -/
opaque absentTag : BitVec 8

/-- The directive code that the response to a directive without a code character carries; the spec does not
say. A free value: no body. Assumption 20. -/
opaque absentCode : BitVec 8

end Sys2Proof.Config
end

