-- ==== Sys2Proof/Machine/State.lean ====
section
/-!
DEFINITION. The state of the C4120: every piece of state the spec gives its eleven blocks, the queue of
commands waiting, and the ledger of what one block has handed to another.

Each block is one structure (section 0.3). Where the spec names two things that say the same (the pacer state
FIRING and the fire in flight, the step state STEPPING and the step in flight, the sweep state SWEEPING and
the sweep in flight, the flag EXCURSION and the excursion record), the machine stores one and reads the other
from it, so the rule that ties them holds by construction.
-/

namespace Sys2Proof.Machine

/-! ## Timers -/

/-- A timer that is stopped, or running with an expiry (R22, R55, R95, R146). -/
inductive Timer where
  | stopped
  | running (expiry : Nat)
  deriving DecidableEq, Repr, Inhabited

/-- A timer that stays expired until something restarts or stops it (R55, R112, R125). -/
inductive LatchTimer where
  | stopped
  | running (expiry : Nat)
  | expired
  deriving DecidableEq, Repr, Inhabited

/-! ## Lots and drying profiles -/

/-- Lifecycle state of a lot slot (R2). -/
inductive SlotLife where
  | free | loading | ready | active | retiring
  deriving DecidableEq, Repr, Inhabited

/-- Excursion policy (R3). -/
inductive ExcursionPolicy where
  | keep | divert
  deriving DecidableEq, Repr, Inhabited

/-- A lot header (R3): lengths in mm, moistures in 0.01 % dry basis. -/
structure LotHeader where
  lotNumber : Nat
  changeoverClass : Nat
  hangTarget : Nat
  initialMoisture : Nat
  acceptMax : Nat
  pieceLength : Nat
  topTrim : Nat
  bottomTrim : Nat
  policy : ExcursionPolicy
  deriving DecidableEq, Repr, Inhabited

/-- A stage record (R4): temperatures in 0.1 °C, RH in 0.1 %, dwell in minutes. -/
structure Stage where
  temperature : Int
  humidity : Nat
  exitMoisture : Nat
  tLow : Int
  tHigh : Int
  maxDwell : Nat
  deriving DecidableEq, Repr, Inhabited

/-- A lot slot (R2). -/
structure LotSlot where
  life : SlotLife
  header : LotHeader
  stages : List Stage
  refCount : Nat
  deriving DecidableEq, Repr, Inhabited

/-- The lot table (R2): sixteen slots, the armed and the active lot pointer (R11), and the gap table of
sixteen entries, indexed by old class × 4 + new class (R18). -/
structure LotTable where
  slots : List LotSlot
  armed : Option Nat
  active : Option Nat
  gap : List Nat
  deriving DecidableEq, Repr, Inhabited

/-- The header after power-on: every field 0 and the policy KEEP (R2). -/
def LotHeader.cleared : LotHeader :=
  { lotNumber := 0, changeoverClass := 0, hangTarget := 0, initialMoisture := 0, acceptMax := 0,
    pieceLength := 0, topTrim := 0, bottomTrim := 0, policy := .keep }

/-- A slot after power-on, and whenever it becomes FREE (R2). -/
def LotSlot.cleared : LotSlot :=
  { life := .free, header := .cleared, stages := [], refCount := 0 }

/-! ## Strand pacer -/

/-- Disposition of a fire (R31). -/
inductive FireKind where
  | hang | gap | purge
  deriving DecidableEq, Repr, Inhabited

/-- The fire in flight (R22): its disposition, its cut target in mm, whether its frame has been
acknowledged, and the frame number of its KNIFE_FIRE. -/
structure Fire where
  kind : FireKind
  target : Nat
  acknowledged : Bool
  number : Nat
  deriving DecidableEq, Repr, Inhabited

/-- The pacer state (R22). The fire in flight is present exactly while it is FIRING. -/
inductive PacerState where
  | idle | forming | blocked
  | firing (fire : Fire)
  deriving DecidableEq, Repr, Inhabited

/-- The PACER parameters (R23): lead in ticks, lengths in mm, knife timeout in ms, speeds in 10 µm/s, settle
time in s. -/
structure PacerParams where
  knifeLead : Nat
  purgeLength : Nat
  overlengthMargin : Nat
  knifeTimeout : Nat
  vMin : Nat
  vMax : Nat
  settleTime : Nat
  deriving DecidableEq, Repr, Inhabited

/-- The strand pacer (R22, R23, R44): A and the totals in nm, the anticipation correction c in µm. -/
structure Pacer where
  acc : Nat
  lastSpeed : Nat
  lastTick : Option Nat
  correction : Int
  state : PacerState
  knifeTimer : Timer
  purgePending : Bool
  gapCounter : Nat
  missCount : Nat
  settleTimer : Timer
  settled : Bool
  extruded : Nat
  hung : Nat
  waste : Nat
  params : PacerParams
  deriving DecidableEq, Repr, Inhabited

/-! ## Canes, the chain controller and the cane queue -/

/-- An excursion record (R47). -/
structure Excursion where
  zone : Nat
  time : Nat
  temperature : Int
  humidity : Int
  stage : Nat
  deriving DecidableEq, Repr, Inhabited

/-- What a PRODUCT record holds beside the fields of every record (R46). The flag EXCURSION is set exactly
when the excursion record is present (R47), so it is not stored a second time. -/
structure Product where
  lot : Nat
  length : Nat
  moisture : Nat
  lastUpdate : Nat
  stage : Nat
  stageEntry : Nat
  climateUnknown : Bool
  stageOverrun : Bool
  markReject : Bool
  markHold : Bool
  excursion : Option Excursion
  deriving DecidableEq, Repr, Inhabited

/-- A cane record (R46): PRODUCT when `product` is present, EMPTY otherwise. -/
structure Cane where
  sequence : Nat
  hangTime : Nat
  product : Option Product
  deriving DecidableEq, Repr, Inhabited

/-- The step in flight (R55): the rod flag (`loaded` for LOADED), whether its frame has been acknowledged,
and the frame number of the CHAIN_STEP last queued for it. -/
structure StepInFlight where
  loaded : Bool
  acknowledged : Bool
  number : Nat
  deriving DecidableEq, Repr, Inhabited

/-- The step state (R55). The step in flight is present exactly while it is STEPPING. -/
inductive StepState where
  | idle
  | stepping (step : StepInFlight)
  | waitingRoom
  deriving DecidableEq, Repr, Inhabited

/-- The chain controller (R55) with the loading station (R49). -/
structure Chain where
  station : Option Cane
  stepState : StepState
  recommands : Nat
  stepTimer : Timer
  revBaseline : Bool
  revCount : Nat
  drainTimer : LatchTimer
  deriving DecidableEq, Repr, Inhabited

/-- Form of a zone's humidity outputs (R96). -/
inductive OutputForm where
  | single | divided | biased
  deriving DecidableEq, Repr, Inhabited

/-- An entry of the zone map (R52) with the zone's climate parameters (R96). -/
structure ZoneEntry where
  first : Nat
  last : Nat
  idleT : Int
  idleRh : Nat
  safeT : Int
  safeRh : Nat
  ramp : Nat
  tMin : Int
  tMax : Int
  rhMin : Nat
  rhMax : Nat
  form : OutputForm
  gain : Nat
  vMin : Nat
  airBase : Nat
  airJitter : Nat
  deriving DecidableEq, Repr, Inhabited

/-- A zone entry after power-on: every field 0 (R52, R96). -/
def ZoneEntry.zero : ZoneEntry :=
  { first := 0, last := 0, idleT := 0, idleRh := 0, safeT := 0, safeRh := 0, ramp := 0, tMin := 0,
    tMax := 0, rhMin := 0, rhMax := 0, form := .single, gain := 0, vMin := 0, airBase := 0, airJitter := 0 }

/-- The cane queue, head first (R50), the next sequence number (R48), and the zone map with P_exit
(R52, R53). -/
structure CaneQueue where
  records : List Cane
  nextSequence : Nat
  zoneCount : Nat
  pExit : Option Nat
  zones : List ZoneEntry
  deriving DecidableEq, Repr, Inhabited

/-! ## Drying model -/

/-- The sweep in flight (R73): the sweep time, the first and last sequence number noted at the start
(`none` when the queue was empty), the next number to visit, and the three running counts. The next number is
`none` when the queue was empty (R79), and once every number has been taken (DESIGN CHOICE, assumption 34). -/
structure Sweep where
  time : Nat
  first : Option Nat
  last : Option Nat
  next : Option Nat
  updated : Nat
  unknown : Nat
  skipped : Nat
  deriving DecidableEq, Repr, Inhabited

/-- The last sweep summary (R73). -/
structure SweepSummary where
  time : Nat
  updated : Nat
  unknown : Nat
  skipped : Nat
  deriving DecidableEq, Repr, Inhabited

/-- The drying model (R73). The sweep state is SWEEPING exactly while a sweep is in flight. -/
structure Drying where
  meq : List Nat
  kd : List Nat
  tBase : Int
  tStep : Nat
  interval : Nat
  nextExpiry : Nat
  sweep : Option Sweep
  sweepPending : Bool
  summary : SweepSummary
  completed : Nat
  deriving DecidableEq, Repr, Inhabited

/-! ## Zone climate -/

/-- Air direction (R95). -/
inductive AirDirection where
  | forward | reverse
  deriving DecidableEq, Repr, Inhabited

/-- A zone state (R95). -/
structure ZoneState where
  tempSetpoint : Int
  rhSetpoint : Nat
  demand : Int
  direction : AirDirection
  airTimer : Timer
  deriving DecidableEq, Repr, Inhabited

/-- The zone climate unit (R95): twelve zone states and the stagger generator. -/
structure Climate where
  zones : List ZoneState
  stagger : BitVec 16
  deriving DecidableEq, Repr, Inhabited

/-! ## Discharge unit -/

/-- Disposition of a discharged cane (R112). -/
inductive Disposition where
  | pack | setAside | divert
  deriving DecidableEq, Repr, Inhabited

/-- A discharge entry (R112): the PRODUCT record, its disposition, its cut plan and its late mark. -/
structure DischargeEntry where
  sequence : Nat
  hangTime : Nat
  product : Product
  disposition : Disposition
  pieces : Nat
  scrap : Nat
  late : Bool
  deriving DecidableEq, Repr, Inhabited

/-- The discharge unit (R112), the queue head first. -/
structure Discharge where
  entries : List DischargeEntry
  orderOutstanding : Bool
  stallTimer : LatchTimer
  packCount : Nat
  setAsideCount : Nat
  divertCount : Nat
  deriving DecidableEq, Repr, Inhabited

/-! ## Line sequencer -/

/-- A fault entry (R125). -/
structure FaultEntry where
  code : FaultCode
  time : Nat
  count : Nat
  detail : Nat
  deriving DecidableEq, Repr, Inhabited

/-- The line sequencer (R125). -/
structure Sequencer where
  mode : LineMode
  faults : List FaultEntry
  pressOwed : Bool
  lossTimers : List LatchTimer
  lossRaised : List Bool
  deriving DecidableEq, Repr, Inhabited

/-! ## Signal unit -/

/-- A configured listen entry (R141). -/
structure ListenEntry where
  node : Nat
  channel : Nat
  deriving DecidableEq, Repr, Inhabited

/-- Freshness of a measurement slot (R146). -/
inductive Freshness where
  | fresh | stale | lost
  deriving DecidableEq, Repr, Inhabited

/-- Status of the last accepted item (R146). -/
inductive SampleStatus where
  | good | questionable
  deriving DecidableEq, Repr, Inhabited

/-- A measurement slot (R146). `received` tells a slot that has received nothing since power-on, which R146
makes visible in READ_STATUS. -/
structure Slot where
  freshness : Freshness
  value : Int
  status : SampleStatus
  lastTick : Nat
  received : Bool
  staleTimer : Timer
  lostTimer : Timer
  baseline : Option Nat
  deriving DecidableEq, Repr, Inhabited

/-- The signal unit: the listen table (R141), the talk table (R152) and the measurement slots (R146). -/
structure Signals where
  listen : List (Option ListenEntry)
  talk : List (Option Nat)
  slots : List Slot
  deriving DecidableEq, Repr, Inhabited

/-! ## Frames and the trunk port -/

/-- Outcome codes of a directive (R169). -/
inductive OutcomeCode where
  | done | badForm | badTable | badIndex | badValue
  | wrongMode | wrongState | notConfigured | notSettled | notFound
  deriving DecidableEq, Repr, Inhabited

/-- Reason of a MODE_CHANGE (R128). -/
inductive ModeReason where
  | directive | fault | drained | trunkReset
  deriving DecidableEq, Repr, Inhabited

/-- The seven reports (section 10.4) with the fields section 11.4 gives them. -/
inductive Report where
  | caneOut (entry : DischargeEntry) (lotNumber : Nat)
  | modeChange (old new : LineMode) (reason : ModeReason) (code : Option FaultCode)
  | faultRaised (code : FaultCode) (detail : Nat) (before after : LineMode)
  | lotFreed (slot lotNumber : Nat)
  | excursion (sequence slot lotNumber : Nat) (record : Excursion)
  | dischargeNote (strays count : Nat) (head : Option Nat)
  | unexpectedCut (cuts length pacerState : Nat)
  deriving DecidableEq, Repr, Inhabited

/-- What a frame of the part carries (R180, section 11.4). -/
inductive FrameBody where
  | knifeFire (drop : Bool)
  | chainStep (loaded : Bool)
  | pressCmd (run : Bool)
  | zoneClimate (zone : Nat) (form : OutputForm) (tempSetpoint : Int) (out1 out2 : Nat)
  | airDir (zone : Nat) (direction : AirDirection)
  | stripOrder (sequence : Nat) (disposition : Disposition) (pieces pieceLength topTrim scrap : Nat)
  | response (tag code : Byte) (outcome : OutcomeCode) (body : List Byte)
  | report (missed lineTime : Nat) (report : Report)
  deriving DecidableEq, Repr, Inhabited

/-- A frame handed to a transmit queue: its frame number (R164), its destination, its content. -/
structure Frame where
  number : Nat
  dest : Nat
  body : FrameBody
  deriving DecidableEq, Repr, Inhabited

/-- The three transmit queues (R160). -/
inductive QueueId where
  | urgent | routine | management
  deriving DecidableEq, Repr, Inhabited

/-- The trunk state (R155). -/
inductive TrunkState where
  | idle | busy | reset
  deriving DecidableEq, Repr, Inhabited

/-- The reception (R157): none open; open with its acknowledge slot still to come; or open with the slot past
and driven dominant (`acked`) or left recessive (`nacked`) by the part (R159). -/
inductive Reception where
  | closed | receiving | acked | nacked
  deriving DecidableEq, Repr, Inhabited

/-- The six rolling counts (R155). -/
structure TrunkCounts where
  parity : Nat
  check : Nat
  length : Nat
  kind : Nat
  claimsLost : Nat
  resets : Nat
  deriving DecidableEq, Repr, Inhabited

/-- The trunk port (R155, R157, R160, R161, R164, R165). `synced`: an idle gap has been seen since power-on
(R155). `frameCount`: the rolling count of frames handed to the port (R164). -/
structure Port where
  node : Nat
  trunk : TrunkState
  synced : Bool
  reception : Reception
  urgent : List Frame
  routine : List Frame
  management : List Frame
  contention : Option Frame
  frameCount : Nat
  counts : TrunkCounts
  deriving DecidableEq, Repr, Inhabited

/-! ## Management agent and the LINE table -/

/-- A directive in the directive queue (R167): the frame's payload (tag, directive code, arguments as
received) and the sender node of its claim. -/
structure Directive where
  payload : List Byte
  sender : Nat
  deriving DecidableEq, Repr, Inhabited

/-- The management agent (R167). -/
structure Agent where
  directives : List Directive
  supervisor : Nat
  missed : Nat
  deriving DecidableEq, Repr, Inhabited

/-- A class's stale and lost limit in ms (R147). -/
structure FreshLimits where
  stale : Nat
  lost : Nat
  deriving DecidableEq, Repr, Inhabited

/-- The LINE table (R174) less the supervisor node, which the management agent holds (R167). Step timeout in
ms, drain time, stall limit and climate loss limit in s. -/
structure LineParams where
  speed : FreshLimits
  event : FreshLimits
  state : FreshLimits
  climate : FreshLimits
  stepTimeout : Nat
  stepsPerRev : Nat
  drainTime : Nat
  stallLimit : Nat
  climateLossLimit : Nat
  deriving DecidableEq, Repr, Inhabited

/-! ## The whole part -/

/-- The state of the part. `clock` counts line clock ticks since power-on and `lineTime` whole seconds (R1).
`pending` is the queue of commands waiting, first in, first out. `handed` is the ledger of what one block
has handed to another and the other has not yet taken (R128, R150, R164, R166), oldest first: each entry is
the command by which it will be taken. -/
structure State where
  clock : Nat
  lineTime : Nat
  lots : LotTable
  pacer : Pacer
  chain : Chain
  canes : CaneQueue
  drying : Drying
  climate : Climate
  discharge : Discharge
  sequencer : Sequencer
  signals : Signals
  port : Port
  agent : Agent
  line : LineParams
  handed : List Instr
  pending : List Instr
  deriving DecidableEq, Repr, Inhabited

/-- The machine never stops with a fault: the spec calls no behaviour of the part undefined, and its own
faults (the fault list of R125) are state. No command raises this, so it is safe; the host's form asks for a
type of fault reasons, and this one has no constructor. -/
inductive Fault where
  deriving DecidableEq, Repr

/-- The one refusal of the host's form: a command that the model gives no meaning, by its mnemonic. Every row
of the table has a meaning, so no command raises it; it would be safe. -/
inductive Refusal where
  | notModelled (mnemonic : String)
  deriving DecidableEq, Repr

/-! ## The values after power-on -/

/-- The lot table after power-on (R2, R11, R18). -/
def LotTable.initial : LotTable :=
  { slots := List.replicate 16 .cleared, armed := none, active := none, gap := List.replicate 16 0 }

/-- The PACER defaults (R23). -/
def PacerParams.initial : PacerParams :=
  { knifeLead := 1000, purgeLength := 600, overlengthMargin := 100, knifeTimeout := 500, vMin := 2000,
    vMax := 20000, settleTime := 20 }

/-- The strand pacer after power-on (R22). -/
def Pacer.initial : Pacer :=
  { acc := 0, lastSpeed := 0, lastTick := none, correction := 0, state := .idle, knifeTimer := .stopped,
    purgePending := false, gapCounter := 0, missCount := 0, settleTimer := .stopped, settled := false,
    extruded := 0, hung := 0, waste := 0, params := .initial }

/-- The chain controller after power-on (R49, R55). -/
def Chain.initial : Chain :=
  { station := none, stepState := .idle, recommands := 0, stepTimer := .stopped, revBaseline := false,
    revCount := 0, drainTimer := .stopped }

/-- The cane queue and the zone map after power-on (R48, R50, R52, R53). -/
def CaneQueue.initial : CaneQueue :=
  { records := [], nextSequence := 1, zoneCount := 0, pExit := none, zones := List.replicate 12 .zero }

/-- The drying model after power-on (R73, R77). -/
def Drying.initial : Drying :=
  { meq := List.replicate 80 0, kd := List.replicate 8 0, tBase := 400, tStep := 100, interval := 60,
    nextExpiry := 60, sweep := none, sweepPending := false,
    summary := { time := 0, updated := 0, unknown := 0, skipped := 0 }, completed := 0 }

/-- A zone state after power-on (R95). -/
def ZoneState.initial : ZoneState :=
  { tempSetpoint := 0, rhSetpoint := 0, demand := 0, direction := .forward, airTimer := .stopped }

/-- The zone climate unit after power-on (R95). -/
def Climate.initial : Climate :=
  { zones := List.replicate 12 .initial, stagger := 0x9B3D }

/-- The discharge unit after power-on (R112). -/
def Discharge.initial : Discharge :=
  { entries := [], orderOutstanding := false, stallTimer := .stopped, packCount := 0, setAsideCount := 0,
    divertCount := 0 }

/-- The line sequencer after power-on (R125). -/
def Sequencer.initial : Sequencer :=
  { mode := .stopped, faults := [], pressOwed := true, lossTimers := List.replicate 12 .stopped,
    lossRaised := List.replicate 12 false }

/-- A measurement slot after power-on (R146). -/
def Slot.initial : Slot :=
  { freshness := .lost, value := 0, status := .good, lastTick := 0, received := false,
    staleTimer := .stopped, lostTimer := .stopped, baseline := none }

/-- The signal unit after power-on (R141, R146, R152). -/
def Signals.initial : Signals :=
  { listen := List.replicate 32 none, talk := List.replicate 28 none, slots := List.replicate 32 .initial }

/-- The trunk counts after power-on (R155). -/
def TrunkCounts.zero : TrunkCounts :=
  { parity := 0, check := 0, length := 0, kind := 0, claimsLost := 0, resets := 0 }

/-- The trunk port after power-on with the given straps (R155, R160, R165). -/
def Port.initial (straps : BitVec 6) : Port :=
  { node := straps.toNat, trunk := .busy, synced := false, reception := .closed, urgent := [],
    routine := [], management := [], contention := none, frameCount := 0, counts := .zero }

/-- The management agent after power-on (R167). -/
def Agent.initial : Agent := { directives := [], supervisor := 0, missed := 0 }

/-- The LINE defaults (R147, R174). -/
def LineParams.initial : LineParams :=
  { speed := { stale := 50, lost := 500 }, event := { stale := 1000, lost := 5000 },
    state := { stale := 1000, lost := 5000 }, climate := { stale := 10000, lost := 60000 },
    stepTimeout := 4000, stepsPerRev := 0, drainTime := 20, stallLimit := 120, climateLossLimit := 300 }

/-- The part right after a power-on reset with the given straps: every block at its power-on values. -/
def State.powerOn (straps : BitVec 6) : State :=
  { clock := 0, lineTime := 0, lots := .initial, pacer := .initial, chain := .initial, canes := .initial,
    drying := .initial, climate := .initial, discharge := .initial, sequencer := .initial,
    signals := .initial, port := .initial straps, agent := .initial, line := .initial, handed := [],
    pending := [] }

/-- The machine right after reset. The node number is read from pins, which the spec gives no level; the model
takes `Config.resetStraps` (assumption 3). -/
def State.reset : State := State.powerOn Config.resetStraps

end Sys2Proof.Machine
end

