-- ==== Sys2Proof/WellFormed.lean ====
section
/-!
DEFINITION. Which commands can occur: the ranges the spec gives the operands of each row.

An ill-formed command is one that no trunk, timer or block of the part can bring about (a listen role of 32,
a zone 12, a speed above 32,767). Nothing in the machine depends on this check: every command has a meaning
on every operand; the statements name it where a range matters.
-/

namespace Sys2Proof

/-- The fifteen directive codes of R169. -/
def directiveCodes : List Byte :=
  [0x01, 0x02, 0x03, 0x04, 0x05, 0x08, 0x09, 0x0A, 0x0B, 0x0C, 0x10, 0x11, 0x12, 0x13, 0x14]

/-- A state value is a signed 16-bit number (R145, R178). -/
def signed16 (v : Int) : Bool := decide (-32768 ≤ v) && decide (v ≤ 32767)

/-- A group of events is as large as a forward step of a rolling count (R149). -/
def groupSize (n : Nat) : Bool := decide (1 ≤ n) && decide (n ≤ 32767)

/-- A frame number is a 32-bit count (R164), and a payload has at most 48 characters (R156). -/
def SentFrame.wellFormed (f : SentFrame) : Bool :=
  decide (f.number < 4294967296) && decide (f.content.length ≤ 48)

/-- A directive's sender is the node of a claim (R157), and its payload is at most 48 characters (R156), of
which `fixed` are fixed by the row. -/
def Request.wellFormed (fixed : Nat) (r : Request) : Bool :=
  decide (r.sender ≤ 63) && decide (fixed + r.args.length ≤ 48)

/-- The length of a dominant run that DOMINANT_RUN stands for (R155). -/
def dominantRunOk (bits : Nat) : Bool :=
  (decide (1 ≤ bits) && decide (bits ≤ 9)) || (decide (16 ≤ bits) && decide (bits ≤ 63))

/-- A table that WRITE_TABLE can write has an ID of 1 to 10 (R173); an argument list that is empty names no
table. -/
def namesWritableTable (args : List Byte) : Bool :=
  match args with
  | [] => false
  | t :: _ => decide (1 ≤ t.toNat) && decide (t.toNat ≤ 10)

/-- A MODE argument of 0 to 7 is one of the eight (section 11.4). -/
def namesKnownMode (args : List Byte) : Bool :=
  match args with
  | [] => false
  | a :: _ => decide (a.toNat ≤ 7)

/-- The payload carries a directive code of R169. -/
def carriesKnownCode (payload : List Byte) : Bool :=
  match payload with
  | _ :: c :: _ => directiveCodes.contains c
  | _ => false

/-- The operands of a command lie in the ranges the spec gives them. -/
def Instr.wellFormed : Instr → Bool
  | .powerOnReset _ | .trunkReset | .signalUnitTrunkReset | .pacerTrunkReset | .chainTrunkReset
  | .dischargeTrunkReset | .lineSequencerTrunkReset | .agentTrunkReset => true
  | .idleGap _ | .receptionEnd _ _ | .directiveAcknowledge _ | .frameDraw | .claimLost
  | .transmissionBroken | .acknowledgeSlotOutcome _ | .startMark _ | .trunkResetReleased => true
  | .knifeFireOutcome f _ | .chainStepOutcome f _ | .pressCmdOutcome f _ _
  | .zoneCommandOutcome f _ | .managementFrameOutcome f _ => f.wellFormed
  | .stripOrderOutcome f s _ => f.wellFormed && decide (s < 16777216)
  | .speedArrival v _ => decide (v ≤ 32767)
  | .spreaderStateArrival v | .stripperStateArrival v | .pressStateArrival v => signed16 v
  | .knifeCountEvents n | .chainCountEvents n | .chainIndexEvents n | .stripperCountEvents n => groupSize n
  | .knifeTimerExpiry | .settleTimerExpiry | .stepTimerExpiry | .drainTimerExpiry | .stallTimerExpiry
  | .sweepTimerExpiry | .caneVisit | .sweepEnd | .lineClockTick => true
  | .pacerModeChange o n | .chainModeChange o n => decide (o ≠ n)
  | .zoneRhArrival k | .climateLossTimerExpiry k | .airTimerExpiry k => decide (k < 12)
  | .staleTimerExpiry i | .lostTimerExpiry i => decide (i < 32)
  | .faultRaise _ d => decide (d ≤ 255)
  | .writeTableListen r | .writeTableTalk r | .writeTableZone r | .writeTableZoneCount r
  | .writeTableMeq r | .writeTableKd r | .writeTableModel r | .writeTableGap r
  | .writeTablePacer r | .writeTableLine r => r.wellFormed 3
  | .writeTableUnwritable r => r.wellFormed 2 && !namesWritableTable r.args
  | .modePrime r | .modeRun r | .modeHold r | .modeResume r | .modeDrain r | .modeStop r
  | .modeSafe r | .modeLeaveSafe r => r.wellFormed 3
  | .modeUnknownArgument r => r.wellFormed 2 && !namesKnownMode r.args
  | .readTable r | .readCane r | .markCanes r | .clearLine r | .lotOpen r | .lotStage r | .lotSeal r
  | .lotDiscard r | .lotArm r | .ackFault r | .readStatus r | .readTotals r | .clearTotals r =>
      r.wellFormed 2
  | .unknownDirective s p => decide (s ≤ 63) && decide (p.length ≤ 48) && !carriesKnownCode p
  | .dominantRun b => dominantRunOk b

end Sys2Proof
end

