-- ==== Sys2Proof/Machine/Operands.lean ====
section
/-!
DEFINITION. The byte layouts of chapter 11: fields, codes, characters, frames, payloads and table entries, in
both directions.
-/

namespace Sys2Proof.Machine

/-! ## Fields (R176) -/

/-- The number a run of bytes spells, most significant byte first (R176). -/
def beNat (bs : List Byte) : Nat := bs.foldl (fun n b => n * 256 + b.toNat) 0

/-- `n` in `k` bytes, most significant byte first (R176); only its low `8 k` bits are carried. -/
def be : Nat → Nat → List Byte
  | 0, _ => []
  | k + 1, n => be k (n / 256) ++ [BitVec.ofNat 8 n]

/-- A signed number in `k` bytes, two's complement (R176). -/
def beInt (k : Nat) (i : Int) : List Byte := be k (i % (256 ^ k : Nat)).toNat

/-- The unsigned field of `size` bytes at offset `off`. -/
def field (bs : List Byte) (off size : Nat) : Nat := beNat ((bs.drop off).take size)

/-- Reads a 16-bit number as two's complement (R176). -/
def signed16Of (n : Nat) : Int := if n < 32768 then (n : Int) else (n : Int) - 65536

/-- The signed 16-bit field at offset `off`. -/
def fieldInt (bs : List Byte) (off : Nat) : Int := signed16Of (field bs off 2)

/-- The `k`-th entry of `size` bytes in `bs`. -/
def entryAt (bs : List Byte) (size k : Nat) : List Byte := (bs.drop (k * size)).take size

/-- The first `count` entries of `size` bytes in `bs`. -/
def entriesOf (bs : List Byte) (size count : Nat) : List (List Byte) :=
  (List.range count).map (entryAt bs size)

/-- A flag byte: 1 when set. -/
def flagByte (b : Bool) : List Byte := [if b then 1 else 0]

/-- A slot pointer in one byte; "none" is FFh (R176). -/
def slotByte : Option Nat → List Byte
  | some i => be 1 i
  | none => [0xFF]

/-- A sequence number with the presence byte that R176 puts beside it; "none" carries 0. Where section 11.4 does
not order the two (the tail of page 5 and the next number of page 6) the presence byte comes first (DESIGN
CHOICE, assumption 21). -/
def presentSequence : Option Nat → List Byte
  | some q => 1 :: be 3 q
  | none => [0, 0, 0, 0]

/-- The expiry of a timer in four bytes; FFFFFFFFh when it is not running (R176). -/
def timerBytes : Timer → List Byte
  | .running e => be 4 e
  | .stopped => [0xFF, 0xFF, 0xFF, 0xFF]

/-- The expiry of a latching timer in four bytes; FFFFFFFFh when it is not running (R176, assumption 21). -/
def latchTimerBytes : LatchTimer → List Byte
  | .running e => be 4 e
  | .stopped => [0xFF, 0xFF, 0xFF, 0xFF]
  | .expired => [0xFF, 0xFF, 0xFF, 0xFF]

/-! ## Codes (section 11.4, R180, R178) -/

/-- Line mode codes. -/
def modeCode : LineMode → Byte
  | .stopped => 0 | .priming => 1 | .running => 2 | .holding => 3 | .draining => 4 | .safe => 5

/-- Fault codes. -/
def faultByte : FaultCode → Byte
  | .overlength => 1 | .knifeFault => 2 | .chainTimeout => 3 | .chainSlip => 4
  | .speedLost => 5 | .climateLost => 6 | .dischargeStall => 7 | .pressFault => 8

/-- The fault a code names; none for 0 and above 8 (R181). -/
def faultOfCode : Nat → Option FaultCode
  | 1 => some .overlength | 2 => some .knifeFault | 3 => some .chainTimeout | 4 => some .chainSlip
  | 5 => some .speedLost | 6 => some .climateLost | 7 => some .dischargeStall | 8 => some .pressFault
  | _ => none

/-- Pacer state codes. -/
def pacerStateCode : PacerState → Nat
  | .idle => 0 | .forming => 1 | .blocked => 2 | .firing _ => 3

/-- Step state codes. -/
def stepStateCode : StepState → Byte
  | .idle => 0 | .stepping _ => 1 | .waitingRoom => 2

/-- Freshness codes. -/
def freshnessCode : Freshness → Byte
  | .fresh => 0 | .stale => 1 | .lost => 2

/-- Sample status codes (R178). -/
def statusCode : SampleStatus → Byte
  | .good => 0 | .questionable => 1

/-- Stall timer state codes. -/
def latchTimerCode : LatchTimer → Byte
  | .stopped => 0 | .running _ => 1 | .expired => 2

/-- Slot lifecycle codes. -/
def lifeCode : SlotLife → Byte
  | .free => 0 | .loading => 1 | .ready => 2 | .active => 3 | .retiring => 4

/-- Disposition codes (R180). -/
def dispositionCode : Disposition → Byte
  | .pack => 0 | .setAside => 1 | .divert => 2

/-- Output form codes (R180). -/
def formCode : OutputForm → Byte
  | .single => 0 | .divided => 1 | .biased => 2

/-- The output form a code names; none above 2 (R182). -/
def formOfCode : Nat → Option OutputForm
  | 0 => some .single | 1 => some .divided | 2 => some .biased | _ => none

/-- Excursion policy codes (section 11.5). -/
def policyCode : ExcursionPolicy → Byte
  | .keep => 0 | .divert => 1

/-- The policy a code names; none above 1 (R181). -/
def policyOfCode : Nat → Option ExcursionPolicy
  | 0 => some .keep | 1 => some .divert | _ => none

/-- Air direction codes (R180). -/
def directionCode : AirDirection → Byte
  | .forward => 0 | .reverse => 1

/-- MODE_CHANGE reason codes (section 11.4). -/
def reasonCode : ModeReason → Byte
  | .directive => 0 | .fault => 1 | .drained => 2 | .trunkReset => 3

/-- Outcome codes (R169). -/
def outcomeByte : OutcomeCode → Byte
  | .done => 0 | .badForm => 1 | .badTable => 2 | .badIndex => 3 | .badValue => 4 | .wrongMode => 5
  | .wrongState => 6 | .notConfigured => 7 | .notSettled => 8 | .notFound => 9

/-- READY of the spreader and the stripper (R178). -/
def readyCode : Int := 1

/-- FAULT of the press (R178). -/
def pressFaultCode : Int := 3

/-! ## Table entries (section 11.5) -/

/-- A header of 18 bytes (section 11.5); none when a code is outside its set (R181). -/
def parseHeader (bs : List Byte) : Option LotHeader :=
  match policyOfCode (field bs 17 1) with
  | none => none
  | some p =>
    some { lotNumber := field bs 0 4, changeoverClass := field bs 4 1, hangTarget := field bs 5 2,
           initialMoisture := field bs 7 2, acceptMax := field bs 9 2, pieceLength := field bs 11 2,
           topTrim := field bs 13 2, bottomTrim := field bs 15 2, policy := p }

/-- The header in its 18 bytes. -/
def headerBytes (h : LotHeader) : List Byte :=
  be 4 h.lotNumber ++ be 1 h.changeoverClass ++ be 2 h.hangTarget ++ be 2 h.initialMoisture ++
  be 2 h.acceptMax ++ be 2 h.pieceLength ++ be 2 h.topTrim ++ be 2 h.bottomTrim ++ [policyCode h.policy]

/-- A stage record of 12 bytes (section 11.5). -/
def parseStage (bs : List Byte) : Stage :=
  { temperature := fieldInt bs 0, humidity := field bs 2 2, exitMoisture := field bs 4 2,
    tLow := fieldInt bs 6, tHigh := fieldInt bs 8, maxDwell := field bs 10 2 }

/-- The stage record in its 12 bytes. -/
def stageBytes (t : Stage) : List Byte :=
  beInt 2 t.temperature ++ be 2 t.humidity ++ be 2 t.exitMoisture ++ beInt 2 t.tLow ++ beInt 2 t.tHigh ++
  be 2 t.maxDwell

/-- A LISTEN entry of 3 bytes: `none` when the used flag or the node of a configured entry is malformed
(R142, R181, R182), `some none` when it is unused. -/
def parseListen (bs : List Byte) : Option (Option ListenEntry) :=
  match field bs 0 1 with
  | 0 => some none
  | 1 => if field bs 1 1 ≤ 62 then some (some { node := field bs 1 1, channel := field bs 2 1 }) else none
  | _ => none

/-- A LISTEN entry as read back: an unused entry reads as zeros (R182). -/
def listenBytes : Option ListenEntry → List Byte
  | none => [0, 0, 0]
  | some e => 1 :: (be 1 e.node ++ be 1 e.channel)

/-- A TALK entry of 2 bytes, for a part with node number `own` (R152, R182). -/
def parseTalk (own : Nat) (bs : List Byte) : Option (Option Nat) :=
  match field bs 0 1 with
  | 0 => some none
  | 1 => if field bs 1 1 ≤ 62 ∧ field bs 1 1 ≠ own then some (some (field bs 1 1)) else none
  | _ => none

/-- A TALK entry as read back (R182). -/
def talkBytes : Option Nat → List Byte
  | none => [0, 0]
  | some n => 1 :: be 1 n

/-- The ranges of R52 and R96 for one zone entry, apart from the output form. -/
def ZoneEntry.inRange (z : ZoneEntry) : Bool :=
  decide (z.first ≤ 2047) && decide (z.last ≤ 2047) && decide (z.idleRh ≤ 1000) &&
  decide (z.safeRh ≤ 1000) && decide (z.tMin ≤ z.tMax) && decide (z.rhMin ≤ z.rhMax) &&
  decide (z.rhMax ≤ 1000) && decide (z.vMin ≤ 127) &&
  (decide (z.airBase = 0) || (decide (60 ≤ z.airBase) && decide (z.airBase ≤ 3600))) &&
  decide (z.airJitter ≤ 600)

/-- A ZONE entry of 29 bytes; none when a field is out of range (R52, R96, R182). -/
def parseZone (bs : List Byte) : Option ZoneEntry :=
  match formOfCode (field bs 22 1) with
  | none => none
  | some f =>
    let z : ZoneEntry :=
      { first := field bs 0 2, last := field bs 2 2, idleT := fieldInt bs 4, idleRh := field bs 6 2,
        safeT := fieldInt bs 8, safeRh := field bs 10 2, ramp := field bs 12 2, tMin := fieldInt bs 14,
        tMax := fieldInt bs 16, rhMin := field bs 18 2, rhMax := field bs 20 2, form := f,
        gain := field bs 23 1, vMin := field bs 24 1, airBase := field bs 25 2, airJitter := field bs 27 2 }
    if z.inRange then some z else none

/-- The zone entry in its 29 bytes. -/
def zoneBytes (z : ZoneEntry) : List Byte :=
  be 2 z.first ++ be 2 z.last ++ beInt 2 z.idleT ++ be 2 z.idleRh ++ beInt 2 z.safeT ++ be 2 z.safeRh ++
  be 2 z.ramp ++ beInt 2 z.tMin ++ beInt 2 z.tMax ++ be 2 z.rhMin ++ be 2 z.rhMax ++ [formCode z.form] ++
  be 1 z.gain ++ be 1 z.vMin ++ be 2 z.airBase ++ be 2 z.airJitter

/-- The MODEL parameters: T_base, T_step and the sweep interval (R76). -/
structure ModelEntry where
  tBase : Int
  tStep : Nat
  interval : Nat
  deriving DecidableEq, Repr, Inhabited

/-- A MODEL entry of 6 bytes; none when a parameter is out of range (R76). -/
def parseModel (bs : List Byte) : Option ModelEntry :=
  let m : ModelEntry := { tBase := fieldInt bs 0, tStep := field bs 2 2, interval := field bs 4 2 }
  if 10 ≤ m.tStep ∧ m.tStep ≤ 500 ∧ 10 ≤ m.interval ∧ m.interval ≤ 600 then some m else none

/-- The MODEL entry in its 6 bytes. -/
def modelBytes (d : Drying) : List Byte := beInt 2 d.tBase ++ be 2 d.tStep ++ be 2 d.interval

/-- The ranges of R23. -/
def PacerParams.inRange (p : PacerParams) : Bool :=
  decide (p.knifeLead ≤ 5000) && decide (100 ≤ p.purgeLength) && decide (p.purgeLength ≤ 3000) &&
  decide (10 ≤ p.overlengthMargin) && decide (p.overlengthMargin ≤ 1000) &&
  decide (50 ≤ p.knifeTimeout) && decide (p.knifeTimeout ≤ 5000) && decide (p.vMax ≤ 32767) &&
  decide (p.vMin ≤ p.vMax) && decide (1 ≤ p.settleTime) && decide (p.settleTime ≤ 600)

/-- A PACER entry of 18 bytes; the last four bytes are neither checked nor stored (R23, R182). -/
def parsePacer (bs : List Byte) : Option PacerParams :=
  let p : PacerParams :=
    { knifeLead := field bs 0 2, purgeLength := field bs 2 2, overlengthMargin := field bs 4 2,
      knifeTimeout := field bs 6 2, vMin := field bs 8 2, vMax := field bs 10 2, settleTime := field bs 12 2 }
  if p.inRange then some p else none

/-- The PACER entry as read back: the parameters, then c, the gap counter and the miss count (R23). -/
def pacerBytes (p : Pacer) : List Byte :=
  be 2 p.params.knifeLead ++ be 2 p.params.purgeLength ++ be 2 p.params.overlengthMargin ++
  be 2 p.params.knifeTimeout ++ be 2 p.params.vMin ++ be 2 p.params.vMax ++ be 2 p.params.settleTime ++
  beInt 2 p.correction ++ be 1 p.gapCounter ++ be 1 p.missCount

/-- The ranges of R147 for one class. -/
def FreshLimits.inRange (l : FreshLimits) : Bool :=
  decide (10 ≤ l.stale) && decide (l.lost ≤ 600000) && decide (l.stale < l.lost)

/-- The ranges of R174 apart from the supervisor node. -/
def LineParams.inRange (p : LineParams) : Bool :=
  p.speed.inRange && p.event.inRange && p.state.inRange && p.climate.inRange &&
  decide (500 ≤ p.stepTimeout) && decide (p.stepTimeout ≤ 30000) && decide (p.stepsPerRev ≤ 4095) &&
  decide (1 ≤ p.drainTime) && decide (p.drainTime ≤ 600) && decide (10 ≤ p.stallLimit) &&
  decide (p.stallLimit ≤ 3600) && decide (10 ≤ p.climateLossLimit) && decide (p.climateLossLimit ≤ 3600)

/-- The two limits of a class at offset `off`. -/
def parseLimits (bs : List Byte) (off : Nat) : FreshLimits :=
  { stale := field bs off 3, lost := field bs (off + 3) 3 }

/-- A LINE entry of 35 bytes for a part with node number `own`: the parameters and the supervisor node; none
when a field is out of range (R174, R182). -/
def parseLine (own : Nat) (bs : List Byte) : Option (LineParams × Nat) :=
  let p : LineParams :=
    { speed := parseLimits bs 0, event := parseLimits bs 6, state := parseLimits bs 12,
      climate := parseLimits bs 18, stepTimeout := field bs 24 2, stepsPerRev := field bs 26 2,
      drainTime := field bs 28 2, stallLimit := field bs 30 2, climateLossLimit := field bs 32 2 }
  if p.inRange ∧ field bs 34 1 ≤ 62 ∧ field bs 34 1 ≠ own then some (p, field bs 34 1) else none

/-- The two limits of a class in six bytes. -/
def limitsBytes (l : FreshLimits) : List Byte := be 3 l.stale ++ be 3 l.lost

/-- The LINE entry in its 35 bytes. -/
def lineBytes (p : LineParams) (supervisor : Nat) : List Byte :=
  limitsBytes p.speed ++ limitsBytes p.event ++ limitsBytes p.state ++ limitsBytes p.climate ++
  be 2 p.stepTimeout ++ be 2 p.stepsPerRev ++ be 2 p.drainTime ++ be 2 p.stallLimit ++
  be 2 p.climateLossLimit ++ be 1 supervisor

/-! ## Records, reports and payloads (R180, section 11.4) -/

/-- The flags byte of a PRODUCT record (section 11.4). -/
def flagsByte (p : Product) : Byte :=
  (if p.climateUnknown then 1 else 0) ||| (if p.stageOverrun then 2 else 0) |||
  (if p.excursion.isSome then 4 else 0) ||| (if p.markReject then 8 else 0) |||
  (if p.markHold then 16 else 0)

/-- An excursion record in its 10 bytes. -/
def excursionBytes (x : Excursion) : List Byte :=
  be 1 x.zone ++ be 4 x.time ++ beInt 2 x.temperature ++ beInt 2 x.humidity ++ be 1 x.stage

/-- The excursion record when the flag EXCURSION is set, nothing otherwise. -/
def excursionTail : Option Excursion → List Byte
  | some x => excursionBytes x
  | none => []

/-- A cane record (section 11.4). -/
def caneBytes (c : Cane) : List Byte :=
  match c.product with
  | none => be 3 c.sequence ++ [0] ++ be 4 c.hangTime
  | some p =>
    be 3 c.sequence ++ [1] ++ be 4 c.hangTime ++ be 1 p.lot ++ be 4 p.length ++ be 2 p.moisture ++
    be 4 p.lastUpdate ++ be 1 p.stage ++ be 4 p.stageEntry ++ [flagsByte p] ++ excursionTail p.excursion

/-- Report codes (section 10.4). -/
def reportCode : Report → Byte
  | .caneOut .. => 1 | .modeChange .. => 2 | .faultRaised .. => 3 | .lotFreed .. => 4
  | .excursion .. => 5 | .dischargeNote .. => 6 | .unexpectedCut .. => 7

/-- The body of a report (section 11.4). -/
def reportBody : Report → List Byte
  | .caneOut e n =>
    be 3 e.sequence ++ be 1 e.product.lot ++ be 4 n ++ be 4 e.product.length ++ be 2 e.product.moisture ++
    be 1 e.product.stage ++ [flagsByte e.product] ++ [dispositionCode e.disposition] ++ be 1 e.pieces ++
    be 4 e.scrap ++ flagByte e.late ++ excursionTail e.product.excursion
  | .modeChange old new reason code =>
    [modeCode old, modeCode new, reasonCode reason, match code with | some c => faultByte c | none => 0]
  | .faultRaised code detail before after =>
    [faultByte code] ++ be 1 detail ++ [modeCode before, modeCode after]
  | .lotFreed slot n => be 1 slot ++ be 4 n
  | .excursion q slot n x => be 3 q ++ be 1 slot ++ be 4 n ++ excursionBytes x
  | .dischargeNote strays count head => be 2 strays ++ be 1 count ++ presentSequence head
  | .unexpectedCut cuts length st => be 2 cuts ++ be 4 length ++ be 1 st

/-- The payload of a frame (R180, section 11.4). -/
def payloadOf : FrameBody → List Byte
  | .knifeFire drop => 0x10 :: flagByte drop
  | .chainStep loaded => 0x11 :: flagByte loaded
  | .pressCmd run => 0x12 :: flagByte run
  | .zoneClimate k form t o1 o2 => 0x20 :: (be 1 k ++ [formCode form] ++ beInt 2 t ++ be 1 o1 ++ be 1 o2)
  | .airDir k d => 0x21 :: (be 1 k ++ [directionCode d])
  | .stripOrder q d n p t scrap =>
    0x30 :: (be 3 q ++ [dispositionCode d] ++ be 1 n ++ be 2 p ++ be 2 t ++ be 4 scrap)
  | .response tag code outcome body => [tag, code, outcomeByte outcome] ++ body
  | .report missed time r => reportCode r :: (be 1 missed ++ be 4 time ++ reportBody r)

/-- The kind character of a frame (R177): 2 COMMAND, 4 RESPONSE, 5 REPORT. -/
def kindOf : FrameBody → Byte
  | .response .. => 4
  | .report .. => 5
  | _ => 2

/-- The queue a frame is handed to (R160). -/
def queueOf : FrameBody → QueueId
  | .knifeFire _ => .urgent
  | .chainStep _ => .urgent
  | .pressCmd _ => .urgent
  | .zoneClimate .. => .routine
  | .airDir .. => .routine
  | .stripOrder .. => .routine
  | .response .. => .management
  | .report .. => .management

/-- The claim urgency of a queue (R160). -/
def urgencyOf : QueueId → Nat
  | .urgent => 3 | .routine => 2 | .management => 1

/-! ## Characters and frames (R156, R157, R177) -/

/-- Whether the number of dominant bits among the eight data bits is odd. -/
def oddOnes (b : Byte) : Bool :=
  (b.getLsbD 0 ^^ b.getLsbD 1 ^^ b.getLsbD 2 ^^ b.getLsbD 3 ^^
   b.getLsbD 4 ^^ b.getLsbD 5 ^^ b.getLsbD 6 ^^ b.getLsbD 7)

/-- A character as the part sends it: a recessive lead bit and correct odd parity (R156). -/
def sendChar (b : Byte) : RxChar := { lead := false, data := b, parity := !oddOnes b }

/-- A character has a parity error when its lead bit reads dominant or its data and parity bits hold an even
number of dominant bits (R156). -/
def RxChar.parityError (c : RxChar) : Bool := c.lead || (oddOnes c.data == c.parity)

/-- One bit of the CRC-8 with polynomial 07h (R156). -/
def crcShift (r : Byte) : Byte := if r.msb then (r <<< 1) ^^^ 0x07 else r <<< 1

/-- The CRC-8 after one more byte, most significant bit first (R156). -/
def crcByte (r b : Byte) : Byte :=
  crcShift (crcShift (crcShift (crcShift (crcShift (crcShift (crcShift (crcShift (r ^^^ b))))))))

/-- The check of a run of bytes: CRC-8, polynomial 07h, initial value 00h (R156). -/
def crc8 (bs : List Byte) : Byte := bs.foldl crcByte 0

/-- The characters of a frame from the claim to the check, as node `node` sends it (R156, R177, R180). -/
def frameBytes (node : Nat) (f : Frame) : List Byte :=
  let payload := payloadOf f.body
  let head := be 1 (urgencyOf (queueOf f.body) * 64 + node) ++ [kindOf f.body] ++ be 1 f.dest ++
    be 1 payload.length ++ payload
  head ++ [crc8 head]

/-- The discard causes, in the order of R157's table. -/
inductive DiscardCause where
  | parity | length | check | kind
  deriving DecidableEq, Repr, Inhabited

/-- The length character of a reception, when one was received. -/
def lengthChar (bs : List Byte) : Option Nat := (bs[3]?).map BitVec.toNat

/-- The characters that belong to the frame: from the claim to the check, as far as received. -/
def frameChars (cs : List RxChar) : List RxChar :=
  match lengthChar (cs.map RxChar.data) with
  | some l => cs.take (l + 5)
  | none => cs

/-- The characters have the number R157 asks for. -/
def lengthOk (bs : List Byte) : Bool :=
  match lengthChar bs with
  | some l => decide (l ≤ 48) && decide (bs.length = l + 5)
  | none => false

/-- The check received is the check computed (R157). -/
def checkOk (bs : List Byte) : Bool := bs.getLast? == some (crc8 bs.dropLast)

/-- The kind is one of the five (R157, R177). -/
def kindOk (bs : List Byte) : Bool :=
  match bs[1]? with
  | some k => decide (1 ≤ k.toNat) && decide (k.toNat ≤ 5)
  | none => false

/-- The first discard cause of a reception, in the order of R157's table; `ended` says that it closed with the
END mark after the acknowledge slot. -/
def discardCause (cs : List RxChar) (ended : Bool) : Option DiscardCause :=
  let bs := cs.map RxChar.data
  if (frameChars cs).any RxChar.parityError then some .parity
  else if !lengthOk bs || !ended then some .length
  else if !checkOk bs then some .check
  else if !kindOk bs then some .kind
  else none

/-- The node of a received claim: its six low bits (R177). -/
def claimNode (bs : List Byte) : Nat := field bs 0 1 % 64

/-- The kind of a received frame. -/
def rxKind (bs : List Byte) : Nat := field bs 1 1

/-- The destination of a received frame: its six low bits (R177). -/
def rxDest (bs : List Byte) : Nat := field bs 2 1 % 64

/-- The payload of a whole received frame. -/
def rxPayload (bs : List Byte) : List Byte := (bs.drop 4).dropLast

/-! ## Sample payloads (R178, R179) -/

/-- One sample item (R178). -/
structure SampleItem where
  channel : Nat
  status : Nat
  value : Int
  deriving DecidableEq, Repr, Inhabited

/-- The form check of a SAMPLE payload (R179). -/
def sampleFormOk (p : List Byte) : Bool :=
  decide (p.length ≠ 0) && decide (p.length % 4 = 0) && decide (p.length ≤ 32)

/-- One item of four characters (R178). -/
def parseItem (bs : List Byte) : SampleItem :=
  { channel := field bs 0 1, status := field bs 1 1, value := fieldInt bs 2 }

/-- The items of a SAMPLE payload, in their order in the frame (R178). -/
def sampleItems (p : List Byte) : List SampleItem := (entriesOf p 4 (p.length / 4)).map parseItem

/-! ## Directives (section 11.4) -/

/-- The tag of a directive (section 11.4); a payload without one is assumption 20. -/
def Directive.tag (d : Directive) : Byte := d.payload.getD 0 Config.absentTag

/-- The directive code as carried in the response (section 11.4, assumption 20). -/
def Directive.code (d : Directive) : Byte := d.payload.getD 1 Config.absentCode

/-- The arguments as received (R167). -/
def Directive.args (d : Directive) : List Byte := d.payload.drop 2

/-- The directive that a row's request stands for: `code` and the argument bytes `fixed` that the row itself
fixes, then the request's own. -/
def directiveOf (code : Byte) (fixed : List Byte) (r : Request) : Directive :=
  { payload := r.tag :: code :: (fixed ++ r.args), sender := r.sender }

end Sys2Proof.Machine
end

