-- ==== Sys2Proof/Machine/Flags.lean ====
section
/-!
DEFINITION. What the blocks read: lookups in the tables, the freshness and the value of a slot, the zone and
the position of a record, the fill of a queue, and the conditions the rules test.
-/

namespace Sys2Proof.Machine

/-! ## Arithmetic (section 0.5) -/

/-- clamp(x, a, b) (section 0.5). -/
def clamp (x a b : Int) : Int := if x < a then a else if b < x then b else x

/-- Adds to a rolling 16-bit count (R155). -/
def inc16 (n : Nat) : Nat := (n + 1) % Config.roll16

/-- Adds to a rolling 32-bit count (R112, R164). -/
def inc32 (n : Nat) : Nat := (n + 1) % Config.roll32

/-- The sequence number after `q` (R48). -/
def nextSeq (q : Nat) : Nat := (q + 1) % Config.seqModulus

/-- How far `b` lies beyond `a`, counted upward modulo 2^24 (R51, R68). -/
def seqDistance (a b : Nat) : Nat := (b + (Config.seqModulus - a % Config.seqModulus)) % Config.seqModulus

/-! ## Signal tables and slots (chapter 8) -/

/-- The listen roles the part names (R141). -/
def roleSpeed : Nat := 0
/-- KNIFE_COUNT (R141). -/
def roleKnifeCount : Nat := 1
/-- SPREADER_STATE (R141). -/
def roleSpreader : Nat := 2
/-- CHAIN_COUNT (R141). -/
def roleChainCount : Nat := 3
/-- CHAIN_INDEX (R141). -/
def roleChainIndex : Nat := 4
/-- PRESS_STATE (R141). -/
def rolePress : Nat := 5
/-- STRIPPER_STATE (R141). -/
def roleStripper : Nat := 6
/-- STRIPPER_COUNT (R141). -/
def roleStripperCount : Nat := 7
/-- ZONE_T of zone `k` (R141). -/
def roleZoneT (k : Nat) : Nat := 8 + k
/-- ZONE_RH of zone `k` (R141). -/
def roleZoneRh (k : Nat) : Nat := 20 + k

/-- Freshness class of a role (R141). -/
inductive RoleClass where
  | speed | event | state | climate
  deriving DecidableEq, Repr, Inhabited

/-- The class of a role (R141). -/
def classOf (role : Nat) : RoleClass :=
  if role = 0 then .speed
  else if role = 1 ∨ role = 3 ∨ role = 4 ∨ role = 7 then .event
  else if role = 2 ∨ role = 5 ∨ role = 6 then .state
  else .climate

/-- The limits of a class (R147, R174). -/
def limitsOf (p : LineParams) : RoleClass → FreshLimits
  | .speed => p.speed | .event => p.event | .state => p.state | .climate => p.climate

/-- The talk roles (R152). -/
def talkKnife : Nat := 0
/-- CHAIN (R152). -/
def talkChain : Nat := 1
/-- PRESS (R152). -/
def talkPress : Nat := 2
/-- STRIPPER (R152). -/
def talkStripper : Nat := 3
/-- ZONE_CLIMATE of zone `k` (R152). -/
def talkZoneClimate (k : Nat) : Nat := 4 + k
/-- ZONE_AIR of zone `k` (R152). -/
def talkZoneAir (k : Nat) : Nat := 16 + k

/-- The destination of a talk role at this moment (R153). -/
def State.talkNode (s : State) (role : Nat) : Option Nat := (s.signals.talk.getD role none)

/-- The listen entry of a role (R141). -/
def State.listenEntry (s : State) (role : Nat) : Option ListenEntry := s.signals.listen.getD role none

/-- The slot of a role (R146). -/
def State.slot (s : State) (role : Nat) : Slot := s.signals.slots.getD role .initial

/-- The slot is LOST (R146). -/
def State.isLost (s : State) (role : Nat) : Bool := decide ((s.slot role).freshness = .lost)

/-- What a reader receives: the held value when FRESH or STALE, "no value" when LOST (R146). -/
def State.reading (s : State) (role : Nat) : Option Int :=
  if s.isLost role then none else some (s.slot role).value

/-- The role, if any, whose configured entry holds a node and channel (R143). -/
def State.roleOf (s : State) (node channel : Nat) : Option Nat :=
  (List.range 32).find? (fun r => s.listenEntry r == some { node := node, channel := channel })

/-! ## Lots (chapter 1) -/

/-- The slot with index `i` (R2). -/
def State.lotSlot (s : State) (i : Nat) : LotSlot := s.lots.slots.getD i .cleared

/-- The stage record with index `g` in the profile of slot `i` (R4). -/
def State.stageOf (s : State) (i g : Nat) : Stage := (s.lotSlot i).stages.getD g default

/-- The gap table's entry for an old and a new changeover class (R18). -/
def State.gapEntry (s : State) (old new : Nat) : Nat := s.lots.gap.getD (old * 4 + new) 0

/-! ## Canes and zones (chapter 3) -/

/-- The record is PRODUCT (R46). -/
def Cane.isProduct (c : Cane) : Bool := c.product.isSome

/-- The records of a queue held head first, each with its position: the number of records behind it toward the
tail (R50). -/
def positioned : List Cane → List (Nat × Cane)
  | [] => []
  | c :: cs => (cs.length, c) :: positioned cs

/-- The record at a position of the cane queue (R50). -/
def CaneQueue.at? (q : CaneQueue) (pos : Nat) : Option Cane :=
  if pos < q.records.length then q.records[q.records.length - 1 - pos]? else none

/-- The cane queue with the record at a position replaced. -/
def CaneQueue.setAt (q : CaneQueue) (pos : Nat) (c : Cane) : CaneQueue :=
  if pos < q.records.length then { q with records := q.records.set (q.records.length - 1 - pos) c } else q

/-- The position of sequence number `q`: (tail − q) mod 2^24, when it is below the count (R51). -/
def CaneQueue.positionOf (c : CaneQueue) (q : Nat) : Option Nat :=
  match c.records.getLast? with
  | none => none
  | some tail =>
    let pos := seqDistance q tail.sequence
    if pos < c.records.length then some pos else none

/-- The zone entry with index `k` (R52). -/
def State.zoneEntry (s : State) (k : Nat) : ZoneEntry := s.canes.zones.getD k .zero

/-- The configured zone in which a position lies (R54). -/
def State.zoneAt (s : State) (pos : Nat) : Option Nat :=
  (List.range s.canes.zoneCount).find?
    (fun k => decide ((s.zoneEntry k).first ≤ pos) && decide (pos ≤ (s.zoneEntry k).last))

/-- The PRODUCT records of the cane queue whose positions lie in zone `k` (R54, R98). -/
def State.productsIn (s : State) (k : Nat) : List Product :=
  (positioned s.canes.records).filterMap
    (fun pc => if (s.zoneEntry k).first ≤ pc.1 ∧ pc.1 ≤ (s.zoneEntry k).last then pc.2.product else none)

/-- The cane queue is at its capacity, P_exit + 1 (R50). -/
def State.queueFull (s : State) : Bool :=
  match s.canes.pExit with
  | some p => decide (s.canes.records.length = p + 1)
  | none => false

/-- A PRODUCT record stands in the loading station or in the cane queue (R126, R131). -/
def State.holdsProduct (s : State) : Bool :=
  (match s.chain.station with | some c => c.isProduct | none => false) ||
  s.canes.records.any Cane.isProduct

/-- Entries 0 to n − 1 form a contiguous map from position 0 (R53). -/
def contiguousFrom : Nat → List ZoneEntry → Bool
  | _, [] => true
  | start, z :: zs => decide (z.first = start) && decide (z.first ≤ z.last) && contiguousFrom (z.last + 1) zs

/-! ## Trunk port (chapter 9) -/

/-- A node number of 0 or 63 makes the part a silent listener (R165). -/
def Port.silent (p : Port) : Bool := decide (p.node = 0) || decide (p.node = 63)

/-- The entries of a transmit queue (R160). -/
def Port.entries (p : Port) : QueueId → List Frame
  | .urgent => p.urgent | .routine => p.routine | .management => p.management

/-- The capacity of a transmit queue (R160). -/
def queueCapacity : QueueId → Nat
  | .urgent => Config.urgentCapacity
  | .routine => Config.routineCapacity
  | .management => Config.managementCapacity

/-- The frame in contention counts toward the queue it was drawn from (R160). -/
def Port.contending (p : Port) (q : QueueId) : Nat :=
  match p.contention with
  | some f => if queueOf f.body = q then 1 else 0
  | none => 0

/-- A queue's fill: its entries plus its frame in contention (R160). -/
def Port.fill (p : Port) (q : QueueId) : Nat := (p.entries q).length + p.contending q

/-- The queue has room (R160). -/
def Port.hasRoom (p : Port) (q : QueueId) : Bool := decide (p.fill q < queueCapacity q)

/-- A ZONE_CLIMATE or an AIR_DIR, by which a later command of the zone is recognised (R104). -/
inductive ZoneCommandKind where
  | climate | air
  deriving DecidableEq, Repr, Inhabited

/-- The kind and the zone of a zone command (R104); none for every other frame. -/
def zoneKey : FrameBody → Option (ZoneCommandKind × Nat)
  | .zoneClimate k .. => some (.climate, k)
  | .airDir k _ => some (.air, k)
  | _ => none

/-! ## Pacer (chapter 2) -/

/-- The fire in flight (R22). -/
def Pacer.fire? (p : Pacer) : Option Fire :=
  match p.state with
  | .firing f => some f
  | _ => none

/-- The step in flight (R55). -/
def Chain.step? (c : Chain) : Option StepInFlight :=
  match c.stepState with
  | .stepping st => some st
  | _ => none

/-- The target of the curtain, in mm (R26): the purge length in PRIMING or when purge-pending, otherwise the
hang target of the active lot. -/
def State.curtainTarget (s : State) : Option Nat :=
  if s.sequencer.mode = .priming ∨ s.pacer.purgePending = true then some s.pacer.params.purgeLength
  else s.lots.active.map (fun i => (s.lotSlot i).header.hangTarget)

/-- The left side of the fire condition, in nm (R26). -/
def Pacer.reach (p : Pacer) : Int :=
  (p.acc : Int) + (p.lastSpeed * p.params.knifeLead : Nat) + p.correction * 1000

/-- The fire condition against a target in mm (R26). -/
def Pacer.fireCondition (p : Pacer) (target : Nat) : Bool := decide ((target * 1000000 : Nat) ≤ p.reach)

/-- A mode in which fires may be sent (R29, interlock 1). -/
def LineMode.allowsFires (m : LineMode) : Bool := decide (m = .priming) || decide (m = .running)

/-- A mode in which chain steps may be sent (R56). -/
def LineMode.allowsSteps (m : LineMode) : Bool :=
  decide (m = .priming) || decide (m = .running) || decide (m = .draining)

/-- The press command of a mode (R129): run for PRIMING and RUNNING, hold otherwise. -/
def LineMode.pressRuns (m : LineMode) : Bool := decide (m = .priming) || decide (m = .running)

/-- The number of the lowest-numbered interlock of R29 that fails, or 0 when all six hold. -/
def State.failingInterlock (s : State) : Nat :=
  if !LineMode.allowsFires s.sequencer.mode then 1
  else if s.chain.station.isSome then 2
  else if s.chain.step?.isSome then 3
  else if s.reading roleSpreader ≠ some readyCode then 4
  else if s.isLost roleKnifeCount then 5
  else if (s.talkNode talkKnife).isNone then 6
  else 0

/-- The disposition decided at this moment (R31). -/
def State.fireKind (s : State) : FireKind :=
  if s.sequencer.mode = .priming ∨ s.pacer.purgePending = true then .purge
  else if s.sequencer.mode = .running ∧ 0 < s.pacer.gapCounter then .gap
  else .hang

/-- The pacer state outside FIRING for the present mode (R34, R38, R45). -/
def State.restState (s : State) : PacerState :=
  if LineMode.allowsFires s.sequencer.mode then .forming else .idle

/-! ## Chain controller (chapter 3) -/

/-- No room at the exit (R56, case 2). -/
def State.noExitRoom (s : State) : Bool :=
  s.queueFull && (match s.canes.records.head? with | some c => c.isProduct | none => false) &&
  decide (s.discharge.entries.length = Config.dischargeCapacity)

/-- A step is allowed (R56, case 3 does not apply). -/
def State.stepAllowed (s : State) : Bool :=
  LineMode.allowsSteps s.sequencer.mode && !s.isLost roleChainCount && (s.talkNode talkChain).isSome &&
  decide (s.canes.zoneCount ≠ 0)

/-- A drain insertion is due (R67). -/
def State.insertionDue (s : State) : Bool :=
  decide (s.chain.drainTimer = .expired) && decide (s.sequencer.mode = .draining) &&
  s.chain.station.isNone && decide (s.chain.stepState = .idle) && s.pacer.fire?.isNone

/-! ## Timers -/

/-- A running timer has reached its expiry. -/
def Timer.due (t : Timer) (now : Nat) : Bool :=
  match t with
  | .running e => decide (e ≤ now)
  | .stopped => false

/-- A running latching timer has reached its expiry. -/
def LatchTimer.due (t : LatchTimer) (now : Nat) : Bool :=
  match t with
  | .running e => decide (e ≤ now)
  | _ => false

/-! ## Configuration (chapter 7) -/

/-- The configuration is complete (R127). -/
def State.configured (s : State) : Bool :=
  decide (1 ≤ s.canes.zoneCount) &&
  [roleSpeed, roleKnifeCount, roleSpreader, roleChainCount, rolePress].all
    (fun r => (s.listenEntry r).isSome) &&
  (List.range s.canes.zoneCount).all
    (fun k => (s.listenEntry (roleZoneT k)).isSome && (s.listenEntry (roleZoneRh k)).isSome) &&
  [talkKnife, talkChain, talkPress].all (fun r => (s.talkNode r).isSome) &&
  (List.range s.canes.zoneCount).all (fun k => (s.talkNode (talkZoneClimate k)).isSome)

/-- A code is listed (R132). -/
def Sequencer.lists (q : Sequencer) (code : FaultCode) : Bool := q.faults.any (fun e => decide (e.code = code))

end Sys2Proof.Machine
end

