-- ==== Sys2Proof/Machine/Ops.lean ====
section
/-!
DEFINITION. The operations that more than one command shares, each a function of the whole state, in the order
in which they call one another: the ledger, the trunk port's queues, reports, the stall timer, the chain
evaluation, the fire evaluation, the faults and the modes, the lots, the climate commands, the climate loss,
and the loss and gain of a slot.
-/

namespace Sys2Proof.Machine

/-! ## The ledger of what is handed on (R128, R150, R164, R166) -/

/-- One block hands another what the command `e` will take. -/
def State.hand (s : State) (e : Instr) : State := { s with handed := s.handed ++ [e] }

/-- The block takes what was handed to it: the oldest such entry of the ledger goes. A command that was never
handed on leaves the ledger as it is (assumption 1). -/
def State.took (s : State) (e : Instr) : State := { s with handed := s.handed.erase e }

/-- The rows by which an owner takes the outcome of one of its frames (R164). -/
def isOutcome : Instr → Bool
  | .knifeFireOutcome .. => true
  | .chainStepOutcome .. => true
  | .pressCmdOutcome .. => true
  | .zoneCommandOutcome .. => true
  | .stripOrderOutcome .. => true
  | .managementFrameOutcome .. => true
  | _ => false

/-- The oldest outcome that has been reported and not yet taken (R164). -/
def State.nextOutcome (s : State) : Option Instr := s.handed.find? isOutcome

/-- An owner takes the outcome `e` and acts on it. Outcomes reach their owners in the order the frames ended
(R164), each frame's once: an outcome that is not the oldest of those reported does not come yet, and one that
was not reported does not come. -/
def takeOutcome (e : Instr) (act : State → State) (s : State) : State :=
  if s.nextOutcome = some e then act (s.took e) else s

/-- Does `f` for 0, 1, …, n − 1, in ascending order. -/
def forEach (n : Nat) (f : Nat → State → State) (s : State) : State :=
  (List.range n).foldl (fun t k => f k t) s

/-! ## The trunk port's queues (R160, R164, R165) -/

/-- What is reported of a frame beside its outcome: its number and its content (R164). -/
def Frame.sent (f : Frame) : SentFrame := { number := f.number, content := payloadOf f.body }

/-- The command by which the owner of a frame takes its outcome (R164). -/
def outcomeEvent (f : Frame) (o : FrameOutcome) : Instr :=
  match f.body with
  | .knifeFire _ => .knifeFireOutcome f.sent o
  | .chainStep _ => .chainStepOutcome f.sent o
  | .pressCmd run => .pressCmdOutcome f.sent run o
  | .zoneClimate .. => .zoneCommandOutcome f.sent o
  | .airDir .. => .zoneCommandOutcome f.sent o
  | .stripOrder q .. => .stripOrderOutcome f.sent q o
  | .response .. => .managementFrameOutcome f.sent o
  | .report .. => .managementFrameOutcome f.sent o

/-- The number the next frame handed to the port will get (R164, assumption 6). -/
def State.nextFrame (s : State) : Nat := inc32 s.port.frameCount

/-- The queue with its entries replaced. -/
def Port.withEntries (p : Port) (q : QueueId) (es : List Frame) : Port :=
  match q with
  | .urgent => { p with urgent := es }
  | .routine => { p with routine := es }
  | .management => { p with management := es }

/-- The frame joins the tail of its queue. -/
def Port.joinTail (p : Port) (f : Frame) : Port :=
  p.withEntries (queueOf f.body) (p.entries (queueOf f.body) ++ [f])

/-- A block hands a frame to the queue of its kind (R160): it takes the next frame number (R164) and joins the
tail. In a silent listener (R165), and when the queue's fill equals its capacity (R160), it is not queued and
is reported never sent at once. -/
def handFrame (dest : Nat) (body : FrameBody) (s : State) : State :=
  let f : Frame := { number := s.nextFrame, dest := dest, body := body }
  let p : Port := { s.port with frameCount := s.nextFrame }
  if p.silent || !p.hasRoom (queueOf body) then
    State.hand { s with port := p } (outcomeEvent f .neverSent)
  else { s with port := p.joinTail f }

/-! ## Reports and responses (R170, R171) -/

/-- A block queues a report (R171). -/
def queueReport (r : Report) (s : State) : State :=
  if s.port.fill .management < Config.reportLimit then
    let t := handFrame s.agent.supervisor (.report s.agent.missed s.lineTime r) s
    if s.port.silent then { t with agent := { t.agent with missed := min 255 (s.agent.missed + 1) } }
    else { t with agent := { t.agent with missed := 0 } }
  else { s with agent := { s.agent with missed := min 255 (s.agent.missed + 1) } }

/-! ## Lots (R15, R16, R17) -/

/-- The lot table with slot `i` replaced. -/
def State.setLot (s : State) (i : Nat) (l : LotSlot) : State :=
  { s with lots := { s.lots with slots := s.lots.slots.set i l } }

/-- Slot `i` becomes FREE, its header and stages cleared, and LOT_FREED is queued with the lot number it held
(R17). -/
def freeLot (i : Nat) (s : State) : State :=
  queueReport (.lotFreed i (s.lotSlot i).header.lotNumber) (s.setLot i .cleared)

/-- A RETIRING slot whose reference count is 0 is freed (R17); any other slot stays. -/
def freeIfRetired (i : Nat) (s : State) : State :=
  if (s.lotSlot i).life = .retiring ∧ (s.lotSlot i).refCount = 0 then freeLot i s else s

/-- The count of slot `i` rises by one (R15). -/
def raiseRef (i : Nat) (s : State) : State :=
  s.setLot i { s.lotSlot i with refCount := (s.lotSlot i).refCount + 1 }

/-- The count of slot `i` falls by one at a strip completion, and the slot is freed when R17 says so. -/
def releaseRef (i : Nat) (s : State) : State :=
  freeIfRetired i (s.setLot i { s.lotSlot i with refCount := (s.lotSlot i).refCount - 1 })

/-! ## The step state and the stall timer (R63, R121) -/

/-- The step state changes; at an entry to WAITING_ROOM the stall timer starts, at an exit it stops
(R63, R121). -/
def setStepState (st : StepState) (s : State) : State :=
  let entered := decide (st = .waitingRoom) && decide (s.chain.stepState ≠ .waitingRoom)
  let left := decide (st ≠ .waitingRoom) && decide (s.chain.stepState = .waitingRoom)
  let timer : LatchTimer :=
    if entered then .running (s.lineTime + s.line.stallLimit)
    else if left then .stopped
    else s.discharge.stallTimer
  { s with chain := { s.chain with stepState := st },
           discharge := { s.discharge with stallTimer := timer } }

/-! ## Chain evaluation (R56, R58) -/

/-- The chain controller sends a step for the station record `c` through the CHAIN entry `dest` (R58). -/
def sendStep (c : Cane) (dest : Nat) (s : State) : State :=
  let number := s.nextFrame
  let t := handFrame dest (.chainStep c.isProduct) s
  setStepState (.stepping { loaded := c.isProduct, acknowledged := false, number := number })
    { t with chain := { t.chain with recommands := 0 } }

/-- The chain controller evaluates: the first case of R56 that applies. In STEPPING nothing happens (R57). -/
def evaluateChain (s : State) : State :=
  match s.chain.stepState with
  | .stepping _ => s
  | _ =>
    match s.chain.station with
    | none => setStepState .idle s
    | some c =>
      if s.noExitRoom then setStepState .waitingRoom s
      else if !s.stepAllowed then setStepState .idle s
      else
        match s.talkNode talkChain with
        | some dest => sendStep c dest s
        | none => setStepState .idle s

/-! ## The loading station (R48, R49, R67) -/

/-- A record with the next sequence number is placed in the loading station (R48, R49), and the chain
controller evaluates (R57). -/
def placeRecord (product : Option Product) (s : State) : State :=
  evaluateChain
    { s with chain := { s.chain with
               station := some { sequence := s.canes.nextSequence, hangTime := s.lineTime,
                                 product := product } },
             canes := { s.canes with nextSequence := nextSeq s.canes.nextSequence } }

/-- The record of a new PRODUCT cane of slot `i` with its recorded length in µm (R36, R49). -/
def newProduct (i length : Nat) (s : State) : Product :=
  { lot := i, length := length, moisture := (s.lotSlot i).header.initialMoisture, lastUpdate := s.lineTime,
    stage := 0, stageEntry := s.lineTime, climateUnknown := false, stageOverrun := false,
    markReject := false, markHold := false, excursion := none }

/-- The insertion test of R67: when a drain insertion is due, the drain timer stops and an EMPTY record is
placed in the station. -/
def tryInsertion (s : State) : State :=
  if s.insertionDue then placeRecord none { s with chain := { s.chain with drainTimer := .stopped } } else s

/-! ## Fire evaluation (R30, R31) -/

/-- The pacer sends a fire against `target` through the KNIFE entry `dest` (R31). -/
def sendFire (target dest : Nat) (s : State) : State :=
  let kind := s.fireKind
  let number := s.nextFrame
  let t := handFrame dest (.knifeFire (decide (kind ≠ .hang))) s
  { t with pacer := { t.pacer with
      state := .firing { kind := kind, target := target, acknowledged := false, number := number } } }

/-- The pacer state changes and nothing else. -/
def setPacerState (st : PacerState) (s : State) : State := { s with pacer := { s.pacer with state := st } }

/-- What an evaluation does in FORMING or BLOCKED (R30). With the mode no longer PRIMING or RUNNING and the
pacer not yet told, the condition is tested and interlock 1 fails (assumption 26); with no active lot there is
then no target, and the pacer becomes FORMING (DESIGN CHOICE, assumption 32). -/
def actOnCondition (s : State) : State :=
  match s.curtainTarget with
  | none => setPacerState .forming s
  | some target =>
    if !s.pacer.fireCondition target then setPacerState .forming s
    else if s.failingInterlock ≠ 0 then setPacerState .blocked s
    else
      match s.talkNode talkKnife with
      | some dest => sendFire target dest s
      | none => setPacerState .blocked s

/-- The pacer evaluates the fire condition (R27, R30); in IDLE and FIRING nothing is sent. -/
def evaluateFire (s : State) : State :=
  match s.pacer.state with
  | .forming => actOnCondition s
  | .blocked => actOnCondition s
  | _ => s

/-- A fire in flight has ended: the pacer takes its rest state, evaluates (R27), and reports the end to the
chain controller, which tests a drain insertion (R67). -/
def afterFireEnd (s : State) : State := tryInsertion (evaluateFire (setPacerState s.restState s))

/-! ## Length totals (R44) -/

/-- A length total with an amount added; past 2^64 − 1 the spec gives no value (assumption 8). -/
def addTotal (total amount : Nat) : Nat :=
  if total + amount < Config.totalModulus then total + amount
  else (Config.totalBeyondRange total amount).toNat

/-- A in µm, halves rounded up (R35). -/
def roundedLength (acc : Nat) : Nat := (acc + 500) / 1000

/-! ## The press command, the mode and the fault list (R128, R129, R132) -/

/-- The press command of the present mode is queued and the owed flag cleared; without a PRESS entry or room
in the urgent queue it is not queued and the flag is set (R129). -/
def queuePressCommand (s : State) : State :=
  match s.talkNode talkPress with
  | some dest =>
    if s.port.hasRoom .urgent then
      let t := handFrame dest (.pressCmd (LineMode.pressRuns s.sequencer.mode)) s
      { t with sequencer := { t.sequencer with pressOwed := false } }
    else { s with sequencer := { s.sequencer with pressOwed := true } }
  | none => { s with sequencer := { s.sequencer with pressOwed := true } }

/-- The line mode changes and nothing else. -/
def setMode (m : LineMode) (s : State) : State := { s with sequencer := { s.sequencer with mode := m } }

/-- Entry to a mode queues a press command, but for RUNNING and STOPPED (R128). -/
def entersWithPressCommand : LineMode → Bool
  | .running => false
  | .stopped => false
  | _ => true

/-- The four parts of R128 that are the same for every mode: the mode, the press command, MODE_CHANGE, and
the handing of the change to the pacer and the chain controller. -/
def enterModeCore (m : LineMode) (reason : ModeReason) (code : Option FaultCode) (s : State) : State :=
  let old := s.sequencer.mode
  let s1 := setMode m s
  let s2 := if entersWithPressCommand m then queuePressCommand s1 else s1
  let s3 := queueReport (.modeChange old m reason code) s2
  (s3.hand (.pacerModeChange old m)).hand (.chainModeChange old m)

/-- The fault list with the count of a listed code raised, saturating at 255 (R132). -/
def bumpFault (code : FaultCode) (es : List FaultEntry) : List FaultEntry :=
  es.map (fun e => if e.code = code then { e with count := min 255 (e.count + 1) } else e)

/-- The mode after a new fault entry (R132): HOLDING from PRIMING, RUNNING or DRAINING when the list was
empty, SAFE when it held other codes. -/
def modeAfterFault (mode : LineMode) (listWasEmpty : Bool) : LineMode :=
  if listWasEmpty then (if LineMode.allowsSteps mode then .holding else mode) else .safe

/-- A raised fault is taken by the line sequencer as one change (R132). -/
def raiseFault (code : FaultCode) (detail : Nat) (s : State) : State :=
  if s.sequencer.lists code then
    { s with sequencer := { s.sequencer with faults := bumpFault code s.sequencer.faults } }
  else
    let before := s.sequencer.mode
    let after := modeAfterFault before s.sequencer.faults.isEmpty
    let entry : FaultEntry := { code := code, time := s.lineTime, count := 1, detail := detail }
    let s1 := { s with sequencer := { s.sequencer with faults := s.sequencer.faults ++ [entry] } }
    let s2 := queueReport (.faultRaised code detail before after) s1
    if after = before then s2 else enterModeCore after .fault (some code) s2

/-- The SPEED_LOST test (R136): raised when the STRAND_SPEED slot is LOST in PRIMING or RUNNING. -/
def speedLostTest (s : State) : State :=
  if s.isLost roleSpeed && LineMode.allowsFires s.sequencer.mode then raiseFault .speedLost 0 s else s

/-- Activation at entry to RUNNING: with no slot ACTIVE the armed slot becomes ACTIVE (R12). -/
def activateArmed (s : State) : State :=
  match s.lots.active, s.lots.armed with
  | none, some a =>
    let t := s.setLot a { s.lotSlot a with life := .active }
    { t with lots := { t.lots with active := some a, armed := none } }
  | _, _ => s

/-- The line sequencer enters a mode (R128): at entry to RUNNING the lot table makes its activation test
(R12) and the curtain becomes purge-pending (R41); at entry to PRIMING the SPEED_LOST test is made (R136). -/
def enterMode (m : LineMode) (reason : ModeReason) (s : State) : State :=
  let t := enterModeCore m reason none s
  match m with
  | .running =>
    let u := activateArmed t
    { u with pacer := { u.pacer with purgePending := true } }
  | .priming => speedLostTest t
  | _ => t

/-! ## Zone commands (R102, R103, R104) -/

/-- The routine queue with the entry of the same kind and zone replaced in place (R104). -/
def replaceZoneCommand (f : Frame) (es : List Frame) : List Frame :=
  es.map (fun e => if zoneKey e.body = zoneKey f.body then f else e)

/-- An entry of the same kind and zone stands in the list (R104). -/
def hasZoneCommand (body : FrameBody) (es : List Frame) : Bool :=
  es.any (fun e => decide (zoneKey e.body = zoneKey body))

/-- A zone command is queued through the talk role `role` (R103, R104): not at all without a configured entry;
in place of a queued command of its kind and zone; at the tail while there is room; otherwise not. -/
def queueZoneCommand (role : Nat) (body : FrameBody) (s : State) : State :=
  match s.talkNode role with
  | none => s
  | some dest =>
    if hasZoneCommand body s.port.routine then
      { s with port := { s.port with
          frameCount := s.nextFrame,
          routine := replaceZoneCommand { number := s.nextFrame, dest := dest, body := body }
                       s.port.routine } }
    else if s.port.hasRoom .routine then handFrame dest body s
    else s

/-- The first output of a zone command (R103). -/
def firstOutput (form : OutputForm) (d : Int) : Nat :=
  match form with
  | .single => (127 + d).toNat
  | .divided => (max d 0).toNat
  | .biased => (max d 0).toNat

/-- The second output of a zone command (R103). -/
def secondOutput (form : OutputForm) (vMin : Nat) (d : Int) : Nat :=
  match form with
  | .single => 0
  | .divided => (max (-d) 0).toNat
  | .biased => min (vMin + (max (-d) 0).toNat) 127

/-- The zone state with index `k` (R95). -/
def State.zoneState (s : State) (k : Nat) : ZoneState := s.climate.zones.getD k .initial

/-- The zone climate unit with the state of zone `k` replaced. -/
def State.setZone (s : State) (k : Nat) (z : ZoneState) : State :=
  { s with climate := { s.climate with zones := s.climate.zones.set k z } }

/-- The ZONE_CLIMATE that zone `k` would send now (R103). -/
def State.zoneClimateBody (s : State) (k : Nat) : FrameBody :=
  .zoneClimate k (s.zoneEntry k).form (s.zoneState k).tempSetpoint
    (firstOutput (s.zoneEntry k).form (s.zoneState k).demand)
    (secondOutput (s.zoneEntry k).form (s.zoneEntry k).vMin (s.zoneState k).demand)

/-- ZONE_CLIMATE is queued for zone `k` (R103). -/
def queueZoneClimate (k : Nat) (s : State) : State :=
  queueZoneCommand (talkZoneClimate k) (s.zoneClimateBody k) s

/-- AIR_DIR is queued for zone `k` with its present direction (R103). -/
def queueAirDir (k : Nat) (s : State) : State :=
  queueZoneCommand (talkZoneAir k) (.airDir k (s.zoneState k).direction) s

/-- The humidity demand against a measured humidity (R102). -/
def demandOf (rhSetpoint : Nat) (gain : Nat) (measured : Int) : Int :=
  clamp (Int.tdiv (((rhSetpoint : Int) - measured) * gain) 16) (-127) 127

/-- The humidity demand of zone `k` at this moment: 0 when its ZONE_RH slot is LOST (R102). -/
def State.humidityDemand (s : State) (k : Nat) : Int :=
  match s.reading (roleZoneRh k) with
  | none => 0
  | some rh => demandOf (s.zoneState k).rhSetpoint (s.zoneEntry k).gain rh

/-- The demand of zone `k` is computed and stored, and ZONE_CLIMATE queued (R102). -/
def refreshDemand (k : Nat) (s : State) : State :=
  queueZoneClimate k (s.setZone k { s.zoneState k with demand := s.humidityDemand k })

/-- The stagger generator stepped once (R106). -/
def staggerStep (g : BitVec 16) : BitVec 16 :=
  (g <<< 1) ||| BitVec.ofNat 16 (Bool.toNat (g.getLsbD 15 ^^ g.getLsbD 13 ^^ g.getLsbD 12 ^^ g.getLsbD 10))

/-- The generator is stepped and the air timer of zone `k` starts from the value just produced
(R97 step 5, R107 steps 3 and 4). An expiry past the last line time is kept unbounded (DESIGN CHOICE,
assumption 33). -/
def startAirTimer (k : Nat) (s : State) : State :=
  let g := staggerStep s.climate.stagger
  let expiry := s.lineTime + (s.zoneEntry k).airBase + g.toNat % ((s.zoneEntry k).airJitter + 1)
  let t := s.setZone k { s.zoneState k with airTimer := .running expiry }
  { t with climate := { t.climate with stagger := g } }

/-! ## Climate loss (R137) -/

/-- The climate loss timer of zone `k` (R125). -/
def State.lossTimer (s : State) (k : Nat) : LatchTimer := s.sequencer.lossTimers.getD k .stopped

/-- The raised mark of zone `k` (R125). -/
def State.lossMark (s : State) (k : Nat) : Bool := s.sequencer.lossRaised.getD k false

/-- The climate loss timer and the raised mark of zone `k` are set. -/
def State.setLoss (s : State) (k : Nat) (t : LatchTimer) (mark : Bool) : State :=
  { s with sequencer := { s.sequencer with lossTimers := s.sequencer.lossTimers.set k t,
                                           lossRaised := s.sequencer.lossRaised.set k mark } }

/-- Either climate slot of zone `k` is LOST (R101, R137). -/
def State.climateLost (s : State) (k : Nat) : Bool := s.isLost (roleZoneT k) || s.isLost (roleZoneRh k)

/-- A climate slot of zone `k` has passed into LOST (R137). -/
def climateSlotLost (k : Nat) (s : State) : State :=
  if k < s.canes.zoneCount ∧ s.lossTimer k = .stopped then
    s.setLoss k (.running (s.lineTime + s.line.climateLossLimit)) false
  else s

/-- A climate slot of zone `k` has left LOST (R137). -/
def climateSlotBack (k : Nat) (s : State) : State :=
  if k < s.canes.zoneCount ∧ s.climateLost k = false then s.setLoss k .stopped false else s

/-- The climate loss check for one zone (R137). -/
def climateCheckZone (k : Nat) (s : State) : State :=
  if s.lossTimer k = .expired ∧ s.lossMark k = false ∧ s.productsIn k ≠ [] then
    raiseFault .climateLost k (s.setLoss k .expired true)
  else s

/-- The climate loss check (R137): every configured zone. The order of the zones, which decides whose number
CLIMATE_LOST carries when two qualify, is ascending (DESIGN CHOICE, assumption 22). -/
def climateCheck (s : State) : State := forEach s.canes.zoneCount climateCheckZone s

/-! ## A slot passing into and out of LOST (R148) -/

/-- The served blocks take the report that a slot has passed into LOST (R148). -/
def reportLoss (role : Nat) (s : State) : State :=
  if role = roleSpeed then speedLostTest { s with pacer := { s.pacer with lastTick := none } }
  else if role = roleChainCount ∨ role = roleChainIndex then
    { s with chain := { s.chain with revBaseline := false } }
  else if 8 ≤ role ∧ role < 20 then climateSlotLost (role - 8) s
  else if 20 ≤ role ∧ role < 32 then
    climateSlotLost (role - 20) (if role - 20 < s.canes.zoneCount then refreshDemand (role - 20) s else s)
  else s

/-- The served blocks take the report that a slot has left LOST (R148). -/
def reportGain (role : Nat) (s : State) : State :=
  if role = roleKnifeCount then evaluateFire s
  else if role = roleChainCount then evaluateChain s
  else if 8 ≤ role ∧ role < 20 then climateSlotBack (role - 8) s
  else if 20 ≤ role ∧ role < 32 then climateSlotBack (role - 20) s
  else s

/-- The signal unit with the slot of a role replaced. -/
def State.setSlot (s : State) (role : Nat) (x : Slot) : State :=
  { s with signals := { s.signals with slots := s.signals.slots.set role x } }

/-- A slot made LOST: its timers stop and its baseline is cleared; its value, status and last arrival tick are
kept (R142, R147, R154). -/
def Slot.madeLost (x : Slot) : Slot :=
  { x with freshness := .lost, staleTimer := .stopped, lostTimer := .stopped, baseline := none }

/-- The slot of a role is made LOST, and its passage is reported when it was FRESH or STALE (R148). -/
def makeLost (role : Nat) (s : State) : State :=
  let t := s.setSlot role (s.slot role).madeLost
  if s.isLost role then t else reportLoss role t

end Sys2Proof.Machine
end

