-- ==== Sys2Proof/Machine/Agent.lean ====
section
/-!
DEFINITION. The management agent: starting a directive, executing it whole, and its response (R167 to R171).
-/

namespace Sys2Proof.Machine

/-- How a directive's execution ends: the state its effects leave, the outcome, and the response body. -/
structure Answer where
  state : State
  outcome : OutcomeCode
  body : List Byte
  deriving DecidableEq, Repr, Inhabited

/-- A refused directive changes nothing and its response has no body (R169, R170). -/
def refuse (o : OutcomeCode) (s : State) : Answer := { state := s, outcome := o, body := [] }

/-- A directive that is taken: outcome DONE (R170). -/
def doneWith (body : List Byte) (s : State) : Answer := { state := s, outcome := .done, body := body }

/-- The directive stands at the head of the directive queue; or the queue is empty and the directive is one
the part would acknowledge at this moment, so that it is acknowledged and started at once (R159, R168,
assumption 12). -/
def State.atHead (s : State) (d : Directive) : Bool :=
  match s.agent.directives with
  | h :: _ => decide (h = d)
  | [] => !s.port.silent && decide (d.sender = s.agent.supervisor)

/-- The start condition (R168); `sweepGap` for a WRITE_TABLE naming MEQ, KD or MODEL (R91). -/
def State.startable (s : State) (d : Directive) (sweepGap : Bool) : Bool :=
  s.atHead d && s.port.hasRoom .management && (!sweepGap || s.drying.sweep.isNone)

/-- The started directive leaves the head of the queue (R167). -/
def popDirective (s : State) : State :=
  { s with agent := { s.agent with directives := s.agent.directives.tail } }

/-- The response of an executed directive is queued to its sender (R170). -/
def respond (d : Directive) (a : Answer) : State :=
  handFrame d.sender (.response d.tag d.code a.outcome a.body) a.state

/-- A directive is started and executed whole, or stays waiting when it cannot start (R168). -/
def runDirective (d : Directive) (sweepGap : Bool) (act : List Byte → State → Answer) (s : State) : State :=
  if s.startable d sweepGap then respond d (act d.args (popDirective s)) else s

/-- The meaning of a directive row: its code, the argument bytes the row fixes, and its execution. -/
def directive (code : Byte) (fixed : List Byte) (r : Request) (act : List Byte → State → Answer)
    (s : State) : Host.Outcome State Fault Refusal :=
  .next (runDirective (directiveOf code fixed r) false act s)

/-- The meaning of a WRITE_TABLE row that is held for the sweep gap (R91). -/
def heldDirective (code : Byte) (fixed : List Byte) (r : Request) (act : List Byte → State → Answer)
    (s : State) : Host.Outcome State Fault Refusal :=
  .next (runDirective (directiveOf code fixed r) true act s)

/-- A directive with a fixed argument length (R169). -/
def withLength (n : Nat) (act : List Byte → State → Answer) (args : List Byte) (s : State) : Answer :=
  if args.length = n then act args s else refuse .badForm s

/-- MANAGEMENT_FRAME_OUTCOME (R164, R170, R171): every outcome is taken without any change. -/
def execManagementFrameOutcome (frame : SentFrame) (outcome : FrameOutcome) (s : State) :
    Host.Outcome State Fault Refusal :=
  .next (takeOutcome (.managementFrameOutcome frame outcome) id s)

/-- AGENT_TRUNK_RESET (R167): the directive queue is emptied. -/
def execAgentTrunkReset (s : State) : Host.Outcome State Fault Refusal :=
  let t := s.took .agentTrunkReset
  .next { t with agent := { t.agent with directives := [] } }

/-- UNKNOWN_DIRECTIVE (R169): a directive without a known code is refused with BAD_FORM. A payload that does
carry a known code is not this row's. -/
def execUnknownDirective (sender : Nat) (payload : List Byte) (s : State) : Host.Outcome State Fault Refusal :=
  .next (if carriesKnownCode payload then s
         else runDirective { payload := payload, sender := sender } false (fun _ => refuse .badForm) s)

end Sys2Proof.Machine
end

