-- ==== Sys2Proof/Machine/Discharge.lean ====
section
/-!
DEFINITION. The discharge unit (chapter 6).
-/

namespace Sys2Proof.Machine

/-- The discharge unit of the state replaced. -/
def State.setDischarge (s : State) (d : Discharge) : State := { s with discharge := d }

/-! ## Entry, cut plan and disposition (R113, R114, R115) -/

/-- The piece count of a curtain of `length` µm cut for a lot (R114 steps 1 and 2). -/
def pieceCount (h : LotHeader) (length : Nat) : Nat :=
  min ((length - 1000 * (h.topTrim + h.bottomTrim)) / (1000 * h.pieceLength)) 255

/-- The scrap length in µm (R114 step 3). -/
def scrapLength (h : LotHeader) (length : Nat) : Nat :=
  length - pieceCount h length * h.pieceLength * 1000

/-- The disposition of a record with `pieces` pieces, for its lot's header (R115). -/
def dispositionOf (h : LotHeader) (p : Product) (pieces : Nat) : Disposition :=
  if p.markReject = true ∨ h.acceptMax < p.moisture ∨ (p.excursion.isSome = true ∧ h.policy = .divert) ∨
      pieces = 0 then .divert
  else if p.markHold then .setAside
  else .pack

/-- The entry of a PRODUCT record at its entry to the discharge queue (R113). -/
def newEntry (h : LotHeader) (c : Cane) (p : Product) : DischargeEntry :=
  { sequence := c.sequence, hangTime := c.hangTime, product := p,
    disposition := dispositionOf h p (pieceCount h p.length),
    pieces := pieceCount h p.length, scrap := scrapLength h p.length, late := false }

/-- The disposition is decided again with the record as it stands (R116, R118). -/
def DischargeEntry.redecided (e : DischargeEntry) (h : LotHeader) : DischargeEntry :=
  { e with disposition := dispositionOf h e.product e.pieces }

/-- A departed PRODUCT record joins the tail of the discharge queue (R113). -/
def enterDischarge (c : Cane) (p : Product) (s : State) : State :=
  s.setDischarge { s.discharge with
    entries := s.discharge.entries ++ [newEntry (s.lotSlot p.lot).header c p] }

/-! ## Orders (R117, R118) -/

/-- The STRIP_ORDER of an entry (R117). -/
def orderBody (h : LotHeader) (e : DischargeEntry) : FrameBody :=
  .stripOrder e.sequence e.disposition e.pieces h.pieceLength h.topTrim e.scrap

/-- The head is ordered when every condition of R117 holds. -/
def orderHead (s : State) : State :=
  match s.discharge.entries, s.talkNode talkStripper with
  | e :: _, some dest =>
    if s.discharge.orderOutstanding = false ∧ s.port.hasRoom .routine = true then
      let t := handFrame dest (orderBody (s.lotSlot e.product.lot).header e) s
      t.setDischarge { t.discharge with orderOutstanding := true }
    else s
  | _, _ => s

/-- STRIPPER_STATE_ARRIVAL (R117): only READY is acted on. -/
def execStripperStateArrival (value : Int) (s : State) : Host.Outcome State Fault Refusal :=
  let t := s.took (.stripperStateArrival value)
  .next (if value = readyCode then orderHead t else t)

/-- The head's order is withdrawn: the flag clears and the disposition is decided again (R118). -/
def withdrawOrder (e : DischargeEntry) (rest : List DischargeEntry) (s : State) : State :=
  s.setDischarge { s.discharge with
    orderOutstanding := false,
    entries := e.redecided (s.lotSlot e.product.lot).header :: rest }

/-- The discharge unit takes the outcome of the STRIP_ORDER that carried `sequence` (R118). -/
def takeOrderOutcome (sequence : Nat) (o : FrameOutcome) (s : State) : State :=
  match s.discharge.entries with
  | e :: rest =>
    if s.discharge.orderOutstanding = true ∧ e.sequence = sequence ∧ o ≠ .acknowledged then
      withdrawOrder e rest s
    else s
  | [] => s

/-- STRIP_ORDER_OUTCOME (R118, R164). -/
def execStripOrderOutcome (frame : SentFrame) (sequence : Nat) (outcome : FrameOutcome) (s : State) :
    Host.Outcome State Fault Refusal :=
  .next (takeOutcome (.stripOrderOutcome frame sequence outcome) (takeOrderOutcome sequence outcome) s)

/-! ## Completion and stray events (R119, R120) -/

/-- The count of a disposition rises by one (R112, R119). -/
def Discharge.counted (d : Discharge) : Disposition → Discharge
  | .pack => { d with packCount := inc32 d.packCount }
  | .setAside => { d with setAsideCount := inc32 d.setAsideCount }
  | .divert => { d with divertCount := inc32 d.divertCount }

/-- The head `e` is completed (R119): CANE_OUT, removal, count, reference count, chain evaluation. -/
def completeHead (e : DischargeEntry) (rest : List DischargeEntry) (s : State) : State :=
  let s1 := queueReport (.caneOut e (s.lotSlot e.product.lot).header.lotNumber) s
  let s2 := s1.setDischarge
    (({ s1.discharge with entries := rest, orderOutstanding := false } : Discharge).counted e.disposition)
  evaluateChain (releaseRef e.product.lot s2)

/-- `n` stray events: one DISCHARGE_NOTE for all of them (R120). -/
def strayEvents (n : Nat) (s : State) : State :=
  queueReport
    (.dischargeNote n s.discharge.entries.length (s.discharge.entries.head?.map DischargeEntry.sequence)) s

/-- A group of `n` STRIPPER_COUNT events (R119, R120). -/
def takeStripperCount (n : Nat) (s : State) : State :=
  if n = 0 then s
  else
    match s.discharge.entries with
    | e :: rest =>
      if s.discharge.orderOutstanding then
        (if n = 1 then completeHead e rest s else strayEvents (n - 1) (completeHead e rest s))
      else strayEvents n s
    | [] => strayEvents n s

/-- STRIPPER_COUNT_EVENTS (R119, R120). -/
def execStripperCountEvents (n : Nat) (s : State) : Host.Outcome State Fault Refusal :=
  .next (takeStripperCount n (s.took (.stripperCountEvents n)))

/-! ## The stall and the trunk reset (R121, R124) -/

/-- STALL_TIMER_EXPIRY (R121): DISCHARGE_STALL is asked for, with detail 1 when the head's order is
outstanding. -/
def execStallTimerExpiry (s : State) : Host.Outcome State Fault Refusal :=
  .next (if s.discharge.stallTimer.due s.lineTime then
           (s.setDischarge { s.discharge with stallTimer := .expired }).hand
             (.faultRaise .dischargeStall (if s.discharge.orderOutstanding then 1 else 0))
         else s)

/-- DISCHARGE_TRUNK_RESET (R124): the order-outstanding flag is cleared. -/
def execDischargeTrunkReset (s : State) : Host.Outcome State Fault Refusal :=
  let t := s.took .dischargeTrunkReset
  .next (t.setDischarge { t.discharge with orderOutstanding := false })

/-! ## Marks (R116) -/

/-- The mark of a MARK_CANES directive (R68). -/
inductive CaneMark where
  | reject | hold
  deriving DecidableEq, Repr, Inhabited

/-- The record with a mark set (R68). -/
def Product.marked (p : Product) : CaneMark → Product
  | .reject => { p with markReject := true }
  | .hold => { p with markHold := true }

/-- A discharge entry takes a mark (R116): with its order outstanding it is marked late, otherwise its
disposition is decided again. -/
def DischargeEntry.marked (e : DischargeEntry) (m : CaneMark) (ordered : Bool) (h : LotHeader) :
    DischargeEntry :=
  let f : DischargeEntry := { e with product := Product.marked e.product m }
  if ordered then { f with late := true } else DischargeEntry.redecided f h

end Sys2Proof.Machine
end

