-- ==== Sys2Proof/Machine/Canes.lean ====
section
/-!
DEFINITION. The directives that act on the cane records: READ_CANE (R69), MARK_CANES (R68, R116) and CLEAR_LINE
(R70).
-/

namespace Sys2Proof.Machine

/-! ## READ_CANE (R69) -/

/-- The record that a discharge entry holds (R113). -/
def DischargeEntry.cane (e : DischargeEntry) : Cane :=
  { sequence := e.sequence, hangTime := e.hangTime, product := some e.product }

/-- The station record with a sequence number. -/
def State.stationCane (s : State) (q : Nat) : Option Cane :=
  match s.chain.station with
  | some c => if c.sequence = q then some c else none
  | none => none

/-- The body for a record in the loading station (section 11.4). -/
def stationBody (c : Cane) : List Byte := 0 :: caneBytes c

/-- The body for a record of the cane queue at `pos`, with its position and zone (section 11.4). -/
def State.queueBody (s : State) (pos : Nat) (c : Cane) : List Byte :=
  1 :: (be 2 pos ++ be 1 ((s.zoneAt pos).getD 0) ++ caneBytes c)

/-- The entry flags byte (section 11.4): bit 0 late, bit 1 head with an order outstanding. -/
def entryFlags (e : DischargeEntry) (headOrdered : Bool) : Byte :=
  (if e.late then 1 else 0) ||| (if headOrdered then 2 else 0)

/-- The body for a discharge entry at index `i` from the head (section 11.4). -/
def State.entryBody (s : State) (i : Nat) (e : DischargeEntry) : List Byte :=
  2 :: (be 1 i ++ [dispositionCode e.disposition] ++ be 1 e.pieces ++ be 4 e.scrap ++
    [entryFlags e (decide (i = 0) && s.discharge.orderOutstanding)] ++ caneBytes e.cane)

/-- The record of the cane queue with sequence number `q`, with its position (R51). -/
def State.queuedCane (s : State) (q : Nat) : Option (Nat × Cane) :=
  match s.canes.positionOf q with
  | some pos => (s.canes.at? pos).map (fun c => (pos, c))
  | none => none

/-- READ_CANE by sequence number: the station, the cane queue, the discharge queue (R69). -/
def readBySequence (q : Nat) (s : State) : Answer :=
  match s.stationCane q with
  | some c => doneWith (stationBody c) s
  | none =>
    match s.queuedCane q with
    | some (pos, c) => doneWith (s.queueBody pos c) s
    | none =>
      match s.discharge.entries.findIdx? (fun e => decide (e.sequence = q)) with
      | some i => doneWith (s.entryBody i (s.discharge.entries.getD i default)) s
      | none => refuse .notFound s

/-- READ_CANE by position (R69). -/
def readByPosition (pos : Nat) (s : State) : Answer :=
  if 2047 < pos then refuse .badIndex s
  else
    match s.canes.at? pos with
    | some c => doneWith (s.queueBody pos c) s
    | none => refuse .notFound s

/-- READ_CANE with its selector and value (R69, R181). -/
def readCaneAnswer (args : List Byte) (s : State) : Answer :=
  if field args 0 1 = 0 then readBySequence (field args 1 3) s
  else if field args 0 1 = 1 then readByPosition (field args 1 3) s
  else refuse .badValue s

/-- READ_CANE (R69). -/
def execReadCane (r : Request) (s : State) : Host.Outcome State Fault Refusal :=
  directive 0x03 [] r (withLength 4 readCaneAnswer) s

/-! ## MARK_CANES (R68, R116) -/

/-- The mark a code names; none above 1 (R68, R181). -/
def markOfCode : Nat → Option CaneMark
  | 0 => some .reject | 1 => some .hold | _ => none

/-- Sequence number `q` lies in the range taken upward from `first` to `last` (R68). -/
def inSequenceRange (first last q : Nat) : Bool := decide (seqDistance first q ≤ seqDistance first last)

/-- A record in the range takes the mark; an EMPTY record is passed over (R68). -/
def Cane.marked (c : Cane) (m : CaneMark) (first last : Nat) : Cane :=
  if inSequenceRange first last c.sequence then
    { c with product := c.product.map (fun p => Product.marked p m) }
  else c

/-- A PRODUCT record in the range (R68). -/
def Cane.inMarkRange (c : Cane) (first last : Nat) : Bool :=
  c.isProduct && inSequenceRange first last c.sequence

/-- A discharge entry in the range. -/
def DischargeEntry.inMarkRange (e : DischargeEntry) (first last : Nat) : Bool :=
  inSequenceRange first last e.sequence

/-- The entries of the discharge queue after the mark; `ordered` says that the head's order is outstanding
(R116). -/
def markEntries (s : State) (m : CaneMark) (first last : Nat) (ordered : Bool) :
    List DischargeEntry → List DischargeEntry
  | [] => []
  | e :: es =>
    (if e.inMarkRange first last then e.marked m ordered (s.lotSlot e.product.lot).header else e) ::
      markEntries s m first last false es

/-- The records after the mark (R68, R116). -/
def markRecords (m : CaneMark) (first last : Nat) (s : State) : State :=
  { s with chain := { s.chain with station := s.chain.station.map (fun c => c.marked m first last) },
           canes := { s.canes with records := s.canes.records.map (fun c => c.marked m first last) },
           discharge := { s.discharge with
             entries := markEntries s m first last s.discharge.orderOutstanding s.discharge.entries } }

/-- How many PRODUCT records of the station and the cane queue the range names. -/
def State.markedOnLine (s : State) (first last : Nat) : Nat :=
  (s.chain.station.toList ++ s.canes.records).countP (fun c => c.inMarkRange first last)

/-- How many discharge entries the range names. -/
def State.markedInDischarge (s : State) (first last : Nat) : Nat :=
  s.discharge.entries.countP (fun e => e.inMarkRange first last)

/-- How many of them are counted as late: the head, when its order is outstanding (R116). -/
def State.markedLate (s : State) (first last : Nat) : Nat :=
  match s.discharge.entries with
  | e :: _ => if s.discharge.orderOutstanding && e.inMarkRange first last then 1 else 0
  | [] => 0

/-- MARK_CANES with its range and mark (R68). -/
def markCanesAnswer (args : List Byte) (s : State) : Answer :=
  let first := field args 0 3
  let last := field args 3 3
  match markOfCode (field args 6 1) with
  | none => refuse .badValue s
  | some m =>
    doneWith (be 2 (s.markedOnLine first last + s.markedInDischarge first last) ++
        be 1 (s.markedInDischarge first last) ++ be 1 (s.markedLate first last))
      (markRecords m first last s)

/-- MARK_CANES (R68, R116). -/
def execMarkCanes (r : Request) (s : State) : Host.Outcome State Fault Refusal :=
  directive 0x04 [] r (withLength 7 markCanesAnswer) s

/-! ## CLEAR_LINE (R70) -/

/-- The reference count of every slot becomes 0 (R16). -/
def clearRefs (s : State) : State :=
  { s with lots := { s.lots with slots := s.lots.slots.map (fun l => { l with refCount := 0 }) } }

/-- The three places are emptied, the re-command count is 0 and the order-outstanding mark clear (R70). -/
def emptyPlaces (s : State) : State :=
  { s with chain := { s.chain with station := none, recommands := 0 },
           canes := { s.canes with records := [] },
           discharge := { s.discharge with entries := [], orderOutstanding := false } }

/-- Every RETIRING slot is freed with LOT_FREED, in ascending slot order (R16, R17). -/
def freeRetired (s : State) : State := forEach 16 freeIfRetired s

/-- What a CLEAR_LINE that is taken does (R70): the chain controller evaluates and becomes IDLE (R57, R63), and
reports the emptied station to the pacer, which evaluates (R27). -/
def clearLine (s : State) : State := evaluateFire (evaluateChain (freeRetired (clearRefs (emptyPlaces s))))

/-- The counts of the CLEAR_LINE response (section 11.4). -/
def State.clearCounts (s : State) : List Byte :=
  be 1 s.chain.station.toList.length ++ be 1 (s.chain.station.toList.countP Cane.isProduct) ++
  be 2 s.canes.records.length ++ be 2 (s.canes.records.countP Cane.isProduct) ++
  be 1 s.discharge.entries.length ++ be 1 s.discharge.entries.length

/-- CLEAR_LINE's checks (R70). -/
def clearLineAnswer (_args : List Byte) (s : State) : Answer :=
  if s.sequencer.mode ≠ .stopped then refuse .wrongMode s
  else if s.chain.step?.isSome then refuse .wrongState s
  else doneWith s.clearCounts (clearLine s)

/-- CLEAR_LINE (R70, R16, R17). -/
def execClearLine (r : Request) (s : State) : Host.Outcome State Fault Refusal :=
  directive 0x05 [] r (withLength 0 clearLineAnswer) s

end Sys2Proof.Machine
end

