-- ==== Sys2Proof/Machine/Chain.lean ====
section
/-!
DEFINITION. The chain controller and the cane queue (chapter 3).
-/

namespace Sys2Proof.Machine

/-- The chain controller of the state replaced. -/
def State.setChain (s : State) (c : Chain) : State := { s with chain := c }

/-- A step has ended: the pacer evaluates (R27) and the drain insertion is tested (R67). -/
def afterStepEnd (s : State) : State := tryInsertion (evaluateFire s)

/-! ## Outcomes and the step timer (R59, R60) -/

/-- The step timer started for the step timeout (R59, R72). -/
def startStepTimer (s : State) : State :=
  s.setChain { s.chain with
    stepTimer := .running (s.clock + s.line.stepTimeout * Config.ticksPerMs) }

/-- A step in flight is discarded without moving a record: the timer stops, the re-command count is 0, the
state is IDLE, and CHAIN_TIMEOUT is asked for (R59, R60). -/
def failStep (detail : Nat) (s : State) : State :=
  let t := setStepState .idle (s.setChain { s.chain with recommands := 0, stepTimer := .stopped })
  afterStepEnd (t.hand (.faultRaise .chainTimeout detail))

/-- CHAIN_STEP is queued again for the step in flight, whose frame number it replaces (R59, assumption 17). -/
def recommandStep (st : StepInFlight) (s : State) : State :=
  let t := s.setChain { s.chain with recommands := s.chain.recommands + 1 }
  match t.talkNode talkChain with
  | some dest =>
    let number := t.nextFrame
    let u := handFrame dest (.chainStep st.loaded) t
    setStepState (.stepping { st with number := number }) u
  | none => t

/-- The chain controller takes the outcome of the CHAIN_STEP with frame number `number` (R59). -/
def takeStepOutcome (number : Nat) (o : FrameOutcome) (s : State) : State :=
  match s.chain.step? with
  | none => s
  | some st =>
    if st.number ≠ number then s
    else if o = .acknowledged then
      (if st.acknowledged then s
       else startStepTimer (setStepState (.stepping { st with acknowledged := true }) s))
    else if s.chain.recommands < 2 then recommandStep st s
    else failStep 1 s

/-- CHAIN_STEP_OUTCOME (R59, R164). -/
def execChainStepOutcome (frame : SentFrame) (outcome : FrameOutcome) (s : State) :
    Host.Outcome State Fault Refusal :=
  .next (takeOutcome (.chainStepOutcome frame outcome) (takeStepOutcome frame.number outcome) s)

/-- STEP_TIMER_EXPIRY (R60). -/
def execStepTimerExpiry (s : State) : Host.Outcome State Fault Refusal :=
  .next (if s.chain.stepTimer.due s.clock ∧ s.chain.step?.isSome = true then failStep 2 s else s)

/-! ## Step-done (R61, R62) -/

/-- The station record joins the cane queue at the tail (R61 step 1). -/
def stationJoins (s : State) : State :=
  match s.chain.station with
  | some c => { s with chain := { s.chain with station := none },
                       canes := { s.canes with records := s.canes.records ++ [c] } }
  | none => s

/-- The head that the queue must give up, when its count exceeds P_exit + 1 (R61 step 2). -/
def departingHead (q : CaneQueue) : Option Cane :=
  match q.pExit with
  | some p => if p + 1 < q.records.length then q.records.head? else none
  | none => none

/-- The head leaves the cane queue: PRODUCT to the discharge queue, EMPTY dropped (R62). -/
def departHead (c : Cane) (s : State) : State :=
  let t := { s with canes := { s.canes with records := s.canes.records.tail } }
  match c.product with
  | some p => enterDischarge c p t
  | none => t

/-- The drain timer is restarted for the drain time (R61 step 5, R67). -/
def startDrainTimer (s : State) : State :=
  s.setChain { s.chain with
    drainTimer := .running (s.clock + s.line.drainTime * Config.ticksPerSecond) }

/-- The step in flight ends by a step-done (R61 steps 3 to 5). -/
def endStep (s : State) : State :=
  let t := setStepState .idle
    (s.setChain { s.chain with recommands := 0, stepTimer := .stopped,
                               revCount := min 65535 (s.chain.revCount + 1) })
  if t.sequencer.mode = .draining then startDrainTimer t else t

/-- The line sequencer takes the report of a head departure (R131): a PRODUCT departure that leaves no product
behind ends a drain. -/
def reportDeparture (departed : Option Cane) (s : State) : State :=
  match departed with
  | some c =>
    if c.isProduct = true ∧ s.sequencer.mode = .draining ∧ s.holdsProduct = false then
      enterMode .stopped .drained s
    else s
  | none => s

/-- A step-done in full (R61, R62, R131, R137). -/
def stepDone (s : State) : State :=
  let s1 := stationJoins s
  let departed := departingHead s1.canes
  let s2 := match departed with | some c => departHead c s1 | none => s1
  climateCheck (reportDeparture departed (afterStepEnd (endStep s2)))

/-- A group of `n` CHAIN_COUNT events (R61, R64, R65). -/
def takeChainCount (n : Nat) (s : State) : State :=
  if n = 0 then s
  else
    match s.chain.step? with
    | some _ => if n = 1 then stepDone s else (stepDone s).hand (.faultRaise .chainSlip 2)
    | none => s.hand (.faultRaise .chainSlip 1)

/-- CHAIN_COUNT_EVENTS (R61, R64, R65). -/
def execChainCountEvents (n : Nat) (s : State) : Host.Outcome State Fault Refusal :=
  .next (takeChainCount n (s.took (.chainCountEvents n)))

/-! ## The index mark (R66) -/

/-- One CHAIN_INDEX event (R66). -/
def indexEvent (s : State) : State :=
  let t := s.setChain { s.chain with revBaseline := true, revCount := 0 }
  if s.chain.revBaseline = true ∧ s.line.stepsPerRev ≠ 0 ∧ s.chain.revCount ≠ s.line.stepsPerRev then
    t.hand (.faultRaise .chainSlip 3)
  else t

/-- CHAIN_INDEX_EVENTS (R66): the events of a group are taken one after another. -/
def execChainIndexEvents (n : Nat) (s : State) : Host.Outcome State Fault Refusal :=
  .next (forEach n (fun _ => indexEvent) (s.took (.chainIndexEvents n)))

/-! ## Draining, modes and the trunk reset (R57, R67, R72) -/

/-- DRAIN_TIMER_EXPIRY (R57, R67): the timer becomes expired, the insertion is tested, and the chain controller
evaluates whether or not a record was inserted. -/
def execDrainTimerExpiry (s : State) : Host.Outcome State Fault Refusal :=
  .next (if s.chain.drainTimer.due s.clock then
           evaluateChain (tryInsertion (s.setChain { s.chain with drainTimer := .expired }))
         else s)

/-- The drain timer's part of a mode change (R67): entering DRAINING starts it, leaving DRAINING stops it. -/
def drainModeChange (old new : LineMode) (s : State) : State :=
  if new = .draining then startDrainTimer s
  else if old = .draining then s.setChain { s.chain with drainTimer := .stopped }
  else s

/-- CHAIN_MODE_CHANGE (R57, R67): entering PRIMING, RUNNING or DRAINING is an evaluation. -/
def execChainModeChange (old new : LineMode) (s : State) : Host.Outcome State Fault Refusal :=
  let t := drainModeChange old new (s.took (.chainModeChange old new))
  .next (if LineMode.allowsSteps new then evaluateChain t else t)

/-- CHAIN_TRUNK_RESET (R72): a step not yet acknowledged gets the step timer; everything is kept. -/
def execChainTrunkReset (s : State) : Host.Outcome State Fault Refusal :=
  let t := s.took .chainTrunkReset
  .next (match t.chain.step? with
         | some st => if st.acknowledged then t else startStepTimer t
         | none => t)

end Sys2Proof.Machine
end

