-- ==== Sys2Proof/Machine/Climate.lean ====
section
/-!
DEFINITION. The zone climate unit (chapter 5).
-/

namespace Sys2Proof.Machine

/-! ## Deriving the setpoints (R98 to R101) -/

/-- The least temperature setpoint and the greatest RH setpoint of a list of stages (R98). -/
def climateOf : List Stage → Option (Int × Nat)
  | [] => none
  | g :: gs =>
    match climateOf gs with
    | none => some (g.temperature, g.humidity)
    | some (t, h) => some (min g.temperature t, max g.humidity h)

/-- The current stage of a record (R98). -/
def State.currentStage (s : State) (p : Product) : Stage := s.stageOf p.lot p.stage

/-- The target climate of a zone outside SAFE: that of its PRODUCT records, or its idle climate (R98). -/
def State.zoneTarget (s : State) (k : Nat) : Int × Nat :=
  (climateOf ((s.productsIn k).map s.currentStage)).getD ((s.zoneEntry k).idleT, (s.zoneEntry k).idleRh)

/-- The slew step of a zone (R99). -/
def slewStep (ramp interval : Nat) : Nat := ramp * interval / 60

/-- The temperature setpoint moved toward its target by at most one slew step (R99). -/
def slewed (old target : Int) (ramp interval : Nat) : Int :=
  if ramp = 0 then target
  else clamp target (old - (slewStep ramp interval : Int)) (old + (slewStep ramp interval : Int))

/-- A temperature setpoint kept inside the zone's limits (R97, R100). -/
def limitTemp (e : ZoneEntry) (t : Int) : Int := clamp t e.tMin e.tMax

/-- An RH setpoint kept inside the zone's limits (R97, R100). -/
def limitRh (e : ZoneEntry) (h : Nat) : Nat := (clamp (h : Int) e.rhMin e.rhMax).toNat

/-- The two setpoints that a derivation gives zone `k` (R98 to R101). -/
def State.derivedSetpoints (s : State) (k : Nat) : Int × Nat :=
  let e := s.zoneEntry k
  let z := s.zoneState k
  if s.sequencer.mode = .safe then (limitTemp e e.safeT, limitRh e e.safeRh)
  else if s.climateLost k then (z.tempSetpoint, z.rhSetpoint)
  else
    let target := s.zoneTarget k
    (limitTemp e (slewed z.tempSetpoint target.1 e.ramp s.drying.interval), limitRh e target.2)

/-- The two setpoints of a zone are stored. -/
def State.setSetpoints (s : State) (k : Nat) (sp : Int × Nat) : State :=
  s.setZone k { s.zoneState k with tempSetpoint := sp.1, rhSetpoint := sp.2 }

/-- One zone's derivation at the end of a sweep (R98 to R101), with its demand and ZONE_CLIMATE (R100). -/
def deriveZone (k : Nat) (s : State) : State := refreshDemand k (s.setSetpoints k (s.derivedSetpoints k))

/-- The derivation of every configured zone (R98). The order of the zones, and so of their ZONE_CLIMATE frames, is
ascending (DESIGN CHOICE, assumption 22). -/
def deriveClimate (s : State) : State := forEach s.canes.zoneCount deriveZone s

/-! ## Humidity arrivals and air timers (R102, R107) -/

/-- ZONE_RH_ARRIVAL (R102): ignored for a zone that is not configured. -/
def execZoneRhArrival (zone : Nat) (s : State) : Host.Outcome State Fault Refusal :=
  let t := s.took (.zoneRhArrival zone)
  .next (if zone < t.canes.zoneCount then refreshDemand zone t else t)

/-- FORWARD becomes REVERSE and REVERSE becomes FORWARD (R107). -/
def AirDirection.toggled : AirDirection → AirDirection
  | .forward => .reverse
  | .reverse => .forward

/-- The four parts of an air timer expiry, as one change (R107). -/
def alternateAir (k : Nat) (s : State) : State :=
  startAirTimer k (queueAirDir k
    (s.setZone k { s.zoneState k with direction := AirDirection.toggled (s.zoneState k).direction }))

/-- AIR_TIMER_EXPIRY (R107). -/
def execAirTimerExpiry (zone : Nat) (s : State) : Host.Outcome State Fault Refusal :=
  .next (if zone < s.canes.zoneCount ∧ (s.zoneState zone).airTimer.due s.lineTime = true then
           alternateAir zone s
         else s)

/-- ZONE_COMMAND_OUTCOME (R105, R164): every outcome is taken without any change. -/
def execZoneCommandOutcome (frame : SentFrame) (outcome : FrameOutcome) (s : State) :
    Host.Outcome State Fault Refusal :=
  .next (takeOutcome (.zoneCommandOutcome frame outcome) id s)

/-! ## Configuration (R97) -/

/-- Zone `k` is configured (R97 steps 1 to 5). -/
def configureZone (k : Nat) (s : State) : State :=
  let e := s.zoneEntry k
  let s1 := refreshDemand k (s.setSetpoints k (limitTemp e e.idleT, limitRh e e.idleRh))
  let s2 := queueAirDir k (s1.setZone k { s1.zoneState k with direction := .forward })
  if e.airBase = 0 then s2.setZone k { s2.zoneState k with airTimer := .stopped } else startAirTimer k s2

/-- The air timer of a zone stops (R97). -/
def stopAirTimer (k : Nat) (s : State) : State :=
  s.setZone k { s.zoneState k with airTimer := .stopped }

/-- The air timers of zones `n` to 11 stop (R97). -/
def stopAirTimersFrom (n : Nat) (s : State) : State :=
  forEach 12 (fun k t => if n ≤ k then stopAirTimer k t else t) s

/-- The zone climate unit's part of an accepted write of ZONE_COUNT with the value `n` (R97). -/
def configureZones (n : Nat) (s : State) : State := stopAirTimersFrom n (forEach n configureZone s)

end Sys2Proof.Machine
end

