-- ==== Sys2Proof/Machine/Drying.lean ====
section
/-!
DEFINITION. The drying model (chapter 4).
-/

namespace Sys2Proof.Machine

/-- The drying model of the state replaced. -/
def State.setDrying (s : State) (d : Drying) : State := { s with drying := d }

/-! ## The moisture update (R85) -/

/-- The temperature band (R85 step 1). -/
def tempBand (d : Drying) (t : Int) : Nat := min ((t - d.tBase).toNat / d.tStep) 7

/-- The humidity band (R85 step 2). -/
def rhBand (rh : Int) : Nat := min (rh.toNat / 100) 9

/-- The elapsed time in seconds, 1 to 3,600 (R85 step 4). -/
def elapsedSeconds (sweepTime lastUpdate : Nat) : Nat := min (max (sweepTime - lastUpdate) 1) 3600

/-- The fraction, at most 32,768 (R85 step 5). -/
def fraction (kd elapsed : Nat) : Nat := min (kd * elapsed / 60) 32768

/-- The change for a distance of `dist` (R85 step 7). -/
def moistureChange (dist frac : Nat) : Nat := (dist * frac + 32768) / 65536

/-- The new estimate (R85 steps 6 to 8). -/
def newMoisture (m meq frac : Nat) : Nat :=
  if meq < m then min (m - moistureChange (m - meq) frac) 9999
  else if m < meq then min (m + moistureChange (meq - m) frac) 9999
  else m

/-- The estimate `m` after an update in a climate (R85). -/
def Drying.update (d : Drying) (temp rh : Int) (elapsed m : Nat) : Nat :=
  let tb := tempBand d temp
  newMoisture m (d.meq.getD (tb * 10 + rhBand rh) 0) (fraction (d.kd.getD tb 0) elapsed)

/-! ## A visit (R83 to R90) -/

/-- The overrun test against the record's stage as it stands (R88). -/
def overrunTest (sweepTime : Nat) (stage : Stage) (p : Product) : Product :=
  if stage.maxDwell * 60 < sweepTime - p.stageEntry then { p with stageOverrun := true } else p

/-- The stage advance test (R87), for a profile of `stages` stages. -/
def advanceTest (sweepTime : Nat) (stages : List Stage) (p : Product) : Product :=
  if p.stage + 1 < stages.length ∧ p.moisture ≤ (stages.getD p.stage default).exitMoisture then
    { p with stage := p.stage + 1, stageEntry := sweepTime }
  else p

/-- The record after the update of R85 and R86. -/
def dried (d : Drying) (temp rh : Int) (sweepTime : Nat) (p : Product) : Product :=
  { p with moisture := d.update temp rh (elapsedSeconds sweepTime p.lastUpdate) p.moisture,
           lastUpdate := sweepTime, climateUnknown := false }

/-- The zone temperature lies outside the stage's band (R89). -/
def outsideBand (stage : Stage) (temp : Int) : Bool :=
  decide (temp < stage.tLow) || decide (stage.tHigh < temp)

/-- The excursion test (R89): the first excursion fills the record. -/
def excursionTest (x : Excursion) (stage : Stage) (p : Product) : Product :=
  if outsideBand stage x.temperature = true ∧ p.excursion = none then { p with excursion := some x } else p

/-- A climate-known visit of a record in zone `k` (R85 to R89). -/
def knownVisit (s : State) (sweepTime k : Nat) (temp rh : Int) (p : Product) : Product :=
  let stages := (s.lotSlot p.lot).stages
  let p1 := advanceTest sweepTime stages (dried s.drying temp rh sweepTime p)
  let stage := stages.getD p1.stage default
  excursionTest { zone := k, time := sweepTime, temperature := temp, humidity := rh, stage := p1.stage }
    stage (overrunTest sweepTime stage p1)

/-- A climate-unknown visit (R84). -/
def unknownVisit (s : State) (sweepTime : Nat) (p : Product) : Product :=
  overrunTest sweepTime (s.currentStage p) { p with climateUnknown := true }

/-- The climate of zone `k` when both slots give a value (R83). -/
def State.zoneReading (s : State) (k : Nat) : Option (Int × Int) :=
  match s.reading (roleZoneT k), s.reading (roleZoneRh k) with
  | some t, some h => some (t, h)
  | _, _ => none

/-- The zone and the climate of a visit at a position: known, or unusable (R83). -/
def State.visitClimate (s : State) (pos : Nat) : Option (Nat × Int × Int) :=
  match s.zoneAt pos with
  | some k => (s.zoneReading k).map (fun c => (k, c.1, c.2))
  | none => none

/-- The EXCURSION report of a record whose excursion a visit has just filled (R90). -/
def reportExcursion (before after : Product) (sequence : Nat) (s : State) : State :=
  match before.excursion, after.excursion with
  | none, some x =>
    queueReport (.excursion sequence after.lot (s.lotSlot after.lot).header.lotNumber x) s
  | _, _ => s

/-- The record at a position is replaced by the same cane with other PRODUCT fields. -/
def State.setProduct (s : State) (pos : Nat) (c : Cane) (p : Product) : State :=
  { s with canes := s.canes.setAt pos { c with product := some p } }

/-- The PRODUCT record `p` of cane `c` at position `pos` is visited by the sweep `w` (R83, R84, R85). -/
def visitProduct (w : Sweep) (pos : Nat) (c : Cane) (p : Product) (s : State) : State :=
  match s.visitClimate pos with
  | some (k, temp, rh) =>
    let q := knownVisit s w.time k temp rh p
    let t := (s.setProduct pos c q).setDrying { s.drying with sweep := some { w with updated := w.updated + 1 } }
    reportExcursion p q c.sequence t
  | none =>
    (s.setProduct pos c (unknownVisit s w.time p)).setDrying
      { s.drying with sweep := some { w with unknown := w.unknown + 1 } }

/-- The number after `n` in the sweep's range (R80). After the range's last number it is none (DESIGN CHOICE,
assumption 34: the spec names no next number between the taking of the last one and the sweep's end). -/
def Sweep.following (w : Sweep) (n : Nat) : Option Nat := if some n = w.last then none else some (nextSeq n)

/-- The sweep takes sequence number `n` (R80): skips it, passes over it or visits it. -/
def takeNumber (w : Sweep) (n : Nat) (s : State) : State :=
  let w1 : Sweep := { w with next := w.following n }
  match s.canes.positionOf n with
  | none => s.setDrying { s.drying with sweep := some { w1 with skipped := w1.skipped + 1 } }
  | some pos =>
    match s.canes.at? pos with
    | none => s.setDrying { s.drying with sweep := some { w1 with skipped := w1.skipped + 1 } }
    | some c =>
      match c.product with
      | none => s.setDrying { s.drying with sweep := some w1 }
      | some p => visitProduct w1 pos c p s

/-- CANE_VISIT (R80): the sweep in flight takes its next number, if one is left. -/
def execCaneVisit (s : State) : Host.Outcome State Fault Refusal :=
  .next (match s.drying.sweep with
         | none => s
         | some w =>
           match w.next with
           | none => s
           | some n => takeNumber w n s)

/-! ## The start and the end of a sweep (R78, R79, R81) -/

/-- The sweep in flight is recorded (R79). -/
def startSweep (s : State) : State :=
  let first := s.canes.records.head?.map Cane.sequence
  s.setDrying { s.drying with
    sweep := some { time := s.lineTime, first := first, last := s.canes.records.getLast?.map Cane.sequence,
                    next := first, updated := 0, unknown := 0, skipped := 0 } }

/-- The first two parts of a sweep's end (R81 steps 1 and 2), and the climate loss check (R137). -/
def closeSweep (w : Sweep) (s : State) : State :=
  let t := deriveClimate s
  climateCheck (t.setDrying { t.drying with
    sweep := none, completed := inc16 t.drying.completed,
    summary := { time := w.time, updated := w.updated, unknown := w.unknown, skipped := w.skipped } })

/-- A sweep that starts with the queue empty goes at once to its end (R79). -/
def startAndCloseEmpty (s : State) : State :=
  let t := startSweep s
  match t.drying.sweep with
  | some w => if w.next.isNone then closeSweep w t else t
  | none => t

/-- The end of a sweep (R81): an owed sweep starts at once. -/
def finishSweep (w : Sweep) (s : State) : State :=
  let t := closeSweep w s
  if t.drying.sweepPending then startAndCloseEmpty (t.setDrying { t.drying with sweepPending := false })
  else t

/-- SWEEP_END (R81): a sweep whose numbers have all been taken ends. -/
def execSweepEnd (s : State) : Host.Outcome State Fault Refusal :=
  .next (match s.drying.sweep with
         | none => s
         | some w => if w.next.isNone then finishSweep w s else s)

/-- What an expiry of the sweep timer does (R78). -/
def onSweepExpiry (s : State) : State :=
  match s.drying.sweep with
  | some _ => s.setDrying { s.drying with sweepPending := true }
  | none =>
    let t := startSweep s
    match t.drying.sweep with
    | some w => if w.next.isNone then finishSweep w t else t
    | none => t

/-- SWEEP_TIMER_EXPIRY (R77, R78): the next expiry is set before this one is acted on. -/
def execSweepTimerExpiry (s : State) : Host.Outcome State Fault Refusal :=
  .next (if s.drying.nextExpiry ≤ s.lineTime then
           onSweepExpiry (s.setDrying { s.drying with
             nextExpiry := s.drying.nextExpiry + s.drying.interval })
         else s)

end Sys2Proof.Machine
end

