-- ==== Sys2Proof/Machine/Lots.lean ====
section
/-!
DEFINITION. The lot directives (R5 to R10).
-/

namespace Sys2Proof.Machine

/-- The byte that stands for "no slot" (R10). -/
def noSlot : Nat := 255

/-- The slot number a lot directive names, checked (R5 step 2): above 15 it is refused with BAD_INDEX. -/
def withSlot (act : Nat → State → Answer) (args : List Byte) (s : State) : Answer :=
  if field args 0 1 ≤ 15 then act (field args 0 1) s else refuse .badIndex s

/-- The three content checks of LOT_OPEN beside the policy (R6). -/
def headerAccepted (h : LotHeader) : Bool :=
  decide (h.changeoverClass ≤ 3) && decide (h.initialMoisture ≤ 9999) && decide (h.acceptMax ≤ 9999)

/-- LOT_OPEN on slot `i` (R6). -/
def openLot (header : Option LotHeader) (i : Nat) (s : State) : Answer :=
  if (s.lotSlot i).life ≠ .free then refuse .wrongState s
  else
    match header with
    | none => refuse .badValue s
    | some h =>
      if headerAccepted h then
        doneWith [] (s.setLot i { life := .loading, header := h, stages := [], refCount := 0 })
      else refuse .badValue s

/-- LOT_OPEN (R5, R6). -/
def execLotOpen (r : Request) (s : State) : Host.Outcome State Fault Refusal :=
  directive 0x08 [] r
    (withLength 19 fun args => withSlot (openLot (parseHeader (args.drop 1))) args) s

/-- The field checks of LOT_STAGE (R7 step 3). -/
def stageAccepted (t : Stage) : Bool :=
  decide (t.humidity ≤ 1000) && decide (t.exitMoisture ≤ 9999) && decide (1 ≤ t.maxDwell) &&
  decide (t.maxDwell ≤ 65535)

/-- LOT_STAGE on slot `i` (R7). -/
def appendStage (t : Stage) (i : Nat) (s : State) : Answer :=
  if (s.lotSlot i).life ≠ .loading then refuse .wrongState s
  else if 12 ≤ (s.lotSlot i).stages.length then refuse .badIndex s
  else if !stageAccepted t then refuse .badValue s
  else doneWith (be 1 (s.lotSlot i).stages.length)
    (s.setLot i { s.lotSlot i with stages := (s.lotSlot i).stages ++ [t] })

/-- LOT_STAGE (R5, R7). -/
def execLotStage (r : Request) (s : State) : Host.Outcome State Fault Refusal :=
  directive 0x09 [] r (withLength 13 fun args => withSlot (appendStage (parseStage (args.drop 1))) args) s

/-- The exit moistures are strictly decreasing with the stage index (R8). -/
def strictlyDecreasing : List Stage → Bool
  | a :: b :: gs => decide (b.exitMoisture < a.exitMoisture) && strictlyDecreasing (b :: gs)
  | _ => true

/-- The validation of LOT_SEAL (R8). -/
def sealable (l : LotSlot) : Bool :=
  (match l.stages with
   | [] => false
   | g :: _ => decide (g.exitMoisture < l.header.initialMoisture)) &&
  strictlyDecreasing l.stages && l.stages.all (fun g => decide (g.tLow ≤ g.tHigh)) &&
  decide (300 ≤ l.header.hangTarget) && decide (l.header.hangTarget ≤ 3000) &&
  decide (0 < l.header.pieceLength)

/-- LOT_SEAL on slot `i` (R8). -/
def sealLot (i : Nat) (s : State) : Answer :=
  if (s.lotSlot i).life ≠ .loading then refuse .wrongState s
  else if sealable (s.lotSlot i) then doneWith [] (s.setLot i { s.lotSlot i with life := .ready })
  else refuse .badValue s

/-- LOT_SEAL (R5, R8). -/
def execLotSeal (r : Request) (s : State) : Host.Outcome State Fault Refusal :=
  directive 0x0A [] r (withLength 1 fun args => withSlot sealLot args) s

/-- LOT_DISCARD on slot `i` (R9). -/
def discardLot (i : Nat) (s : State) : Answer :=
  if (s.lotSlot i).life = .loading ∨ ((s.lotSlot i).life = .ready ∧ s.lots.armed ≠ some i) then
    doneWith [] (s.setLot i .cleared)
  else refuse .wrongState s

/-- LOT_DISCARD (R5, R9). -/
def execLotDiscard (r : Request) (s : State) : Host.Outcome State Fault Refusal :=
  directive 0x0B [] r (withLength 1 fun args => withSlot discardLot args) s

/-- The armed pointer set (R10). -/
def setArmed (a : Option Nat) (s : State) : State := { s with lots := { s.lots with armed := a } }

/-- LOT_ARM with the slot byte `b` (R5, R10). -/
def armLot (b : Nat) (s : State) : Answer :=
  if 15 < b ∧ b ≠ noSlot then refuse .badIndex s
  else if s.sequencer.mode = .safe then refuse .wrongMode s
  else if b = noSlot then doneWith [] (setArmed none s)
  else if (s.lotSlot b).life = .ready then doneWith [] (setArmed (some b) s)
  else refuse .wrongState s

/-- LOT_ARM (R5, R10). -/
def execLotArm (r : Request) (s : State) : Host.Outcome State Fault Refusal :=
  directive 0x0C [] r (withLength 1 fun args => armLot (field args 0 1)) s

end Sys2Proof.Machine
end

