-- ==== Sys2Proof/Machine/Modes.lean ====
section
/-!
DEFINITION. The MODE directives (R126, R127, R131) and ACK_FAULT (R133).
-/

namespace Sys2Proof.Machine

/-- A MODE directive whose length matches, taken from the modes `from?` (R126 steps 1 and 3). -/
def modeFrom (taken : LineMode → Bool) (act : State → Answer) (args : List Byte) (s : State) : Answer :=
  if args.length ≠ 1 then refuse .badForm s
  else if taken s.sequencer.mode then act s
  else refuse .wrongMode s

/-- The directive enters a mode with the reason DIRECTIVE (R128). -/
def enterByDirective (m : LineMode) (s : State) : Answer := doneWith [] (enterMode m .directive s)

/-- The fault list must be empty and the configuration complete (R126, R127). -/
def enterPriming (s : State) : Answer :=
  if s.sequencer.faults ≠ [] then refuse .wrongState s
  else if !s.configured then refuse .notConfigured s
  else enterByDirective .priming s

/-- MODE PRIME (R126). -/
def execModePrime (r : Request) (s : State) : Host.Outcome State Fault Refusal :=
  directive 0x10 [0] r (modeFrom (fun m => decide (m = .stopped)) enterPriming) s

/-- RUN needs an active or an armed lot and SETTLED (R126). -/
def enterRunning (s : State) : Answer :=
  if s.lots.active = none ∧ s.lots.armed = none then refuse .notConfigured s
  else if !s.pacer.settled then refuse .notSettled s
  else enterByDirective .running s

/-- MODE RUN (R126, R12, R41). -/
def execModeRun (r : Request) (s : State) : Host.Outcome State Fault Refusal :=
  directive 0x10 [1] r (modeFrom (fun m => decide (m = .priming)) enterRunning) s

/-- MODE HOLD (R126). -/
def execModeHold (r : Request) (s : State) : Host.Outcome State Fault Refusal :=
  directive 0x10 [2] r (modeFrom LineMode.allowsSteps (enterByDirective .holding)) s

/-- MODE RESUME (R126). -/
def execModeResume (r : Request) (s : State) : Host.Outcome State Fault Refusal :=
  directive 0x10 [3] r (modeFrom (fun m => decide (m = .holding)) enterPriming) s

/-- DRAINING is entered, and STOPPED at once when no product remains (R131). -/
def enterDraining (s : State) : Answer :=
  let t := enterMode .draining .directive s
  doneWith [] (if s.holdsProduct then t else enterMode .stopped .drained t)

/-- MODE DRAIN (R126, R131). -/
def execModeDrain (r : Request) (s : State) : Host.Outcome State Fault Refusal :=
  directive 0x10 [4] r
    (modeFrom (fun m => decide (m = .running) || decide (m = .holding)) enterDraining) s

/-- STOP needs, from SAFE, at most one fault entry, and from HOLDING or DRAINING, no product in the station or
the cane queue (R126). -/
def enterStopped (s : State) : Answer :=
  if s.sequencer.mode = .safe then
    (if s.sequencer.faults.length ≤ 1 then enterByDirective .stopped s else refuse .wrongState s)
  else if s.holdsProduct then refuse .wrongState s
  else enterByDirective .stopped s

/-- MODE STOP (R126). -/
def execModeStop (r : Request) (s : State) : Host.Outcome State Fault Refusal :=
  directive 0x10 [5] r
    (modeFrom (fun m => decide (m = .holding) || decide (m = .draining) || decide (m = .safe))
      enterStopped) s

/-- SAFE given in SAFE is taken and changes nothing (R126). -/
def enterSafe (s : State) : Answer :=
  if s.sequencer.mode = .safe then doneWith [] s else enterByDirective .safe s

/-- MODE SAFE (R126, R135). -/
def execModeSafe (r : Request) (s : State) : Host.Outcome State Fault Refusal :=
  directive 0x10 [6] r (modeFrom (fun _ => true) enterSafe) s

/-- LEAVE_SAFE needs an empty fault list (R126). -/
def leaveSafe (s : State) : Answer :=
  if s.sequencer.faults ≠ [] then refuse .wrongState s else enterByDirective .holding s

/-- MODE LEAVE_SAFE (R126). -/
def execModeLeaveSafe (r : Request) (s : State) : Host.Outcome State Fault Refusal :=
  directive 0x10 [7] r (modeFrom (fun m => decide (m = .safe)) leaveSafe) s

/-- A MODE directive with no known argument: BAD_FORM for a wrong length, then BAD_VALUE (R126). -/
def refuseMode (args : List Byte) (s : State) : Answer :=
  if args.length ≠ 1 then refuse .badForm s else refuse .badValue s

/-- MODE_UNKNOWN_ARGUMENT (R126, R181). An argument of 0 to 7 is another row's. -/
def execModeUnknownArgument (r : Request) (s : State) : Host.Outcome State Fault Refusal :=
  .next (if namesKnownMode r.args then s else runDirective (directiveOf 0x10 [] r) false refuseMode s)

/-- The fault list without the entry of a code; the entries after it close up (R133). -/
def removeFault (code : FaultCode) (es : List FaultEntry) : List FaultEntry :=
  es.filter (fun e => decide (e.code ≠ code))

/-- A listed fault is acknowledged (R133); for CLIMATE_LOST every raised mark is cleared (R137). -/
def acknowledgeFault (e : FaultEntry) (s : State) : Answer :=
  doneWith (be 4 e.time ++ be 1 e.count ++ be 1 e.detail)
    { s with sequencer := { s.sequencer with
        faults := removeFault e.code s.sequencer.faults,
        lossRaised := if e.code = .climateLost then s.sequencer.lossRaised.map (fun _ => false)
                      else s.sequencer.lossRaised } }

/-- ACK_FAULT with the fault code byte `b` (R133). -/
def ackFaultCode (b : Nat) (s : State) : Answer :=
  match faultOfCode b with
  | none => refuse .badValue s
  | some code =>
    match s.sequencer.faults.find? (fun e => decide (e.code = code)) with
    | none => refuse .notFound s
    | some e => acknowledgeFault e s

/-- ACK_FAULT (R133). -/
def execAckFault (r : Request) (s : State) : Host.Outcome State Fault Refusal :=
  directive 0x11 [] r (withLength 1 fun args => ackFaultCode (field args 0 1)) s

end Sys2Proof.Machine
end

