-- ==== Sys2Proof/Machine/Pacer.lean ====
section
/-!
DEFINITION. The strand pacer (chapter 2) and the switch of lots at a cut (R13, R19).
-/

namespace Sys2Proof.Machine

/-- The pacer of the state replaced. -/
def State.setPacer (s : State) (p : Pacer) : State := { s with pacer := p }

/-! ## Speed arrivals (R24, R25, R42, R43) -/

/-- The ticks from the last arrival to this one, modulo 2^32, at most 2,000 (R25 step 1). -/
def elapsedTicks (last now : Nat) : Nat := min (((now : Int) - (last : Int)) % 4294967296).toNat 2000

/-- The amount actually added to A: the whole increment or the part that fits (R25 step 3). -/
def addedLength (acc increment : Nat) : Nat := min increment (Config.accMax - acc)

/-- A and the extruded total grow by the increment, and the arrival becomes the last one (R25 steps 1 to 4). -/
def Pacer.integrate (p : Pacer) (last value tick : Nat) : Pacer :=
  let added := addedLength p.acc (p.lastSpeed * elapsedTicks last tick)
  { p with acc := p.acc + added, extruded := addTotal p.extruded added, lastSpeed := value,
           lastTick := some tick }

/-- The curtain is longer than its target and the margin (R42). Without a target there is nothing to exceed
(DESIGN CHOICE, assumption 32). -/
def State.overlong (s : State) : Bool :=
  match s.curtainTarget with
  | none => false
  | some target => decide ((target + s.pacer.params.overlengthMargin) * 1000000 < s.pacer.acc)

/-- The overlength check applies (R42). -/
def State.overlengthApplies (s : State) : Bool :=
  LineMode.allowsFires s.sequencer.mode &&
  (decide (s.pacer.state = .forming) || decide (s.pacer.state = .blocked)) && !s.pacer.purgePending

/-- The overlength check (R42): on excess the curtain becomes purge-pending and OVERLENGTH is asked for. -/
def overlengthCheck (s : State) : State :=
  if s.overlengthApplies && s.overlong then
    (s.setPacer { s.pacer with purgePending := true }).hand (.faultRaise .overlength s.failingInterlock)
  else s

/-- The settle timer starts or restarts for the settle time, and SETTLED is cleared (R43). -/
def restartSettle (s : State) : State :=
  s.setPacer { s.pacer with
    settled := false,
    settleTimer := .running (s.clock + s.pacer.params.settleTime * Config.ticksPerSecond) }

/-- An accepted speed arrival in PRIMING outside the settle window restarts the watch (R43). -/
def settleWatch (value : Nat) (s : State) : State :=
  if s.sequencer.mode = .priming ∧ (value < s.pacer.params.vMin ∨ s.pacer.params.vMax < value) then
    restartSettle s
  else s

/-- An accepted speed arrival (R24, R25). -/
def takeSpeed (value tick : Nat) (s : State) : State :=
  match s.pacer.lastTick with
  | none => settleWatch value (s.setPacer { s.pacer with lastSpeed := value, lastTick := some tick })
  | some last =>
    evaluateFire (settleWatch value (overlengthCheck (s.setPacer (s.pacer.integrate last value tick))))

/-- SPEED_ARRIVAL (R24, R25). -/
def execSpeedArrival (value tick : Nat) (s : State) : Host.Outcome State Fault Refusal :=
  .next (takeSpeed value tick (s.took (.speedArrival value tick)))

/-- SPREADER_STATE_ARRIVAL (R27): READY starts an evaluation. -/
def execSpreaderStateArrival (value : Int) (s : State) : Host.Outcome State Fault Refusal :=
  let t := s.took (.spreaderStateArrival value)
  .next (if value = readyCode then evaluateFire t else t)

/-! ## Misses (R32, R33, R34) -/

/-- A miss (R34): the fire is discarded, the miss count rises, KNIFE_FAULT is asked for at three or more, and
the pacer goes on. -/
def miss (s : State) : State :=
  let count := min 255 (s.pacer.missCount + 1)
  let t := s.setPacer { s.pacer with knifeTimer := .stopped, missCount := count }
  afterFireEnd (if 3 ≤ count then t.hand (.faultRaise .knifeFault 0) else t)

/-- The fire in flight is marked acknowledged and the knife timer starts (R32). -/
def acknowledgeFire (f : Fire) (s : State) : State :=
  s.setPacer { s.pacer with
    state := .firing { f with acknowledged := true },
    knifeTimer := .running (s.clock + s.pacer.params.knifeTimeout * Config.ticksPerMs) }

/-- The pacer takes the outcome of the KNIFE_FIRE with frame number `number` (R32). -/
def takeFireOutcome (number : Nat) (o : FrameOutcome) (s : State) : State :=
  match s.pacer.fire? with
  | none => s
  | some f =>
    if f.number ≠ number then s
    else
      match o with
      | .acknowledged => if f.acknowledged then s else acknowledgeFire f s
      | .nack => miss s
      | .neverSent => miss s

/-- KNIFE_FIRE_OUTCOME (R32, R164). -/
def execKnifeFireOutcome (frame : SentFrame) (outcome : FrameOutcome) (s : State) :
    Host.Outcome State Fault Refusal :=
  .next (takeOutcome (.knifeFireOutcome frame outcome) (takeFireOutcome frame.number outcome) s)

/-- KNIFE_TIMER_EXPIRY (R33): a miss while the fire is still in flight. -/
def execKnifeTimerExpiry (s : State) : Host.Outcome State Fault Refusal :=
  .next (if s.pacer.knifeTimer.due s.clock ∧ s.pacer.fire?.isSome = true then miss s else s)

/-! ## Cuts (R35 to R40) -/

/-- A cut's length goes whole to the hung or the waste total and A to 0; the knife timer stops (R35). -/
def Pacer.closeCurtain (p : Pacer) (kind : FireKind) : Pacer :=
  match kind with
  | .hang => { p with acc := 0, hung := addTotal p.hung p.acc, knifeTimer := .stopped }
  | .gap => { p with acc := 0, waste := addTotal p.waste p.acc, knifeTimer := .stopped }
  | .purge => { p with acc := 0, waste := addTotal p.waste p.acc, knifeTimer := .stopped }

/-- c after a HANG cut of `length` µm against `target` mm (R37). -/
def nextCorrection (c : Int) (length target : Nat) : Int :=
  clamp (c + Int.tdiv ((length : Int) - (target * 1000 : Nat)) 4) (-20000) 20000

/-- A HANG cut's record is placed and counted for the active lot (R36, R15). -/
def hangCane (length : Nat) (s : State) : State :=
  match s.lots.active with
  | some i => placeRecord (some (newProduct i length s)) (raiseRef i s)
  | none => s

/-- The cut is handed on according to its disposition (R36, R37). -/
def handOverCut (f : Fire) (length : Nat) (s : State) : State :=
  match f.kind with
  | .hang =>
    let t := hangCane length s
    t.setPacer { t.pacer with correction := nextCorrection t.pacer.correction length f.target }
  | .gap =>
    let t := placeRecord none s
    t.setPacer { t.pacer with gapCounter := t.pacer.gapCounter - 1 }
  | .purge => s.setPacer { s.pacer with purgePending := false }

/-- The switch from slot `old` to the armed slot `new` (R13, R19). -/
def switchLots (old new : Nat) (s : State) : State :=
  let gap := s.gapEntry (s.lotSlot old).header.changeoverClass (s.lotSlot new).header.changeoverClass
  let s1 := freeIfRetired old (s.setLot old { s.lotSlot old with life := .retiring })
  let s2 := s1.setLot new { s1.lotSlot new with life := .active }
  { s2 with lots := { s2.lots with active := some new, armed := none },
            pacer := { s2.pacer with gapCounter := gap } }

/-- The switch test at a completed cut in RUNNING (R13). -/
def switchTest (s : State) : State :=
  match s.lots.armed, s.lots.active with
  | some new, some old => if s.sequencer.mode = .running ∧ new ≠ old then switchLots old new s else s
  | _, _ => s

/-- A fire in flight is completed by a knife-count event (R35 to R38). -/
def completeCut (f : Fire) (s : State) : State :=
  let length := roundedLength s.pacer.acc
  let s2 := handOverCut f length (s.setPacer (s.pacer.closeCurtain f.kind))
  let s3 := switchTest (s2.setPacer { s2.pacer with missCount := 0 })
  afterFireEnd s3

/-- At an unexpected cut the whole of A goes to waste and purge-pending is cleared (R39). -/
def Pacer.dropCurtain (p : Pacer) : Pacer :=
  { p with acc := 0, waste := addTotal p.waste p.acc, purgePending := false }

/-- `n` unexpected cuts taken together, with one report for all of them (R39, R40). -/
def unexpectedCuts (n : Nat) (s : State) : State :=
  let length := roundedLength s.pacer.acc
  let t := s.setPacer s.pacer.dropCurtain
  evaluateFire (queueReport (.unexpectedCut n length (pacerStateCode s.pacer.state)) t)

/-- A group of `n` knife-count events (R40). -/
def takeKnifeCount (n : Nat) (s : State) : State :=
  if n = 0 then s
  else
    match s.pacer.fire? with
    | some f => if n = 1 then completeCut f s else unexpectedCuts (n - 1) (completeCut f s)
    | none => unexpectedCuts n s

/-- KNIFE_COUNT_EVENTS (R35, R39, R40). -/
def execKnifeCountEvents (n : Nat) (s : State) : Host.Outcome State Fault Refusal :=
  .next (takeKnifeCount n (s.took (.knifeCountEvents n)))

/-! ## Modes, the settle timer and the trunk reset (R28, R43, R45) -/

/-- SETTLE_TIMER_EXPIRY (R43): in PRIMING, SETTLED is set and the timer stops. -/
def execSettleTimerExpiry (s : State) : Host.Outcome State Fault Refusal :=
  .next (if s.pacer.settleTimer.due s.clock ∧ s.sequencer.mode = .priming then
           s.setPacer { s.pacer with settled := true, settleTimer := .stopped }
         else s)

/-- The settle timer's part of a mode change (R43): entering PRIMING starts it, leaving PRIMING stops it. -/
def settleModeChange (old new : LineMode) (s : State) : State :=
  if new = .priming then restartSettle s
  else if old = .priming then s.setPacer { s.pacer with settleTimer := .stopped }
  else s

/-- The pacer state's part of a mode change (R28). -/
def pacerFollowsMode (new : LineMode) (s : State) : State :=
  if LineMode.allowsFires new then
    evaluateFire (if s.pacer.state = .idle then setPacerState .forming s else s)
  else if s.pacer.state = .forming ∨ s.pacer.state = .blocked then setPacerState .idle s
  else s

/-- PACER_MODE_CHANGE (R28, R43). -/
def execPacerModeChange (old new : LineMode) (s : State) : Host.Outcome State Fault Refusal :=
  .next (pacerFollowsMode new (settleModeChange old new (s.took (.pacerModeChange old new))))

/-- A fire in flight is cancelled at a trunk reset, without a miss (R45). -/
def cancelFire (s : State) : State :=
  match s.pacer.fire? with
  | some _ => afterFireEnd (s.setPacer { s.pacer with knifeTimer := .stopped })
  | none => s

/-- PACER_TRUNK_RESET (R45). -/
def execPacerTrunkReset (s : State) : Host.Outcome State Fault Refusal :=
  .next (cancelFire (s.took .pacerTrunkReset))

end Sys2Proof.Machine
end

