-- ==== Sys2Proof/Machine/Sequencer.lean ====
section
/-!
DEFINITION. The line sequencer's own events (chapter 7); the MODE directives stand in Modes.lean.
-/

namespace Sys2Proof.Machine

/-- The line sequencer of the state replaced. -/
def State.setSequencer (s : State) (q : Sequencer) : State := { s with sequencer := q }

/-- FAULT_RAISE (R132). -/
def execFaultRaise (code : FaultCode) (detail : Nat) (s : State) : Host.Outcome State Fault Refusal :=
  .next (raiseFault code detail (s.took (.faultRaise code detail)))

/-- An owed press command is sent again (R129). -/
def sendOwedCommand (s : State) : State := if s.sequencer.pressOwed then queuePressCommand s else s

/-- PRESS_STATE_ARRIVAL (R129, R130): FAULT raises PRESS_FAULT, and then the owed flag is tested. -/
def execPressStateArrival (value : Int) (s : State) : Host.Outcome State Fault Refusal :=
  let t := s.took (.pressStateArrival value)
  .next (sendOwedCommand (if value = pressFaultCode then raiseFault .pressFault 0 t else t))

/-- The line sequencer takes the outcome of a PRESS_CMD that carried `run` (R129): a NACK or never-sent outcome of
the present mode's command sets the owed flag. -/
def takePressOutcome (run : Bool) (o : FrameOutcome) (s : State) : State :=
  if o ≠ .acknowledged ∧ run = LineMode.pressRuns s.sequencer.mode then
    s.setSequencer { s.sequencer with pressOwed := true }
  else s

/-- PRESS_CMD_OUTCOME (R129, R164). -/
def execPressCmdOutcome (frame : SentFrame) (run : Bool) (outcome : FrameOutcome) (s : State) :
    Host.Outcome State Fault Refusal :=
  .next (takeOutcome (.pressCmdOutcome frame run outcome) (takePressOutcome run outcome) s)

/-- CLIMATE_LOSS_TIMER_EXPIRY (R137): the timer becomes expired and the check is made. -/
def execClimateLossTimerExpiry (zone : Nat) (s : State) : Host.Outcome State Fault Refusal :=
  .next (if (s.lossTimer zone).due s.lineTime then
           climateCheck (s.setLoss zone .expired (s.lossMark zone))
         else s)

/-- LINE_SEQUENCER_TRUNK_RESET (R138): HOLDING is entered from PRIMING, RUNNING and DRAINING, and in every mode
the press command owed flag is set. -/
def execLineSequencerTrunkReset (s : State) : Host.Outcome State Fault Refusal :=
  let t := s.took .lineSequencerTrunkReset
  let u := if LineMode.allowsSteps t.sequencer.mode then enterMode .holding .trunkReset t else t
  .next (u.setSequencer { u.sequencer with pressOwed := true })

/-- The climate loss timers' part of an accepted write of ZONE_COUNT (R137, assumption 19): with a nonzero value
the timers of zones 0 to n − 1 start or stop afresh, those of the others stop, and every mark is cleared; with
0 every timer stops. -/
def restartLossTimers (n : Nat) (s : State) : State :=
  if n = 0 then forEach 12 (fun k t => t.setLoss k .stopped (t.lossMark k)) s
  else
    forEach 12 (fun k t =>
      if k < n ∧ t.climateLost k = true then t.setLoss k (.running (t.lineTime + t.line.climateLossLimit)) false
      else t.setLoss k .stopped false) s

end Sys2Proof.Machine
end

