-- ==== Sys2Proof/Machine/Signals.lean ====
section
/-!
DEFINITION. The signal unit: taking in a sample (R143 to R150), the freshness timers (R147) and the trunk
reset (R154).
-/

namespace Sys2Proof.Machine

/-- The value stored for a role (R145). -/
def storedValue (role : Nat) (v : Int) : Int :=
  if role = roleSpeed then max v 0
  else if 20 ≤ role then clamp v 0 1000
  else if classOf role = .event then v % 65536
  else v

/-- The slot at an accepted arrival of the stored value `v` at `tick` (R144, R147). -/
def Slot.accepted (x : Slot) (v : Int) (st : SampleStatus) (tick : Nat) (lim : FreshLimits) : Slot :=
  { x with freshness := .fresh, value := v, status := st, lastTick := tick, received := true,
           staleTimer := .running (tick + lim.stale * Config.ticksPerMs),
           lostTimer := .running (tick + lim.lost * Config.ticksPerMs) }

/-- The forward step of a rolling count from baseline `b` to `v` (R149). -/
def countStep (b v : Nat) : Nat := (v + (65536 - b % 65536)) % 65536

/-- How many events a count delivers (R149): none with the baseline clear, none at a restart. -/
def eventsOf (baseline : Option Nat) (v : Nat) : Nat :=
  match baseline with
  | none => 0
  | some b => if countStep b v ≤ 32767 then countStep b v else 0

/-- The command by which the served block of an EVENT role takes a group of `n` events (R150). -/
def groupEvent (role n : Nat) : Instr :=
  if role = roleKnifeCount then .knifeCountEvents n
  else if role = roleChainCount then .chainCountEvents n
  else if role = roleChainIndex then .chainIndexEvents n
  else .stripperCountEvents n

/-- What the served block of a role receives of an accepted arrival (R150): the arrival, or for an EVENT role
the events it produced, or nothing. -/
def deliveries (role : Nat) (v : Int) (tick : Nat) (baseline : Option Nat) : List Instr :=
  if classOf role = .event then
    (if eventsOf baseline v.toNat = 0 then [] else [groupEvent role (eventsOf baseline v.toNat)])
  else if role = roleSpeed then [.speedArrival v.toNat tick]
  else if role = roleSpreader then [.spreaderStateArrival v]
  else if role = rolePress then [.pressStateArrival v]
  else if role = roleStripper then [.stripperStateArrival v]
  else if 20 ≤ role then [.zoneRhArrival (role - 20)]
  else []

/-- An accepted item of a role (R144 to R150): the value is stored, the slot becomes FRESH, an EVENT role's
baseline is set, the passage out of LOST is reported (R148), and the arrival or its events are handed on. -/
def acceptItem (role : Nat) (v : Int) (st : SampleStatus) (tick : Nat) (s : State) : State :=
  let stored := storedValue role v
  let before := s.slot role
  let x := before.accepted stored st tick (limitsOf s.line (classOf role))
  let y := if classOf role = .event then { x with baseline := some stored.toNat } else x
  let t := s.setSlot role y
  let u := if before.freshness = .lost then reportGain role t else t
  (deliveries role stored tick before.baseline).foldl State.hand u

/-- One item of a SAMPLE frame from node `source` (R143, R144): a status other than good and questionable is
treated as failed. -/
def takeItem (source tick : Nat) (i : SampleItem) (s : State) : State :=
  match s.roleOf source i.channel with
  | none => s
  | some role =>
    if i.status = 0 then acceptItem role i.value .good tick s
    else if i.status = 1 then acceptItem role i.value .questionable tick s
    else s

/-- A SAMPLE payload from node `source`, form-checked (R179) and taken item by item in the frame's order
(R143). -/
def takeSample (source : Nat) (payload : List Byte) (s : State) : State :=
  if sampleFormOk payload then
    (sampleItems payload).foldl (fun t i => takeItem source s.clock i t) s
  else s

/-- A FRESH slot becomes STALE and its stale timer stops (R147). -/
def staleExpiry (role : Nat) (s : State) : State :=
  if (s.slot role).staleTimer.due s.clock ∧ (s.slot role).freshness = .fresh then
    s.setSlot role { s.slot role with freshness := .stale, staleTimer := .stopped }
  else s

/-- The lost timer of a slot expires (R147). -/
def lostExpiry (role : Nat) (s : State) : State :=
  if (s.slot role).lostTimer.due s.clock then makeLost role s else s

/-- STALE_TIMER_EXPIRY (R147, R151). -/
def execStaleTimerExpiry (role : Nat) (s : State) : Host.Outcome State Fault Refusal :=
  .next (staleExpiry role s)

/-- LOST_TIMER_EXPIRY (R147, R148, R151). -/
def execLostTimerExpiry (role : Nat) (s : State) : Host.Outcome State Fault Refusal :=
  .next (lostExpiry role s)

/-- SIGNAL_UNIT_TRUNK_RESET (R154): every slot becomes LOST, in ascending order of roles. -/
def execSignalUnitTrunkReset (s : State) : Host.Outcome State Fault Refusal :=
  .next (forEach 32 makeLost (s.took .signalUnitTrunkReset))

end Sys2Proof.Machine
end

