-- ==== Sys2Proof/Machine/Status.lean ====
section
/-!
DEFINITION. The directives that read the line's state: READ_STATUS (R175), and READ_TOTALS and CLEAR_TOTALS
(R44). The widths of the page fields are those section 11.4 gives, with assumption 21 where it leaves one open.
-/

namespace Sys2Proof.Machine

/-! ## READ_STATUS (R175) -/

/-- Page 0. -/
def State.page0 (s : State) : List Byte :=
  be 4 s.lineTime ++ [modeCode s.sequencer.mode] ++ flagByte s.sequencer.pressOwed ++
  be 2 s.sequencer.faults.length ++ be 1 s.agent.supervisor ++ be 2 s.agent.directives.length ++
  be 1 s.agent.missed ++ be 3 s.canes.nextSequence

/-- One fault entry of pages 1 and 2: code, line time, count, detail; an unused place reads as zeros. -/
def faultBytes : Option FaultEntry → List Byte
  | some e => [faultByte e.code] ++ be 4 e.time ++ be 1 e.count ++ be 1 e.detail
  | none => be 7 0

/-- Pages 1 and 2: the four fault places from index `first`. -/
def State.faultPage (s : State) (first : Nat) : List Byte :=
  ((List.range 4).map (fun k => faultBytes (s.sequencer.faults[first + k]?))).flatten

/-- Page 3: the strand pacer and the two lot pointers. -/
def State.page3 (s : State) : List Byte :=
  be 1 (pacerStateCode s.pacer.state) ++ flagByte s.pacer.settled ++ flagByte s.pacer.purgePending ++
  be 1 s.pacer.gapCounter ++ be 1 s.pacer.missCount ++ beInt 2 s.pacer.correction ++
  slotByte s.lots.armed ++ slotByte s.lots.active

/-- The kind of a record, FFh when there is none (section 11.4). -/
def kindByte : Option Cane → List Byte
  | some c => flagByte c.isProduct
  | none => [0xFF]

/-- The sequence number of a record, 0 when there is none; a kind byte stands beside it (R176). -/
def sequenceBytes (c : Option Cane) : List Byte := be 3 ((c.map Cane.sequence).getD 0)

/-- Page 4: the chain controller, the station and the cane queue. -/
def State.page4 (s : State) : List Byte :=
  [stepStateCode s.chain.stepState] ++ be 2 s.chain.recommands ++ be 2 s.chain.revCount ++
  flagByte s.chain.revBaseline ++ kindByte s.chain.station ++ be 2 s.canes.records.length ++
  sequenceBytes s.canes.records.head? ++ sequenceBytes s.canes.records.getLast? ++
  kindByte s.canes.records.head?

/-- Page 5: the discharge unit (R122). -/
def State.page5 (s : State) : List Byte :=
  be 1 s.discharge.entries.length ++
  presentSequence (s.discharge.entries.head?.map DischargeEntry.sequence) ++
  presentSequence (s.discharge.entries.getLast?.map DischargeEntry.sequence) ++
  flagByte s.discharge.orderOutstanding ++ [latchTimerCode s.discharge.stallTimer] ++
  latchTimerBytes s.discharge.stallTimer ++ be 4 s.discharge.packCount ++ be 4 s.discharge.setAsideCount ++
  be 4 s.discharge.divertCount

/-- The fields of the sweep in flight (R93): present only while one is. With its last number taken the sweep shows the
next number absent (DESIGN CHOICE, assumption 34). -/
def sweepBytes : Option Sweep → List Byte
  | some w => be 4 w.time ++ presentSequence w.next
  | none => []

/-- Page 6: the drying model (R93). -/
def State.page6 (s : State) : List Byte :=
  flagByte s.drying.sweep.isSome ++ flagByte s.drying.sweepPending ++ be 4 s.drying.nextExpiry ++
  be 2 s.drying.completed ++ be 4 s.drying.summary.time ++ be 2 s.drying.summary.updated ++
  be 2 s.drying.summary.unknown ++ be 2 s.drying.summary.skipped ++ sweepBytes s.drying.sweep

/-- One zone state (R110). A zone at or above the zone count shows a stopped air timer (R175). -/
def State.zonePart (s : State) (k : Nat) : List Byte :=
  let z := s.climate.zones.getD k .initial
  beInt 2 z.tempSetpoint ++ be 2 z.rhSetpoint ++ beInt 1 z.demand ++ [directionCode z.direction] ++
  timerBytes (if k < s.canes.zoneCount then z.airTimer else .stopped)

/-- Pages 7 to 9: the four zone states from zone `first` (R110). -/
def State.zonePage (s : State) (first : Nat) : List Byte :=
  ((List.range 4).map (fun k => s.zonePart (first + k))).flatten

/-- The time since a slot's last accepted arrival in ms, at most 16,777,215; 0 when nothing has been received
(R146, section 11.4). A part of a millisecond is dropped (DESIGN CHOICE, assumption 21). -/
def State.sinceArrival (s : State) (x : Slot) : Nat :=
  if x.received then min ((s.clock - x.lastTick) / Config.ticksPerMs) 16777215 else 0

/-- One measurement slot without its baseline (R146). -/
def State.slotPart (s : State) (role : Nat) : List Byte :=
  let x := s.slot role
  [freshnessCode x.freshness] ++ beInt 2 x.value ++ [statusCode x.status] ++ be 3 (s.sinceArrival x)

/-- A run of measurement slots. -/
def State.slotRun (s : State) (first count : Nat) : List Byte :=
  ((List.range count).map (fun k => s.slotPart (first + k))).flatten

/-- The baseline of an EVENT role: whether it is set, and its count (R146). A clear baseline carries the count 0
(DESIGN CHOICE, assumption 21). -/
def State.baselinePart (s : State) (role : Nat) : List Byte :=
  flagByte (s.slot role).baseline.isSome ++ be 2 ((s.slot role).baseline.getD 0)

/-- Page 11: roles 6 and 7, and the baselines of roles 1, 3, 4 and 7. -/
def State.page11 (s : State) : List Byte :=
  s.slotRun 6 2 ++ ([1, 3, 4, 7].map s.baselinePart).flatten

/-- Page 17: the node number, the six trunk counts and the three fills (R155, R160). -/
def State.page17 (s : State) : List Byte :=
  be 1 s.port.node ++ be 2 s.port.counts.parity ++ be 2 s.port.counts.check ++ be 2 s.port.counts.length ++
  be 2 s.port.counts.kind ++ be 2 s.port.counts.claimsLost ++ be 2 s.port.counts.resets ++
  be 2 (s.port.fill .urgent) ++ be 2 (s.port.fill .routine) ++ be 2 (s.port.fill .management)

/-- The fields of a page (R175); none outside 0 to 17. -/
def State.statusPage (s : State) : Nat → Option (List Byte)
  | 0 => some s.page0
  | 1 => some (s.faultPage 0)
  | 2 => some (s.faultPage 4)
  | 3 => some s.page3
  | 4 => some s.page4
  | 5 => some s.page5
  | 6 => some s.page6
  | 7 => some (s.zonePage 0 ++ be 2 s.climate.stagger.toNat)
  | 8 => some (s.zonePage 4)
  | 9 => some (s.zonePage 8)
  | 10 => some (s.slotRun 0 6)
  | 11 => some s.page11
  | 12 => some (s.slotRun 8 5)
  | 13 => some (s.slotRun 13 5)
  | 14 => some (s.slotRun 18 5)
  | 15 => some (s.slotRun 23 5)
  | 16 => some (s.slotRun 28 4)
  | 17 => some s.page17
  | _ => none

/-- READ_STATUS with its page number (R175, section 11.4). -/
def readStatusAnswer (args : List Byte) (s : State) : Answer :=
  match s.statusPage (field args 0 1) with
  | some fields => doneWith (be 1 (field args 0 1) ++ fields) s
  | none => refuse .badIndex s

/-- READ_STATUS (R175). -/
def execReadStatus (r : Request) (s : State) : Host.Outcome State Fault Refusal :=
  directive 0x12 [] r (withLength 1 readStatusAnswer) s

/-! ## READ_TOTALS and CLEAR_TOTALS (R44) -/

/-- The three totals and A (R44, section 11.4). -/
def totalsBody (p : Pacer) : List Byte := be 8 p.extruded ++ be 8 p.hung ++ be 8 p.waste ++ be 5 p.acc

/-- READ_TOTALS (R44). -/
def execReadTotals (r : Request) (s : State) : Host.Outcome State Fault Refusal :=
  directive 0x13 [] r (withLength 0 (fun _ t => doneWith (totalsBody t.pacer) t)) s

/-- The three totals become 0; A stays (R44). -/
def Pacer.zeroTotals (p : Pacer) : Pacer := { p with extruded := 0, hung := 0, waste := 0 }

/-- CLEAR_TOTALS (R44). -/
def execClearTotals (r : Request) (s : State) : Host.Outcome State Fault Refusal :=
  directive 0x14 [] r
    (withLength 0 (fun _ t => doneWith [] { t with pacer := t.pacer.zeroTotals })) s

end Sys2Proof.Machine
end

