-- ==== Sys2Proof/Machine/Tables.lean ====
section
/-!
DEFINITION. The table directives: READ_TABLE (R172, R181) and one WRITE_TABLE row for each table (R173).
-/

namespace Sys2Proof.Machine

/-! ## The tables (R172, section 11.5) -/

/-- The table IDs of section 11.5. -/
inductive TableId where
  | listen | talk | zone | zoneCount | meq | kd | model | gap | pacer | line | lot
  deriving DecidableEq, Repr, Inhabited

/-- The table an ID names (section 11.5); none outside 1 to 11 (R172). -/
def tableOfId : Nat → Option TableId
  | 1 => some .listen | 2 => some .talk | 3 => some .zone | 4 => some .zoneCount | 5 => some .meq
  | 6 => some .kd | 7 => some .model | 8 => some .gap | 9 => some .pacer | 10 => some .line
  | 11 => some .lot | _ => none

/-- How many entries a table holds (R172). -/
def tableLength : TableId → Nat
  | .listen => 32 | .talk => 28 | .zone => 12 | .zoneCount => 1 | .meq => 80 | .kd => 8 | .model => 1
  | .gap => 16 | .pacer => 1 | .line => 1 | .lot => 16

/-- The entry size of a table in bytes (section 11.5); table LOT has none. -/
def entrySize : TableId → Nat
  | .listen => 3 | .talk => 2 | .zone => 29 | .zoneCount => 1 | .meq => 2 | .kd => 2 | .model => 6
  | .gap => 1 | .pacer => 18 | .line => 35 | .lot => 0

/-- A table that holds one record (R172, R173). -/
def singleTable : TableId → Bool
  | .zoneCount => true | .model => true | .pacer => true | .line => true
  | .listen => false | .talk => false | .zone => false | .meq => false | .kd => false | .gap => false
  | .lot => false

/-- A first index and a count lie within a table (R172, R173): for the tables of one record the index is 0 and
the count 1; for the others the count is at least 1 and the range lies within the entries. -/
def rangeOk (t : TableId) (first count : Nat) : Bool :=
  if singleTable t then decide (first = 0) && decide (count = 1)
  else decide (1 ≤ count) && decide (first + count ≤ tableLength t)

/-! ## Reading (R172) -/

/-- The entries of a table in the layout they are written with (R182). Table LOT is read by `lotBody`. -/
def State.tableEntries (s : State) : TableId → List (List Byte)
  | .listen => s.signals.listen.map listenBytes
  | .talk => s.signals.talk.map talkBytes
  | .zone => s.canes.zones.map zoneBytes
  | .zoneCount => [be 1 s.canes.zoneCount]
  | .meq => s.drying.meq.map (be 2)
  | .kd => s.drying.kd.map (be 2)
  | .model => [modelBytes s.drying]
  | .gap => s.lots.gap.map (be 1)
  | .pacer => [pacerBytes s.pacer]
  | .line => [lineBytes s.line s.agent.supervisor]
  | .lot => []

/-- How many of `count` entries one response carries: as many whole entries as 42 bytes hold (R172,
section 11.5). -/
def entriesReturned (t : TableId) (count : Nat) : Nat := min count (42 / entrySize t)

/-- The body of READ_TABLE for a table other than LOT: ID, first index, number returned, entries. -/
def State.tableBody (s : State) (t : TableId) (id first count : Nat) : List Byte :=
  be 1 id ++ be 1 first ++ be 1 (entriesReturned t count) ++
  (((s.tableEntries t).drop first).take (entriesReturned t count)).flatten

/-- The pointer byte of a slot (section 11.5): bit 0 armed, bit 1 active. -/
def State.pointerByte (s : State) (i : Nat) : Byte :=
  (if s.lots.armed = some i then 1 else 0) ||| (if s.lots.active = some i then 2 else 0)

/-- The body of READ_TABLE LOT for slot `i` from stage `g` on (R20, section 11.5): one stage record fits. -/
def State.lotBody (s : State) (i g : Nat) : List Byte :=
  let stages := ((s.lotSlot i).stages.drop g).take 1
  be 1 11 ++ be 1 i ++ be 1 g ++ be 1 stages.length ++ [lifeCode (s.lotSlot i).life] ++ [s.pointerByte i] ++
  be 2 (s.lotSlot i).refCount ++ headerBytes (s.lotSlot i).header ++ be 1 (s.lotSlot i).stages.length ++
  (stages.map stageBytes).flatten

/-- READ_TABLE LOT with its fourth argument, the first stage (R172). -/
def readLot (i count g : Nat) (s : State) : Answer :=
  if count ≠ 1 ∨ 16 ≤ i ∨ 11 < g then refuse .badIndex s else doneWith (s.lotBody i g) s

/-- READ_TABLE of a known table, after its ID test: the length, the range and the entries (R172, R181). -/
def readKnownTable (t : TableId) (args : List Byte) (s : State) : Answer :=
  if t = .lot then
    (if args.length = 4 then readLot (field args 1 1) (field args 2 1) (field args 3 1) s
     else refuse .badForm s)
  else if args.length = 4 then refuse .badForm s
  else if rangeOk t (field args 1 1) (field args 2 1) then
    doneWith (s.tableBody t (field args 0 1) (field args 1 1) (field args 2 1)) s
  else refuse .badIndex s

/-- READ_TABLE (R172, R181). -/
def readTableAnswer (args : List Byte) (s : State) : Answer :=
  if args.length = 3 ∨ args.length = 4 then
    match tableOfId (field args 0 1) with
    | some t => readKnownTable t args s
    | none => refuse .badTable s
  else refuse .badForm s

/-- READ_TABLE (R172). -/
def execReadTable (r : Request) (s : State) : Host.Outcome State Fault Refusal :=
  directive 0x01 [] r readTableAnswer s

/-! ## The form and the range of a write (R169, R173) -/

/-- The entries that the arguments of a WRITE_TABLE carry, each of the table's entry size. -/
def entriesIn (t : TableId) (args : List Byte) : List (List Byte) :=
  entriesOf (args.drop 3) (entrySize t) (field args 2 1)

/-- The length test of a WRITE_TABLE (R169): the fixed part plus the count of entries times the entry size. -/
def withEntries (t : TableId) (act : Nat → List (List Byte) → State → Answer) (args : List Byte) (s : State) :
    Answer :=
  if args.length = 3 + field args 2 1 * entrySize t then act (field args 1 1) (entriesIn t args) s
  else refuse .badForm s

/-- The range test of a WRITE_TABLE (R173). -/
def withRange (t : TableId) (act : Nat → List (List Byte) → State → Answer) (first : Nat)
    (es : List (List Byte)) (s : State) : Answer :=
  if rangeOk t first es.length then act first es s else refuse .badIndex s

/-- The mode test of LISTEN, TALK and ZONE_COUNT (R142, R152, R53). -/
def LineMode.allowsRewiring (m : LineMode) : Bool :=
  decide (m = .stopped) || decide (m = .holding) || decide (m = .safe)

/-- The mode test comes before the range test of LISTEN and TALK (R142, R152). -/
def withModes (act : Nat → List (List Byte) → State → Answer) (first : Nat) (es : List (List Byte))
    (s : State) : Answer :=
  if LineMode.allowsRewiring s.sequencer.mode then act first es s else refuse .wrongMode s

/-- Every entry parsed, or none when one of them is malformed: any failure refuses the whole write (R182). -/
def parseAll {α : Type} (f : List Byte → Option α) : List (List Byte) → Option (List α)
  | [] => some []
  | e :: es =>
    match f e, parseAll f es with
    | some x, some xs => some (x :: xs)
    | _, _ => none

/-- The entries from index `first` on replaced by the entries written (R173). -/
def replaced {α : Type} (table : List α) (first : Nat) (new : List α) : List α :=
  table.take first ++ new ++ table.drop (first + new.length)

/-- The entry at index 0 of a single-record write. -/
def soleEntry (es : List (List Byte)) : List Byte := es.headD []

/-! ## LISTEN (R142) -/

/-- No two configured entries hold the same node and channel (R142). -/
def distinctSources : List (Option ListenEntry) → Bool
  | [] => true
  | none :: es => distinctSources es
  | some e :: es => !es.contains (some e) && distinctSources es

/-- The entries are replaced, and every written role's slot is made LOST (R142). Several losses are reported in
ascending order of roles (DESIGN CHOICE, assumption 22). -/
def storeListen (first : Nat) (new : List (Option ListenEntry)) (s : State) : State :=
  forEach new.length (fun k => makeLost (first + k))
    { s with signals := { s.signals with listen := replaced s.signals.listen first new } }

/-- WRITE_TABLE LISTEN after its mode and range tests (R142). -/
def writeListen (first : Nat) (es : List (List Byte)) (s : State) : Answer :=
  match parseAll parseListen es with
  | none => refuse .badValue s
  | some new =>
    if distinctSources (replaced s.signals.listen first new) then doneWith [] (storeListen first new s)
    else refuse .badValue s

/-- WRITE_TABLE LISTEN (R142, R148). -/
def execWriteTableListen (r : Request) (s : State) : Host.Outcome State Fault Refusal :=
  directive 0x02 [1] r (withEntries .listen (withModes (withRange .listen writeListen))) s

/-! ## TALK (R152) -/

/-- The entries are replaced; a write that touches KNIFE or CHAIN starts an evaluation (R152, R27, R57). -/
def storeTalk (first : Nat) (new : List (Option Nat)) (s : State) : State :=
  let t : State := { s with signals := { s.signals with talk := replaced s.signals.talk first new } }
  let u := if first ≤ talkKnife ∧ talkKnife < first + new.length then evaluateFire t else t
  if first ≤ talkChain ∧ talkChain < first + new.length then evaluateChain u else u

/-- WRITE_TABLE TALK after its mode and range tests (R152). -/
def writeTalk (first : Nat) (es : List (List Byte)) (s : State) : Answer :=
  match parseAll (parseTalk s.port.node) es with
  | none => refuse .badValue s
  | some new => doneWith [] (storeTalk first new s)

/-- WRITE_TABLE TALK (R152). -/
def execWriteTableTalk (r : Request) (s : State) : Host.Outcome State Fault Refusal :=
  directive 0x02 [2] r (withEntries .talk (withModes (withRange .talk writeTalk))) s

/-! ## ZONE and ZONE_COUNT (R52, R53, R96, R97) -/

/-- WRITE_TABLE ZONE after its range test (R52, R96). -/
def writeZone (first : Nat) (es : List (List Byte)) (s : State) : Answer :=
  match parseAll parseZone es with
  | none => refuse .badValue s
  | some new => doneWith [] { s with canes := { s.canes with zones := replaced s.canes.zones first new } }

/-- ZONE is taken only while the zone count is 0 (R52, assumption 18). -/
def withZoneCountZero (act : Nat → List (List Byte) → State → Answer) (first : Nat) (es : List (List Byte))
    (s : State) : Answer :=
  if s.canes.zoneCount = 0 then act first es s else refuse .wrongState s

/-- WRITE_TABLE ZONE (R52, R96). -/
def execWriteTableZone (r : Request) (s : State) : Host.Outcome State Fault Refusal :=
  directive 0x02 [3] r (withEntries .zone (withZoneCountZero (withRange .zone writeZone))) s

/-- The line holds a cane record in one of its three places (R53). -/
def State.holdsRecords (s : State) : Bool :=
  s.chain.station.isSome || !s.canes.records.isEmpty || !s.discharge.entries.isEmpty

/-- P_exit for a zone count of `n` (R53): the last position of zone n − 1; none for 0. -/
def State.exitFor (s : State) (n : Nat) : Option Nat := if n = 0 then none else some (s.zoneEntry (n - 1)).last

/-- The zone count is stored with P_exit, the zones are configured (R97), the climate loss timers follow
(R137), and the chain controller evaluates (R57). -/
def storeZoneCount (n : Nat) (s : State) : State :=
  evaluateChain (restartLossTimers n (configureZones n
    { s with canes := { s.canes with zoneCount := n, pExit := s.exitFor n } }))

/-- The checks of R53 after the index test, in their order. -/
def writeZoneCount (n : Nat) (s : State) : Answer :=
  if LineMode.allowsRewiring s.sequencer.mode = false then refuse .wrongMode s
  else if 12 < n then refuse .badValue s
  else if s.holdsRecords then refuse .wrongState s
  else if contiguousFrom 0 (s.canes.zones.take n) then doneWith [] (storeZoneCount n s)
  else refuse .badValue s

/-- WRITE_TABLE ZONE_COUNT (R53, R97, R137). -/
def execWriteTableZoneCount (r : Request) (s : State) : Host.Outcome State Fault Refusal :=
  directive 0x02 [4] r
    (withEntries .zoneCount
      (withRange .zoneCount (fun _ es t => writeZoneCount (field (soleEntry es) 0 1) t))) s

/-! ## MEQ, KD and MODEL (R74, R75, R76, R91) -/

/-- An MEQ entry of 2 bytes; none above 9,999 (R74). -/
def parseMeq (bs : List Byte) : Option Nat := if field bs 0 2 ≤ 9999 then some (field bs 0 2) else none

/-- WRITE_TABLE MEQ after its range test (R74). -/
def writeMeq (first : Nat) (es : List (List Byte)) (s : State) : Answer :=
  match parseAll parseMeq es with
  | none => refuse .badValue s
  | some new => doneWith [] (s.setDrying { s.drying with meq := replaced s.drying.meq first new })

/-- WRITE_TABLE MEQ (R74, R91). -/
def execWriteTableMeq (r : Request) (s : State) : Host.Outcome State Fault Refusal :=
  heldDirective 0x02 [5] r (withEntries .meq (withRange .meq writeMeq)) s

/-- WRITE_TABLE KD after its range test: every 16-bit value is valid (R75). -/
def writeKd (first : Nat) (es : List (List Byte)) (s : State) : Answer :=
  doneWith [] (s.setDrying { s.drying with
    kd := replaced s.drying.kd first (es.map (fun e => field e 0 2)) })

/-- WRITE_TABLE KD (R75, R91). -/
def execWriteTableKd (r : Request) (s : State) : Host.Outcome State Fault Refusal :=
  heldDirective 0x02 [6] r (withEntries .kd (withRange .kd writeKd)) s

/-- WRITE_TABLE MODEL after its index test (R76). -/
def writeModel (entry : List Byte) (s : State) : Answer :=
  match parseModel entry with
  | none => refuse .badValue s
  | some m => doneWith [] (s.setDrying { s.drying with
      tBase := m.tBase, tStep := m.tStep, interval := m.interval })

/-- WRITE_TABLE MODEL (R76, R91). -/
def execWriteTableModel (r : Request) (s : State) : Host.Outcome State Fault Refusal :=
  heldDirective 0x02 [7] r
    (withEntries .model (withRange .model (fun _ es t => writeModel (soleEntry es) t))) s

/-! ## GAP, PACER and LINE (R18, R23, R174) -/

/-- WRITE_TABLE GAP after its range test (R18). -/
def writeGap (first : Nat) (es : List (List Byte)) (s : State) : Answer :=
  doneWith [] { s with lots := { s.lots with
    gap := replaced s.lots.gap first (es.map (fun e => field e 0 1)) } }

/-- WRITE_TABLE GAP (R18). -/
def execWriteTableGap (r : Request) (s : State) : Host.Outcome State Fault Refusal :=
  directive 0x02 [8] r (withEntries .gap (withRange .gap writeGap)) s

/-- WRITE_TABLE PACER after its index test (R23). -/
def writePacer (entry : List Byte) (s : State) : Answer :=
  match parsePacer entry with
  | none => refuse .badValue s
  | some p => doneWith [] { s with pacer := { s.pacer with params := p } }

/-- WRITE_TABLE PACER (R23). -/
def execWriteTablePacer (r : Request) (s : State) : Host.Outcome State Fault Refusal :=
  directive 0x02 [9] r
    (withEntries .pacer (withRange .pacer (fun _ es t => writePacer (soleEntry es) t))) s

/-- WRITE_TABLE LINE after its index test (R174). -/
def writeLine (entry : List Byte) (s : State) : Answer :=
  match parseLine s.port.node entry with
  | none => refuse .badValue s
  | some (p, node) => doneWith [] { s with line := p, agent := { s.agent with supervisor := node } }

/-- WRITE_TABLE LINE (R174). -/
def execWriteTableLine (r : Request) (s : State) : Host.Outcome State Fault Refusal :=
  directive 0x02 [10] r
    (withEntries .line (withRange .line (fun _ es t => writeLine (soleEntry es) t))) s

/-! ## Tables that cannot be written (R169, R173) -/

/-- A WRITE_TABLE that names no writable table: BAD_TABLE before its length is compared (R169); without a
table ID, BAD_FORM (assumption 20). -/
def refuseTable (args : List Byte) (s : State) : Answer :=
  if args = [] then refuse .badForm s else refuse .badTable s

/-- WRITE_TABLE_UNWRITABLE (R169, R173, R20). A table ID of 1 to 10 is another row's. -/
def execWriteTableUnwritable (r : Request) (s : State) : Host.Outcome State Fault Refusal :=
  .next (if namesWritableTable r.args then s else runDirective (directiveOf 0x02 [] r) false refuseTable s)

end Sys2Proof.Machine
end

