-- ==== Sys2Proof/Machine/Trunk.lean ====
section
/-!
DEFINITION. The trunk port (chapter 9), the line clock (R1) and power-on (R165).
-/

namespace Sys2Proof.Machine

/-- The port of the state replaced. -/
def State.setPort (s : State) (p : Port) : State := { s with port := p }

/-! ## Discards and receptions (R157) -/

/-- The count of a discard cause rises by one (R155, R157). -/
def TrunkCounts.discard (c : TrunkCounts) : DiscardCause → TrunkCounts
  | .parity => { c with parity := inc16 c.parity }
  | .length => { c with length := inc16 c.length }
  | .check => { c with check := inc16 c.check }
  | .kind => { c with kind := inc16 c.kind }

/-- A frame with a discard cause is dropped and its first cause counted (R157). -/
def discardFrame (cause : DiscardCause) (s : State) : State :=
  s.setPort { s.port with counts := s.port.counts.discard cause }

/-- An open reception is cut off before its END mark: the frame is discarded and counted for its first cause
(R157, assumption 10). Without an open reception nothing is discarded. -/
def cutOffReception (received : List RxChar) (s : State) : State :=
  if s.port.reception = .closed then s
  else
    match discardCause received false with
    | some cause => discardFrame cause s
    | none => s

/-- The trunk state of R155 and the reception are set together. -/
def setTrunk (t : TrunkState) (r : Reception) (s : State) : State :=
  s.setPort { s.port with trunk := t, reception := r }

/-- A whole frame is taken by kind (R158): a SAMPLE goes to the signal unit; a DIRECTIVE was taken in its
acknowledge slot (R159); every other frame is ignored. -/
def takeFrame (bs : List Byte) (s : State) : State :=
  if rxKind bs = 1 then takeSample (claimNode bs) (rxPayload bs) s else s

/-- A reception closes (R157): tested, and discarded and counted or taken. -/
def endReception (received : List RxChar) (ending : ReceptionEnding) (s : State) : State :=
  if s.port.reception = .closed then s
  else
    let t := setTrunk .busy .closed s
    match discardCause received (decide (ending = .endMark)) with
    | some cause => discardFrame cause t
    | none => takeFrame (received.map RxChar.data) t

/-- RECEPTION_END (R157, R158). -/
def execReceptionEnd (received : List RxChar) (ending : ReceptionEnding) (s : State) :
    Host.Outcome State Fault Refusal :=
  .next (endReception received ending s)

/-! ## Line conditions (R155, R177) -/

/-- IDLE_GAP (R155): 18 recessive bit times make the trunk IDLE and cut off an open reception (R157). -/
def execIdleGap (received : List RxChar) (s : State) : Host.Outcome State Fault Refusal :=
  .next (if s.port.trunk = .reset then s
         else
           let t := setTrunk .idle .closed (cutOffReception received s)
           t.setPort { t.port with synced := true })

/-- START_MARK of another node (R155): the trunk becomes BUSY and a reception opens; a reception that was open
is cut off (R157, R177). Before the first idle gap after power-on the port takes no frame. -/
def execStartMark (received : List RxChar) (s : State) : Host.Outcome State Fault Refusal :=
  .next (if s.port.trunk = .reset then s
         else setTrunk .busy (if s.port.synced then .receiving else .closed) (cutOffReception received s))

/-- DOMINANT_RUN (R155): a run of 1 to 9 or 16 to 63 bit times with no reception open makes the trunk BUSY. -/
def execDominantRun (bits : Nat) (s : State) : Host.Outcome State Fault Refusal :=
  .next (if s.port.trunk = .reset ∨ s.port.reception ≠ .closed ∨ dominantRunOk bits = false then s
         else setTrunk .busy .closed s)

/-- TRUNK_RESET_RELEASED (R155): the trunk goes recessive after a trunk reset. -/
def execTrunkResetReleased (s : State) : Host.Outcome State Fault Refusal :=
  .next (if s.port.trunk = .reset then setTrunk .busy s.port.reception s else s)

/-- The port's part of a trunk reset (R166): queues, contention and reception go, and the reset is counted. -/
def Port.trunkReset (p : Port) : Port :=
  let c := if p.reception = .closed then p.counts else p.counts.discard .length
  { p with trunk := .reset, reception := .closed, urgent := [], routine := [], management := [],
           contention := none, counts := { c with resets := inc16 c.resets } }

/-- The six blocks a trunk reset is handed to (R166). -/
def trunkResetEvents : List Instr :=
  [.signalUnitTrunkReset, .pacerTrunkReset, .chainTrunkReset, .dischargeTrunkReset,
   .lineSequencerTrunkReset, .agentTrunkReset]

/-- TRUNK_RESET (R166): taken once, when the trunk state becomes RESET. -/
def execTrunkReset (s : State) : Host.Outcome State Fault Refusal :=
  .next (if s.port.trunk = .reset then s
         else trunkResetEvents.foldl State.hand (s.setPort s.port.trunkReset))

/-! ## The acknowledge slot of a directive (R159) -/

/-- The frame is a whole DIRECTIVE addressed to the part (R157, R158). -/
def directiveForUs (received : List RxChar) (p : Port) : Bool :=
  (discardCause received true).isNone && decide (rxKind (received.map RxChar.data) = 3) &&
  decide (rxDest (received.map RxChar.data) = p.node) && !p.silent

/-- The access check and the room test (R159). -/
def admitsDirective (received : List RxChar) (a : Agent) : Bool :=
  decide (claimNode (received.map RxChar.data) = a.supervisor) &&
  decide (a.directives.length < Config.directiveCapacity)

/-- The directive a frame carries (R167). -/
def rxDirective (received : List RxChar) : Directive :=
  { payload := rxPayload (received.map RxChar.data), sender := claimNode (received.map RxChar.data) }

/-- DIRECTIVE_ACKNOWLEDGE (R159): acknowledged and queued when the sender is the supervisor node and the
directive queue has room; otherwise the slot is left recessive. A frame that is no whole directive to the part
is not the part's to acknowledge. -/
def execDirectiveAcknowledge (received : List RxChar) (s : State) : Host.Outcome State Fault Refusal :=
  .next (if s.port.reception = .receiving ∧ directiveForUs received s.port = true then
           if admitsDirective received s.agent then
             { s with port := { s.port with reception := .acked },
                      agent := { s.agent with directives := s.agent.directives ++ [rxDirective received] } }
           else s.setPort { s.port with reception := .nacked }
         else s)

/-! ## Sending (R161, R162, R163) -/

/-- The highest non-empty queue's head is drawn: urgent before routine before management (R161). -/
def Port.draw (p : Port) : Port :=
  match p.urgent, p.routine, p.management with
  | f :: fs, _, _ => { p with urgent := fs, contention := some f, trunk := .busy }
  | [], f :: fs, _ => { p with routine := fs, contention := some f, trunk := .busy }
  | [], [], f :: fs => { p with management := fs, contention := some f, trunk := .busy }
  | [], [], [] => p

/-- FRAME_DRAW (R161): only on an IDLE trunk with no frame in contention. -/
def execFrameDraw (s : State) : Host.Outcome State Fault Refusal :=
  .next (if s.port.trunk = .idle ∧ s.port.contention = none then s.setPort s.port.draw else s)

/-- The frame in contention returns to the head of its queue (R162). -/
def Port.returnHead (p : Port) (f : Frame) : Port :=
  p.withEntries (queueOf f.body) (f :: p.entries (queueOf f.body))

/-- A losing zone command is superseded when the routine queue holds an entry of its kind and zone (R162). -/
def Port.supersedes (p : Port) (f : Frame) : Bool :=
  (zoneKey f.body).isSome && hasZoneCommand f.body p.routine

/-- CLAIM_LOST (R162): the port stops driving, counts the lost claim and receives the rest of the frame as
another node's; the frame returns to its queue, or is dropped and reported never sent. -/
def execClaimLost (s : State) : Host.Outcome State Fault Refusal :=
  .next (match s.port.contention with
         | none => s
         | some f =>
           let p : Port := { s.port with
             contention := none, reception := .receiving,
             counts := { s.port.counts with claimsLost := inc16 s.port.counts.claimsLost } }
           if s.port.supersedes f then (s.setPort p).hand (outcomeEvent f .neverSent)
           else s.setPort (p.returnHead f))

/-- The frame in contention ends with an outcome, which is reported to its owner (R163). -/
def endFrame (o : FrameOutcome) (s : State) : State :=
  match s.port.contention with
  | none => s
  | some f => (s.setPort { s.port with contention := none }).hand (outcomeEvent f o)

/-- TRANSMISSION_BROKEN (R163): the frame is reported NACK. -/
def execTransmissionBroken (s : State) : Host.Outcome State Fault Refusal := .next (endFrame .nack s)

/-- ACKNOWLEDGE_SLOT_OUTCOME (R163): dominant is acknowledged, recessive is NACK. -/
def execAcknowledgeSlotOutcome (dominant : Bool) (s : State) : Host.Outcome State Fault Refusal :=
  .next (endFrame (if dominant then .acknowledged else .nack) s)

/-! ## The line clock and power-on (R1, R165) -/

/-- Line time one second later (R1, assumption 7). -/
def nextSecond (clock lineTime : Nat) : Nat :=
  if lineTime + 1 < Config.roll32 then lineTime + 1 else (Config.lineTimeBeyondRange clock).toNat

/-- LINE_CLOCK_TICK (R1): one tick; line time advances at each whole second since power-on. -/
def execLineClockTick (s : State) : Host.Outcome State Fault Refusal :=
  .next { s with clock := s.clock + 1,
                 lineTime := if (s.clock + 1) % Config.ticksPerSecond = 0 then nextSecond s.clock s.lineTime
                             else s.lineTime }

/-- POWER_ON_RESET (R165): the straps are read and every block takes its power-on values. The queue of commands
is not the part's state and stays. -/
def execPowerOnReset (straps : BitVec 6) (s : State) : Host.Outcome State Fault Refusal :=
  .next { State.powerOn straps with pending := s.pending }

end Sys2Proof.Machine
end

