-- ==== Sys2Proof/Machine/Dispatch.lean ====
section
/-!
DEFINITION. The effect of each command, one arm per row of the opcode table.
-/

namespace Sys2Proof.Machine

/-- What a command does to the state; the queue of commands is left to the step. -/
def exec (i : Instr) (s : State) : Host.Outcome State Fault Refusal :=
  match i with
  | .powerOnReset straps => Sys2Proof.Machine.execPowerOnReset straps s
  | .trunkReset => Sys2Proof.Machine.execTrunkReset s
  | .signalUnitTrunkReset => Sys2Proof.Machine.execSignalUnitTrunkReset s
  | .pacerTrunkReset => Sys2Proof.Machine.execPacerTrunkReset s
  | .chainTrunkReset => Sys2Proof.Machine.execChainTrunkReset s
  | .dischargeTrunkReset => Sys2Proof.Machine.execDischargeTrunkReset s
  | .lineSequencerTrunkReset => Sys2Proof.Machine.execLineSequencerTrunkReset s
  | .agentTrunkReset => Sys2Proof.Machine.execAgentTrunkReset s
  | .idleGap received => Sys2Proof.Machine.execIdleGap received s
  | .receptionEnd received ending => Sys2Proof.Machine.execReceptionEnd received ending s
  | .directiveAcknowledge received => Sys2Proof.Machine.execDirectiveAcknowledge received s
  | .frameDraw => Sys2Proof.Machine.execFrameDraw s
  | .claimLost => Sys2Proof.Machine.execClaimLost s
  | .transmissionBroken => Sys2Proof.Machine.execTransmissionBroken s
  | .acknowledgeSlotOutcome dominant => Sys2Proof.Machine.execAcknowledgeSlotOutcome dominant s
  | .knifeFireOutcome frame outcome => Sys2Proof.Machine.execKnifeFireOutcome frame outcome s
  | .chainStepOutcome frame outcome => Sys2Proof.Machine.execChainStepOutcome frame outcome s
  | .pressCmdOutcome frame run outcome => Sys2Proof.Machine.execPressCmdOutcome frame run outcome s
  | .zoneCommandOutcome frame outcome => Sys2Proof.Machine.execZoneCommandOutcome frame outcome s
  | .stripOrderOutcome frame sequence outcome => Sys2Proof.Machine.execStripOrderOutcome frame sequence outcome s
  | .managementFrameOutcome frame outcome => Sys2Proof.Machine.execManagementFrameOutcome frame outcome s
  | .speedArrival value tick => Sys2Proof.Machine.execSpeedArrival value tick s
  | .spreaderStateArrival value => Sys2Proof.Machine.execSpreaderStateArrival value s
  | .knifeCountEvents n => Sys2Proof.Machine.execKnifeCountEvents n s
  | .knifeTimerExpiry => Sys2Proof.Machine.execKnifeTimerExpiry s
  | .settleTimerExpiry => Sys2Proof.Machine.execSettleTimerExpiry s
  | .pacerModeChange old new => Sys2Proof.Machine.execPacerModeChange old new s
  | .chainModeChange old new => Sys2Proof.Machine.execChainModeChange old new s
  | .chainCountEvents n => Sys2Proof.Machine.execChainCountEvents n s
  | .chainIndexEvents n => Sys2Proof.Machine.execChainIndexEvents n s
  | .stepTimerExpiry => Sys2Proof.Machine.execStepTimerExpiry s
  | .drainTimerExpiry => Sys2Proof.Machine.execDrainTimerExpiry s
  | .stripperStateArrival value => Sys2Proof.Machine.execStripperStateArrival value s
  | .stripperCountEvents n => Sys2Proof.Machine.execStripperCountEvents n s
  | .stallTimerExpiry => Sys2Proof.Machine.execStallTimerExpiry s
  | .pressStateArrival value => Sys2Proof.Machine.execPressStateArrival value s
  | .zoneRhArrival zone => Sys2Proof.Machine.execZoneRhArrival zone s
  | .staleTimerExpiry role => Sys2Proof.Machine.execStaleTimerExpiry role s
  | .lostTimerExpiry role => Sys2Proof.Machine.execLostTimerExpiry role s
  | .climateLossTimerExpiry zone => Sys2Proof.Machine.execClimateLossTimerExpiry zone s
  | .airTimerExpiry zone => Sys2Proof.Machine.execAirTimerExpiry zone s
  | .sweepTimerExpiry => Sys2Proof.Machine.execSweepTimerExpiry s
  | .caneVisit => Sys2Proof.Machine.execCaneVisit s
  | .sweepEnd => Sys2Proof.Machine.execSweepEnd s
  | .faultRaise code detail => Sys2Proof.Machine.execFaultRaise code detail s
  | .readTable r => Sys2Proof.Machine.execReadTable r s
  | .writeTableListen r => Sys2Proof.Machine.execWriteTableListen r s
  | .writeTableTalk r => Sys2Proof.Machine.execWriteTableTalk r s
  | .writeTableZone r => Sys2Proof.Machine.execWriteTableZone r s
  | .writeTableZoneCount r => Sys2Proof.Machine.execWriteTableZoneCount r s
  | .writeTableMeq r => Sys2Proof.Machine.execWriteTableMeq r s
  | .writeTableKd r => Sys2Proof.Machine.execWriteTableKd r s
  | .writeTableModel r => Sys2Proof.Machine.execWriteTableModel r s
  | .writeTableGap r => Sys2Proof.Machine.execWriteTableGap r s
  | .writeTablePacer r => Sys2Proof.Machine.execWriteTablePacer r s
  | .writeTableLine r => Sys2Proof.Machine.execWriteTableLine r s
  | .writeTableUnwritable r => Sys2Proof.Machine.execWriteTableUnwritable r s
  | .readCane r => Sys2Proof.Machine.execReadCane r s
  | .markCanes r => Sys2Proof.Machine.execMarkCanes r s
  | .clearLine r => Sys2Proof.Machine.execClearLine r s
  | .lotOpen r => Sys2Proof.Machine.execLotOpen r s
  | .lotStage r => Sys2Proof.Machine.execLotStage r s
  | .lotSeal r => Sys2Proof.Machine.execLotSeal r s
  | .lotDiscard r => Sys2Proof.Machine.execLotDiscard r s
  | .lotArm r => Sys2Proof.Machine.execLotArm r s
  | .modePrime r => Sys2Proof.Machine.execModePrime r s
  | .modeRun r => Sys2Proof.Machine.execModeRun r s
  | .modeHold r => Sys2Proof.Machine.execModeHold r s
  | .modeResume r => Sys2Proof.Machine.execModeResume r s
  | .modeDrain r => Sys2Proof.Machine.execModeDrain r s
  | .modeStop r => Sys2Proof.Machine.execModeStop r s
  | .modeSafe r => Sys2Proof.Machine.execModeSafe r s
  | .modeLeaveSafe r => Sys2Proof.Machine.execModeLeaveSafe r s
  | .ackFault r => Sys2Proof.Machine.execAckFault r s
  | .readStatus r => Sys2Proof.Machine.execReadStatus r s
  | .readTotals r => Sys2Proof.Machine.execReadTotals r s
  | .clearTotals r => Sys2Proof.Machine.execClearTotals r s
  | .unknownDirective sender payload => Sys2Proof.Machine.execUnknownDirective sender payload s
  | .lineClockTick => Sys2Proof.Machine.execLineClockTick s
  | .startMark received => Sys2Proof.Machine.execStartMark received s
  | .dominantRun bits => Sys2Proof.Machine.execDominantRun bits s
  | .trunkResetReleased => Sys2Proof.Machine.execTrunkResetReleased s
  | .modeUnknownArgument r => Sys2Proof.Machine.execModeUnknownArgument r s

end Sys2Proof.Machine
end

