-- ==== Sys2Proof/Machine/Step.lean ====
section
/-!
DEFINITION. The step: the part takes the command at the front of its queue.
-/

namespace Sys2Proof.Machine

/-- One step: the command at the front of the queue is taken whole, with the queue's rest; with an empty queue
the part idles (assumption 2). -/
def step (s : State) : Host.Outcome State Fault Refusal :=
  match s.pending with
  | [] => .next s
  | c :: rest => exec c { s with pending := rest }

/-- The state with the command that a word of the opcode table spells put at the front of the queue; a word
that spells none changes nothing. -/
def State.withFetchWord (s : State) (nbits w : Nat) : State :=
  match decodeTableWord nbits w with
  | some c => { s with pending := c :: s.pending }
  | none => s

end Sys2Proof.Machine
end

