-- ==== Sys2Proof/Safety.lean ====
section
/-!
DEFINITION. The laws that the spec states of the C4120 at every moment, and the words in which statements about
directives are made: when a directive starts, and what a state with its response looks like.
-/

namespace Sys2Proof.Machine

/-! ## Directives (R168, R170) -/

/-- The directive that a directive row stands for; none for an event row, and none for a catch-all row whose
arguments belong to another row. -/
def directiveRow : Instr → Option Directive
  | .readTable r => some (directiveOf 0x01 [] r)
  | .writeTableListen r => some (directiveOf 0x02 [1] r)
  | .writeTableTalk r => some (directiveOf 0x02 [2] r)
  | .writeTableZone r => some (directiveOf 0x02 [3] r)
  | .writeTableZoneCount r => some (directiveOf 0x02 [4] r)
  | .writeTableMeq r => some (directiveOf 0x02 [5] r)
  | .writeTableKd r => some (directiveOf 0x02 [6] r)
  | .writeTableModel r => some (directiveOf 0x02 [7] r)
  | .writeTableGap r => some (directiveOf 0x02 [8] r)
  | .writeTablePacer r => some (directiveOf 0x02 [9] r)
  | .writeTableLine r => some (directiveOf 0x02 [10] r)
  | .writeTableUnwritable r => if namesWritableTable r.args then none else some (directiveOf 0x02 [] r)
  | .readCane r => some (directiveOf 0x03 [] r)
  | .markCanes r => some (directiveOf 0x04 [] r)
  | .clearLine r => some (directiveOf 0x05 [] r)
  | .lotOpen r => some (directiveOf 0x08 [] r)
  | .lotStage r => some (directiveOf 0x09 [] r)
  | .lotSeal r => some (directiveOf 0x0A [] r)
  | .lotDiscard r => some (directiveOf 0x0B [] r)
  | .lotArm r => some (directiveOf 0x0C [] r)
  | .modePrime r => some (directiveOf 0x10 [0] r)
  | .modeRun r => some (directiveOf 0x10 [1] r)
  | .modeHold r => some (directiveOf 0x10 [2] r)
  | .modeResume r => some (directiveOf 0x10 [3] r)
  | .modeDrain r => some (directiveOf 0x10 [4] r)
  | .modeStop r => some (directiveOf 0x10 [5] r)
  | .modeSafe r => some (directiveOf 0x10 [6] r)
  | .modeLeaveSafe r => some (directiveOf 0x10 [7] r)
  | .modeUnknownArgument r => if namesKnownMode r.args then none else some (directiveOf 0x10 [] r)
  | .ackFault r => some (directiveOf 0x11 [] r)
  | .readStatus r => some (directiveOf 0x12 [] r)
  | .readTotals r => some (directiveOf 0x13 [] r)
  | .clearTotals r => some (directiveOf 0x14 [] r)
  | .unknownDirective n p => if carriesKnownCode p then none else some { payload := p, sender := n }
  | _ => none

/-- A WRITE_TABLE naming MEQ, KD or MODEL, which is held for the sweep gap (R91). -/
def heldForSweep : Instr → Bool
  | .writeTableMeq _ => true
  | .writeTableKd _ => true
  | .writeTableModel _ => true
  | _ => false

/-- Directive `d` starts in this state (R168): it stands at the head of the directive queue, the fill of the
management queue is below 6, and the part is an ordinary node (R165: a silent listener takes no directive). -/
def Starts (s : State) (d : Directive) : Prop :=
  s.agent.directives.head? = some d ∧ s.port.fill .management < 6 ∧ s.port.silent = false

/-- The same for a model table write, which also waits for the sweep state IDLE (R91, R168). -/
def StartsBetweenSweeps (s : State) (d : Directive) : Prop := Starts s d ∧ s.drying.sweep = none

/-- The state after directive `d`: it has left the queue's head, `effect` has been made, and its response, with
the outcome and the body, stands at the tail of the management queue (R168, R170). -/
def answered (s : State) (d : Directive) (o : OutcomeCode) (body : List Byte) (effect : State → State) : State :=
  let u := effect { s with agent := { s.agent with directives := s.agent.directives.tail } }
  { u with port := { u.port with
      frameCount := inc32 u.port.frameCount,
      management := u.port.management ++
        [{ number := inc32 u.port.frameCount, dest := d.sender,
           body := .response d.tag d.code o body }] } }

/-- A frame has joined the tail of the urgent queue, with the next frame number (R160, R164). -/
def withUrgent (s : State) (dest : Nat) (body : FrameBody) : State :=
  { s with port := { s.port with
      frameCount := inc32 s.port.frameCount,
      urgent := s.port.urgent ++ [{ number := inc32 s.port.frameCount, dest := dest, body := body }] } }

/-- A frame has joined the tail of the routine queue, with the next frame number (R160, R164). -/
def withRoutine (s : State) (dest : Nat) (body : FrameBody) : State :=
  { s with port := { s.port with
      frameCount := inc32 s.port.frameCount,
      routine := s.port.routine ++ [{ number := inc32 s.port.frameCount, dest := dest, body := body }] } }

/-- A frame has been handed to the urgent queue (R160, R164, R165): it joins the tail while there is room in an
ordinary node; otherwise it only takes its number, and its owner is handed the outcome "never sent". -/
def handedUrgent (s : State) (dest : Nat) (body : FrameBody) : State :=
  if s.port.silent = false ∧ s.port.fill .urgent < 4 then withUrgent s dest body
  else { s with
    port := { s.port with frameCount := inc32 s.port.frameCount },
    handed := s.handed ++
      [outcomeEvent { number := inc32 s.port.frameCount, dest := dest, body := body } .neverSent] }

/-! ## Laws of the spec -/

/-- The fault list holds at most one entry for each code, each with a count of 1 to 255, and with two or more
entries the line mode is SAFE (R125, R132). -/
def FaultListLaw (s : State) : Prop :=
  (s.sequencer.faults.map FaultEntry.code).Nodup ∧
  (∀ e ∈ s.sequencer.faults, 1 ≤ e.count ∧ e.count ≤ 255) ∧
  (2 ≤ s.sequencer.faults.length → s.sequencer.mode = .safe)

/-- c stays within −20,000 to +20,000 µm (R37). -/
def CorrectionLaw (s : State) : Prop := -20000 ≤ s.pacer.correction ∧ s.pacer.correction ≤ 20000

/-- Every entry stands in the queue of its kind, no queue's fill exceeds its capacity (R160), and the routine
queue holds at most one ZONE_CLIMATE and one AIR_DIR for each zone (R104). -/
def QueueLaw (s : State) : Prop :=
  (∀ q : QueueId, ∀ f ∈ s.port.entries q, queueOf f.body = q) ∧
  (∀ q : QueueId, s.port.fill q ≤ queueCapacity q) ∧
  (s.port.routine.filterMap (fun f => zoneKey f.body)).Nodup

/-- A knife fire and a chain step are never in flight at the same time, the loading station holds a record only
while no fire is in flight (R29), and a step in flight has its record in the station (R58). -/
def FireStepLaw (s : State) : Prop :=
  (s.pacer.fire?.isSome = true → s.chain.station = none ∧ s.chain.step? = none) ∧
  (s.chain.step?.isSome = true → s.chain.station.isSome = true)

/-- The zone map: twelve entries in range (R52, R96), the zones below the zone count contiguous from position 0,
and P_exit the last position of the last of them (R53). -/
def ZoneMapLaw (s : State) : Prop :=
  s.canes.zones.length = 12 ∧ s.canes.zoneCount ≤ 12 ∧ (∀ z ∈ s.canes.zones, z.inRange = true) ∧
  contiguousFrom 0 (s.canes.zones.take s.canes.zoneCount) = true ∧
  s.canes.pExit = s.exitFor s.canes.zoneCount

/-- Numbers run upward one by one, through the wrap, and the one after the last is `next`. -/
def sequencesRun (next : Nat) : List Nat → Prop
  | [] => True
  | [a] => nextSeq a = next
  | a :: b :: rest => nextSeq a = b ∧ sequencesRun next (b :: rest)

/-- The cane queue with the loading station behind its tail (R48, R50): sequence numbers below 2^24, consecutive
from head to tail and on to the next sequence number; at most P_exit + 1 records, and none without a zone map; a
step in flight only with a zone map (R56). -/
def CaneLaw (s : State) : Prop :=
  s.canes.nextSequence < Config.seqModulus ∧
  (∀ c ∈ s.canes.records ++ s.chain.station.toList, c.sequence < Config.seqModulus) ∧
  sequencesRun s.canes.nextSequence ((s.canes.records ++ s.chain.station.toList).map Cane.sequence) ∧
  (∀ p, s.canes.pExit = some p → s.canes.records.length ≤ p + 1) ∧
  (s.canes.pExit = none → s.canes.records = []) ∧
  (s.chain.step?.isSome = true → s.canes.zoneCount ≠ 0)

/-- The PRODUCT records of the loading station, the cane queue and the discharge queue (R15). -/
def State.products (s : State) : List Product :=
  (s.chain.station.toList ++ s.canes.records).filterMap Cane.product ++
  s.discharge.entries.map DischargeEntry.product

/-- How many PRODUCT records name slot `i` (R15). -/
def State.namingCount (s : State) (i : Nat) : Nat := s.products.countP (fun p => decide (p.lot = i))

/-- The reference count of every slot is the number of PRODUCT records that name it, over the loading station,
the cane queue and the discharge queue (R15); a slot that is FREE, LOADING or READY has a count of 0, and a
RETIRING slot at least 1. -/
def ReferenceLaw (s : State) : Prop :=
  s.lots.slots.length = 16 ∧
  (∀ i, i < 16 → (s.lotSlot i).refCount = s.namingCount i) ∧
  (∀ p ∈ s.products, p.lot < 16) ∧
  (∀ i, i < 16 → (s.lotSlot i).life = .free ∨ (s.lotSlot i).life = .loading ∨ (s.lotSlot i).life = .ready →
    (s.lotSlot i).refCount = 0) ∧
  (∀ i, i < 16 → (s.lotSlot i).life = .retiring → 0 < (s.lotSlot i).refCount)

/-- The slot the active pointer names is the one slot in ACTIVE, and the armed slot is READY (R11). -/
def PointerLaw (s : State) : Prop :=
  s.lots.slots.length = 16 ∧
  (∀ i, i < 16 → ((s.lotSlot i).life = .active ↔ s.lots.active = some i)) ∧
  (∀ i, s.lots.active = some i → i < 16) ∧
  (∀ i, s.lots.armed = some i → i < 16 ∧ (s.lotSlot i).life = .ready)

/-- The discharge queue holds at most 8 entries, no order is outstanding on an empty queue (R112, R113), and a
step in flight was sent with room for the head that it may push out (R56). -/
def DischargeLaw (s : State) : Prop :=
  s.discharge.entries.length ≤ 8 ∧
  (s.discharge.entries = [] → s.discharge.orderOutstanding = false) ∧
  (s.chain.step?.isSome = true → s.noExitRoom = false)

/-- The sequence numbers given out and still held, oldest first: the discharge queue, the cane queue, the loading
station, and the next number. -/
def State.sequences (s : State) : List Nat :=
  s.discharge.entries.map DischargeEntry.sequence ++
  (s.canes.records ++ s.chain.station.toList).map Cane.sequence ++ [s.canes.nextSequence]

/-- The discharge queue is in ascending sequence order, and ahead of the cane queue (R113): counted upward from the
oldest number held, through the wrap, each number lies beyond the one before it. -/
def SequenceOrderLaw (s : State) : Prop :=
  ∀ first, s.sequences.head? = some first → (s.sequences.map (seqDistance first)).Pairwise (· < ·)

/-- Every moisture figure stays within 0 to 9,999 (R85): the estimates of the records, the equilibrium moistures
they move toward (R74) and the initial moistures they start from (R6). -/
def MoistureLaw (s : State) : Prop :=
  (∀ p ∈ s.products, p.moisture ≤ 9999) ∧ (∀ m ∈ s.drying.meq, m ≤ 9999) ∧
  (∀ l ∈ s.lots.slots, l.header.initialMoisture ≤ 9999)

/-- Every humidity demand stays within −127 to +127 (R95), the setpoints of a configured zone stay within its
limits (R100), and a zone that is not configured has its air timer stopped (R97). -/
def ClimateLaw (s : State) : Prop :=
  s.climate.zones.length = 12 ∧
  (∀ z ∈ s.climate.zones, -127 ≤ z.demand ∧ z.demand ≤ 127) ∧
  (∀ k, k < s.canes.zoneCount →
    (s.zoneEntry k).tMin ≤ (s.zoneState k).tempSetpoint ∧ (s.zoneState k).tempSetpoint ≤ (s.zoneEntry k).tMax ∧
    (s.zoneEntry k).rhMin ≤ (s.zoneState k).rhSetpoint ∧ (s.zoneState k).rhSetpoint ≤ (s.zoneEntry k).rhMax) ∧
  (∀ k, s.canes.zoneCount ≤ k → (s.zoneState k).airTimer = .stopped)

/-- A slot that is LOST has no baseline and no timer running; a STALE slot has its stale timer stopped and its
lost timer running; a FRESH slot has both running (R146, R147). -/
def Slot.timed (x : Slot) : Prop :=
  (x.freshness = .lost → x.staleTimer = .stopped ∧ x.lostTimer = .stopped ∧ x.baseline = none) ∧
  (x.freshness = .stale → x.staleTimer = .stopped ∧ x.lostTimer ≠ .stopped) ∧
  (x.freshness = .fresh → x.staleTimer ≠ .stopped ∧ x.lostTimer ≠ .stopped)

/-- Every measurement slot keeps that relation. -/
def SlotLaw (s : State) : Prop := s.signals.slots.length = 32 ∧ ∀ x ∈ s.signals.slots, x.timed

/-- The knife timer runs exactly while a fire that has been acknowledged is in flight (R32, R33). -/
def KnifeTimerLaw (s : State) : Prop :=
  s.pacer.knifeTimer ≠ .stopped ↔ ∃ f, s.pacer.state = .firing f ∧ f.acknowledged = true

/-- A step timer runs only while a step is in flight (R55, R60). -/
def StepTimerLaw (s : State) : Prop := s.chain.stepTimer ≠ .stopped → s.chain.step?.isSome = true

/-- The sum whose change the totals law of R44 forbids: what has been extruded on one side, what has become of it
on the other. -/
def TotalsBalance (s t : State) : Prop :=
  t.pacer.extruded + (s.pacer.hung + s.pacer.waste + s.pacer.acc) =
    s.pacer.extruded + (t.pacer.hung + t.pacer.waste + t.pacer.acc)

/-- No total is within one curtain of the end of its range, and A is in its own (R22, R44). -/
def TotalsInService (s : State) : Prop :=
  s.pacer.acc ≤ Config.accMax ∧ s.pacer.extruded + Config.accMax < Config.totalModulus ∧
  s.pacer.hung + Config.accMax < Config.totalModulus ∧ s.pacer.waste + Config.accMax < Config.totalModulus

/-! ## Words of the statements about the pacer -/

/-- The six interlocks of R29, with `dest` the node of the KNIFE entry. -/
def InterlocksHold (s : State) (dest : Nat) : Prop :=
  LineMode.allowsFires s.sequencer.mode = true ∧ s.chain.station = none ∧ s.chain.step? = none ∧
  s.reading 2 = some 1 ∧ s.isLost 1 = false ∧ s.talkNode 0 = some dest

/-- The fire condition of R26 against a target in mm. -/
def FireConditionHolds (s : State) (target : Nat) : Prop :=
  (target : Int) * 1000000 ≤
    (s.pacer.acc : Int) + (s.pacer.lastSpeed : Int) * (s.pacer.params.knifeLead : Int) + s.pacer.correction * 1000

/-- The pacer has just evaluated (R30): it is FORMING when the condition does not hold, BLOCKED when it holds and an
interlock fails, and FIRING a new fire, not yet acknowledged, with the frame number `number`, when all holds. -/
def Evaluated (t : State) (number : Nat) : Prop :=
  (t.pacer.state = .forming ∨ t.pacer.state = .blocked ∨
    ∃ f, t.pacer.state = .firing f ∧ f.acknowledged = false ∧ f.number = number) ∧
  ∀ target, t.curtainTarget = some target →
    (¬ FireConditionHolds t target → t.pacer.state = .forming) ∧
    (FireConditionHolds t target → (∀ dest, ¬ InterlocksHold t dest) → t.pacer.state = .blocked) ∧
    (∀ dest, FireConditionHolds t target → InterlocksHold t dest → t.pacer.state = .firing
      { kind := if t.sequencer.mode = .priming ∨ t.pacer.purgePending = true then .purge
                else if 0 < t.pacer.gapCounter then .gap else .hang,
        target := target, acknowledged := false, number := number })

/-- The fire that was in flight in `s` has ended without a cut and is gone from `t` (R34 steps 1, 4 and 5, R45): IDLE
outside PRIMING and RUNNING, an evaluation in them, whose new fire, if it sends one, has the next frame number. -/
def FireDiscarded (s t : State) : Prop :=
  (LineMode.allowsFires s.sequencer.mode = false → t.pacer.state = .idle) ∧
  (LineMode.allowsFires s.sequencer.mode = true → Evaluated t (inc32 s.port.frameCount))

/-- A miss, as R34 makes it: the fire that was in flight is discarded, the knife timer stops, the miss count rises,
KNIFE_FAULT is asked for at three or more, and A, the gap counter, the purge-pending flag, c and the totals stand.
What the evaluation and the insertion test that follow may touch is named; nothing else changes. -/
def MissTaken (s t : State) : Prop :=
  t.pacer = { s.pacer with
    state := t.pacer.state, knifeTimer := .stopped, missCount := min 255 (s.pacer.missCount + 1) } ∧
  FireDiscarded s t ∧
  (3 ≤ s.pacer.missCount + 1 → .faultRaise .knifeFault 0 ∈ t.handed) ∧
  { t with pacer := s.pacer, port := s.port, handed := s.handed, chain := s.chain, canes := s.canes,
           discharge := s.discharge } = s ∧
  t.canes.records = s.canes.records ∧ t.discharge.entries = s.discharge.entries

/-! ## Words of the statements about the chain, the tables and the encodings -/

/-- No room at the exit (R56, case 2): the cane queue is at P_exit + 1, its head is PRODUCT, and the discharge
queue holds 8 entries. -/
def NoRoomAtTheExit (s : State) : Prop :=
  ∃ p c, s.canes.pExit = some p ∧ s.canes.records.length = p + 1 ∧ s.canes.records.head? = some c ∧
    c.isProduct = true ∧ s.discharge.entries.length = 8

/-- A step is allowed with the CHAIN entry at node `dest` (R56, case 3 does not apply). -/
def StepAllowedTo (s : State) (dest : Nat) : Prop :=
  (s.sequencer.mode = .priming ∨ s.sequencer.mode = .running ∨ s.sequencer.mode = .draining) ∧
  s.isLost 3 = false ∧ s.talkNode 1 = some dest ∧ s.canes.zoneCount ≠ 0

/-- The chain controller has just evaluated (R56, R57, R58, R63), from `s` to `t`: the first case that applies gives
the step state; a step that is sent, with the frame number `number`, has its CHAIN_STEP at the urgent queue's tail
while that has room in an ordinary node; the stall timer starts at an entry to WAITING_ROOM and stops at its exit.
The station and the drain timer are left to the event that led to the evaluation. -/
def ChainEvaluated (s t : State) (number : Nat) : Prop :=
  (t.chain.station = none → t.chain.stepState = .idle) ∧
  (∀ c, t.chain.station = some c →
    (NoRoomAtTheExit t → t.chain.stepState = .waitingRoom) ∧
    (¬ NoRoomAtTheExit t → (∀ dest, ¬ StepAllowedTo t dest) → t.chain.stepState = .idle) ∧
    (∀ dest, ¬ NoRoomAtTheExit t → StepAllowedTo t dest →
      t.chain.stepState = .stepping { loaded := c.isProduct, acknowledged := false, number := number } ∧
      t.chain.recommands = 0 ∧
      t.port.urgent = s.port.urgent ++
        (if s.port.silent = false ∧ s.port.fill .urgent < 4
         then [{ number := number, dest := dest, body := .chainStep c.isProduct }] else []))) ∧
  (t.chain.step? = none → t.chain.recommands = s.chain.recommands ∧ t.port.urgent = s.port.urgent) ∧
  t.discharge.stallTimer =
    (if t.chain.stepState = .waitingRoom ∧ s.chain.stepState ≠ .waitingRoom
     then .running (s.lineTime + s.line.stallLimit)
     else if t.chain.stepState ≠ .waitingRoom ∧ s.chain.stepState = .waitingRoom then .stopped
     else s.discharge.stallTimer) ∧
  t.chain = { s.chain with station := t.chain.station, drainTimer := t.chain.drainTimer,
                           stepState := t.chain.stepState, recommands := t.chain.recommands }

/-- A record has just been placed in the loading station, with the next sequence number and the present line time
(R36, R48, R49, R67), and the chain controller has evaluated (R57). -/
def RecordPlaced (s t : State) (product : Option Product) : Prop :=
  t.chain.station = some { sequence := s.canes.nextSequence, hangTime := s.lineTime, product := product } ∧
  t.canes = { s.canes with nextSequence := (s.canes.nextSequence + 1) % 16777216 } ∧
  t.discharge = { s.discharge with stallTimer := t.discharge.stallTimer } ∧
  (s.chain.step? = none → ChainEvaluated s t (inc32 s.port.frameCount))

/-- What the completion of the fire `f` does to the pacer and the station in every line mode (R35, R36, R37, R38 step
1): A goes to the hung or the waste total; a HANG cut places a PRODUCT record of the active lot and moves c by a
quarter of its error within its clamp; a GAP cut places an EMPTY record; a PURGE cut clears purge-pending. The pacer
state, the gap counter and the lot table are left to the switch and the evaluation that follow. -/
def CutTaken (s t : State) (f : Fire) : Prop :=
  let length := (s.pacer.acc + 500) / 1000
  let error : Int := (length : Int) - (f.target : Int) * 1000
  t.pacer = { s.pacer with
    state := t.pacer.state, gapCounter := t.pacer.gapCounter, acc := 0, knifeTimer := .stopped, missCount := 0,
    hung := if f.kind = .hang then s.pacer.hung + s.pacer.acc else s.pacer.hung,
    waste := if f.kind = .hang then s.pacer.waste else s.pacer.waste + s.pacer.acc,
    correction := if f.kind = .hang then max (-20000) (min 20000 (s.pacer.correction + Int.tdiv error 4))
                  else s.pacer.correction,
    purgePending := if f.kind = .purge then false else s.pacer.purgePending } ∧
  (∀ a, f.kind = .hang → s.lots.active = some a →
    RecordPlaced s t (some
      { lot := a, length := length, moisture := (s.lotSlot a).header.initialMoisture,
        lastUpdate := s.lineTime, stage := 0, stageEntry := s.lineTime, climateUnknown := false,
        stageOverrun := false, markReject := false, markHold := false, excursion := none }) ∧
    t.chain.drainTimer = s.chain.drainTimer) ∧
  (f.kind = .gap → RecordPlaced s t none ∧ t.chain.drainTimer = s.chain.drainTimer)

/-! ## Words of the statements about the zone climate -/

/-- The humidity demand of zone `k` against an RH setpoint (R102). -/
def demandAgainst (s : State) (k rhSetpoint : Nat) : Int :=
  match s.reading (20 + k) with
  | none => 0
  | some rh =>
    max (-127) (min 127 (Int.tdiv (((rhSetpoint : Int) - rh) * ((s.zoneEntry k).gain : Int)) 16))

/-- ZONE_CLIMATE of zone `k` with a temperature setpoint and a demand, its outputs by the zone's form (R103). -/
def climateCommand (s : State) (k : Nat) (temp demand : Int) : FrameBody :=
  let vMin : Int := (s.zoneEntry k).vMin
  match (s.zoneEntry k).form with
  | .single => .zoneClimate k .single temp (127 + demand).toNat 0
  | .divided => .zoneClimate k .divided temp (max demand 0).toNat (max (-demand) 0).toNat
  | .biased => .zoneClimate k .biased temp (max demand 0).toNat (min (vMin + max (-demand) 0) 127).toNat

/-- The value after `g` of the stagger generator (R106): the exclusive-or of bits 15, 13, 12 and 10 enters bit 0 of
the value shifted left by one place, whose bit 15 is discarded. -/
def staggerNext (g : BitVec 16) : BitVec 16 :=
  BitVec.ofNat 16 (2 * g.toNat +
    (g.toNat / 32768 + g.toNat / 8192 + g.toNat / 4096 + g.toNat / 1024) % 2)

/-- The one zone command queued from `s` to `t` through the talk role `role`, in R104's three ways: in place of a
command of its kind and zone, at the tail while there is room (in a silent listener the frame is never sent, R165), or
not at all; and not without a configured entry (R103). -/
def ZoneCommandQueued (s t : State) (role : Nat) (body : FrameBody) : Prop :=
  let queued := ∃ f ∈ s.port.routine, zoneKey f.body = zoneKey body
  (s.talkNode role = none → t = s) ∧
  (∀ dest, s.talkNode role = some dest →
    (queued → t = { s with port := { s.port with
      frameCount := inc32 s.port.frameCount,
      routine := s.port.routine.map (fun f => if zoneKey f.body = zoneKey body then
        { number := inc32 s.port.frameCount, dest := dest, body := body } else f) } }) ∧
    (¬ queued → s.port.fill .routine < 24 → s.port.silent = false → t = withRoutine s dest body) ∧
    (¬ queued → s.port.fill .routine < 24 → s.port.silent = true → t = { s with
      port := { s.port with frameCount := inc32 s.port.frameCount },
      handed := s.handed ++
        [.zoneCommandOutcome { number := inc32 s.port.frameCount, content := payloadOf body } .neverSent] }) ∧
    (¬ queued → 24 ≤ s.port.fill .routine → t = s))

/-- A zone command that is one of at most `n` that the way from `s` to `t` queues (R103, R104): with its entry
configured it stands in the routine queue, and no other command of its kind and zone does, when one stood there before
or there was room for all of them in an ordinary node; without its entry, or with the queue full and none of its kind
and zone in it, the commands of its kind and zone are those of before. -/
def ZoneCommandAmong (s t : State) (role : Nat) (body : FrameBody) (n : Nat) : Prop :=
  let queued := ∃ f ∈ s.port.routine, zoneKey f.body = zoneKey body
  let ofIts (fs : List Frame) := fs.filter (fun f => decide (zoneKey f.body = zoneKey body))
  (∀ dest, s.talkNode role = some dest → queued ∨ (s.port.silent = false ∧ s.port.fill .routine + n ≤ 24) →
    ofIts t.port.routine ≠ [] ∧ ∀ f ∈ ofIts t.port.routine, f.dest = dest ∧ f.body = body) ∧
  (s.talkNode role = none ∨ (¬ queued ∧ 24 ≤ s.port.fill .routine) →
    ofIts t.port.routine = ofIts s.port.routine)

/-- The SPEED_LOST test at a loss of the speed slot (R132, R136): in PRIMING and RUNNING the fault is listed, a new
one with detail 0 and into HOLDING, or into SAFE beside another; in the other modes nothing is raised. -/
def SpeedLossTested (s t : State) : Prop :=
  (LineMode.allowsFires s.sequencer.mode = true →
    t.sequencer.lists .speedLost = true ∧
    (s.sequencer.lists .speedLost = false →
      t.sequencer.faults = s.sequencer.faults ++
        [{ code := .speedLost, time := s.lineTime, count := 1, detail := 0 }] ∧
      t.sequencer.mode = (if s.sequencer.faults = [] then .holding else .safe))) ∧
  (LineMode.allowsFires s.sequencer.mode = false →
    t.sequencer.mode = s.sequencer.mode ∧ t.sequencer.faults = s.sequencer.faults)

/-- The climate loss check has just been made, from `s` to `t` (R132, R137; in the same step: assumption 13): every
configured zone whose loss timer is expired, whose mark is clear and which now holds a PRODUCT record is marked and
CLIMATE_LOST is listed; the other zones keep their marks and every zone its timer; without such a zone nothing is
raised, and a new entry that one zone alone raises carries its number. -/
def ClimateLossChecked (s t : State) : Prop :=
  let due (k : Nat) : Prop :=
    k < s.canes.zoneCount ∧ s.lossTimer k = .expired ∧ s.lossMark k = false ∧ t.productsIn k ≠ []
  t.sequencer.lossTimers = s.sequencer.lossTimers ∧
  (∀ k, due k → t.lossMark k = true ∧ t.sequencer.lists .climateLost = true) ∧
  (∀ k, ¬ due k → t.lossMark k = s.lossMark k) ∧
  ((∀ k, ¬ due k) → t.sequencer.faults = s.sequencer.faults) ∧
  (∀ k, due k → (∀ j, due j → j = k) → s.sequencer.lists .climateLost = false →
    t.sequencer.faults = s.sequencer.faults ++
      [{ code := .climateLost, time := s.lineTime, count := 1, detail := k }])

/-- The slots of `roles` have been made LOST, from `s` to `t`, and of those that were not yet LOST the served blocks
have taken the report (R148): the pacer forgets its last arrival and the SPEED_LOST test is made (R136, in the same
step: assumption 13), the revolution baseline is cleared, each configured zone's demand becomes 0 and its neutral
ZONE_CLIMATE is queued (R102, R103), and each configured zone's stopped climate loss timer starts (R137). -/
def LossesReported (s t : State) (roles : Nat → Prop) : Prop :=
  let lost (r : Nat) : Prop := roles r ∧ s.isLost r = false
  (lost 0 → t.pacer = { s.pacer with lastTick := none } ∧ SpeedLossTested s t) ∧
  (¬ lost 0 → t.pacer = s.pacer ∧ t.sequencer.mode = s.sequencer.mode ∧
    t.sequencer.faults = s.sequencer.faults) ∧
  (lost 3 ∨ lost 4 → t.chain = { s.chain with revBaseline := false }) ∧
  (¬ lost 3 → ¬ lost 4 → t.chain = s.chain) ∧
  (s.climate.zones.length = 12 → s.canes.zoneCount ≤ 12 →
    (∀ k, s.canes.zoneCount ≤ k ∨ ¬ lost (20 + k) → t.zoneState k = s.zoneState k) ∧
    (∀ k, k < s.canes.zoneCount → lost (20 + k) →
      t.zoneState k = { s.zoneState k with demand := 0 } ∧
      ZoneCommandAmong s t (4 + k) (climateCommand s k (s.zoneState k).tempSetpoint 0) s.canes.zoneCount)) ∧
  (s.sequencer.lossTimers.length = 12 → s.sequencer.lossRaised.length = 12 → s.canes.zoneCount ≤ 12 →
    (∀ k, k < s.canes.zoneCount → s.lossTimer k = .stopped → lost (8 + k) ∨ lost (20 + k) →
      t.lossTimer k = .running (s.lineTime + s.line.climateLossLimit) ∧ t.lossMark k = false) ∧
    (∀ k, s.canes.zoneCount ≤ k ∨ s.lossTimer k ≠ .stopped ∨ (¬ lost (8 + k) ∧ ¬ lost (20 + k)) →
      t.lossTimer k = s.lossTimer k ∧ t.lossMark k = s.lossMark k))

/-- A zone entry that its 29 bytes can carry, in its ranges or not (section 11.5). -/
def ZoneEntry.carried (z : ZoneEntry) : Prop :=
  (∀ n ∈ [z.first, z.last, z.idleRh, z.safeRh, z.ramp, z.rhMin, z.rhMax, z.airBase, z.airJitter], n ≤ 65535) ∧
  (∀ t ∈ [z.idleT, z.safeT, z.tMin, z.tMax], -32768 ≤ t ∧ t ≤ 32767) ∧ z.gain ≤ 255 ∧ z.vMin ≤ 255

/-- The ranges of a zone entry (R52, R96). -/
def ZoneEntry.ranged (z : ZoneEntry) : Prop :=
  z.first ≤ 2047 ∧ z.last ≤ 2047 ∧ z.idleRh ≤ 1000 ∧ z.safeRh ≤ 1000 ∧ z.tMin ≤ z.tMax ∧ z.rhMin ≤ z.rhMax ∧
  z.rhMin ≤ 1000 ∧ z.rhMax ≤ 1000 ∧ z.vMin ≤ 127 ∧ (z.airBase = 0 ∨ 60 ≤ z.airBase ∧ z.airBase ≤ 3600) ∧
  z.airJitter ≤ 600

/-- A zone entry that its 29 bytes can carry and the tables accept (R52, R96, R182). -/
def ZoneEntry.fits (z : ZoneEntry) : Prop :=
  z.inRange = true ∧ -32768 ≤ z.idleT ∧ z.idleT ≤ 32767 ∧ -32768 ≤ z.safeT ∧ z.safeT ≤ 32767 ∧
  -32768 ≤ z.tMin ∧ z.tMax ≤ 32767 ∧ z.ramp ≤ 65535 ∧ z.gain ≤ 255

/-- A header that its 18 bytes can carry (section 11.5). -/
def LotHeader.fits (h : LotHeader) : Prop :=
  h.lotNumber < 4294967296 ∧ h.changeoverClass ≤ 255 ∧ h.hangTarget ≤ 65535 ∧ h.initialMoisture ≤ 65535 ∧
  h.acceptMax ≤ 65535 ∧ h.pieceLength ≤ 65535 ∧ h.topTrim ≤ 65535 ∧ h.bottomTrim ≤ 65535

/-- A stage record that its 12 bytes can carry (section 11.5). -/
def Stage.fits (g : Stage) : Prop :=
  -32768 ≤ g.temperature ∧ g.temperature ≤ 32767 ∧ g.humidity ≤ 65535 ∧ g.exitMoisture ≤ 65535 ∧
  -32768 ≤ g.tLow ∧ g.tLow ≤ 32767 ∧ -32768 ≤ g.tHigh ∧ g.tHigh ≤ 32767 ∧ g.maxDwell ≤ 65535

/-- LINE parameters that a LINE entry's 35 bytes can carry (section 11.5). -/
def LineParams.fits (p : LineParams) : Prop :=
  (∀ l ∈ [p.speed, p.event, p.state, p.climate], l.stale < 16777216 ∧ l.lost < 16777216) ∧
  p.stepTimeout ≤ 65535 ∧ p.stepsPerRev ≤ 65535 ∧ p.drainTime ≤ 65535 ∧ p.stallLimit ≤ 65535 ∧
  p.climateLossLimit ≤ 65535

/-- The ranges of the LINE parameters (R174). -/
def LineParams.ranged (p : LineParams) : Prop :=
  (∀ l ∈ [p.speed, p.event, p.state, p.climate], 10 ≤ l.stale ∧ l.stale < l.lost ∧ l.lost ≤ 600000) ∧
  500 ≤ p.stepTimeout ∧ p.stepTimeout ≤ 30000 ∧ p.stepsPerRev ≤ 4095 ∧ 1 ≤ p.drainTime ∧ p.drainTime ≤ 600 ∧
  10 ≤ p.stallLimit ∧ p.stallLimit ≤ 3600 ∧ 10 ≤ p.climateLossLimit ∧ p.climateLossLimit ≤ 3600

/-- A LISTEN entry that R142 accepts by itself. -/
def listenEntryOk : Option ListenEntry → Prop
  | none => True
  | some e => e.node ≤ 62 ∧ e.channel ≤ 255

/-- A TALK entry that R152 accepts in a part with node number `own`. -/
def talkEntryOk (own : Nat) : Option Nat → Prop
  | none => True
  | some n => n ≤ 62 ∧ n ≠ own

/-- Every frame of the port, queued or in contention, has a payload of at most 48 characters (R156). -/
def PayloadLaw (s : State) : Prop :=
  ∀ f ∈ s.port.urgent ++ s.port.routine ++ s.port.management ++ s.port.contention.toList,
    (payloadOf f.body).length ≤ 48

/-- How many responses stand in a list of frames. -/
def responsesIn (fs : List Frame) : Nat := fs.countP (fun f => decide (kindOf f.body = 4))

/-- The part's fault entry as R132 makes it. -/
def newFault (s : State) (code : FaultCode) (detail : Nat) : FaultEntry :=
  { code := code, time := s.lineTime, count := 1, detail := detail }

/-- The configuration is complete (R127): a zone map, the listen entries of the five line signals and of both climate
signals of every zone, and the talk entries of the knife, the chain, the press and every zone's climate. -/
def ConfigurationComplete (s : State) : Prop :=
  s.canes.zoneCount ≠ 0 ∧
  (∀ r ∈ [0, 1, 2, 3, 5], s.listenEntry r ≠ none) ∧ (∀ r ∈ [0, 1, 2], s.talkNode r ≠ none) ∧
  (∀ k, k < s.canes.zoneCount →
    s.listenEntry (8 + k) ≠ none ∧ s.listenEntry (20 + k) ≠ none ∧ s.talkNode (4 + k) ≠ none)

/-- A PRODUCT record stands in the loading station or in the cane queue (R126, R131). -/
def ProductOnTheLine (s : State) : Prop := ∃ c ∈ s.chain.station.toList ++ s.canes.records, c.product ≠ none

/-- The line mode `new` has been entered by directive `d` (R126, R128): the mode; the press command, which RUNNING
and STOPPED do not queue; MODE_CHANGE and then the response; and the handing of the change to the pacer and the
chain controller. The lot table and the pacer are left to the mode's own clause; nothing else changes. -/
def ModeEntered (s t : State) (d : Directive) (new : LineMode) : Prop :=
  let commands := new ≠ .running ∧ new ≠ .stopped
  let queued := s.talkNode 2 ≠ none ∧ s.port.fill .urgent < 4
  t.sequencer.mode = new ∧ t.sequencer.faults = s.sequencer.faults ∧
  t.sequencer.lossTimers = s.sequencer.lossTimers ∧ t.sequencer.lossRaised = s.sequencer.lossRaised ∧
  (commands → queued → t.sequencer.pressOwed = false ∧
    t.port.urgent.map Frame.body = s.port.urgent.map Frame.body ++ [.pressCmd (decide (new = .priming))]) ∧
  (commands → ¬ queued → t.sequencer.pressOwed = true ∧ t.port.urgent = s.port.urgent) ∧
  (¬ commands → t.sequencer.pressOwed = s.sequencer.pressOwed ∧ t.port.urgent = s.port.urgent) ∧
  t.handed = s.handed ++
    [.pacerModeChange s.sequencer.mode new, .chainModeChange s.sequencer.mode new] ∧
  t.agent.directives = s.agent.directives.tail ∧ t.agent.supervisor = s.agent.supervisor ∧
  (s.port.fill .management < 5 → t.port.management.map Frame.body = s.port.management.map Frame.body ++
    [.report s.agent.missed s.lineTime (.modeChange s.sequencer.mode new .directive none),
     .response d.tag d.code .done []]) ∧
  { t with sequencer := s.sequencer, port := s.port, agent := s.agent, handed := s.handed, lots := s.lots,
           pacer := s.pacer } = s

end Sys2Proof.Machine
end

