-- ==== Sys2Proof/Certificates/Slice0/Obligations.lean ====
section
/-!
DEFINITION. The statements for the provers, each a rule of spec/ or a law that follows from its rules.

A statement about a directive row says what its execution does once it stands at the head of the directive queue
and has started; a statement about an event row says what taking the event does. Where a statement gives the
whole next state by a record update, the fields it does not name are unchanged.

What the statements share that is the model's own form and not a rule's: the ledger `handed` of what one block hands
another (assumption 1), the frame number of a frame as the next of the count (assumption 6), and an expiry that may be
taken at or after its moment (assumption 5). An evaluation of the pacer reads the line mode as it stands when it is
made (assumption 26). A sweep whose numbers have all been taken has no next number (assumption 34). Where a statement
says more of a choice, it names the assumption.
-/

open Sys2Proof Sys2Proof.Machine

/-! ## The step, power-on and the clock -/

/-- A step takes the command at the front of the queue with the queue's rest; a command leaves the rest of the
queue alone and always has a next state (spec/95: each step is whole; no rule stops the part). -/
def Obligations.StepTakesTheFrontCommand : Prop :=
  (∀ (c : Instr) (rest : List Instr) (s : State), s.pending = c :: rest →
    step s = exec c { s with pending := rest }) ∧
  (∀ (c : Instr) (s : State), ∃ t, exec c s = .next t ∧ t.pending = s.pending)

/-- The machine after reset keeps every law. -/
def Obligations.ResetKeepsTheLaws : Prop :=
  FaultListLaw State.reset ∧ CorrectionLaw State.reset ∧ QueueLaw State.reset ∧ FireStepLaw State.reset ∧
  ZoneMapLaw State.reset ∧ CaneLaw State.reset ∧ ReferenceLaw State.reset ∧ PointerLaw State.reset ∧
  DischargeLaw State.reset ∧ MoistureLaw State.reset ∧ ClimateLaw State.reset ∧ SlotLaw State.reset ∧
  KnifeTimerLaw State.reset ∧ StepTimerLaw State.reset ∧ TotalsInService State.reset ∧
  PayloadLaw State.reset ∧ SequenceOrderLaw State.reset

/-- POWER_ON_RESET reads the straps into the node number and leaves the values that the rules of each block give
(R165; R2, R11, R18, R22, R23, R48, R49, R50, R52, R55, R73, R95, R112, R125, R141, R146, R147, R152, R155, R160,
R167, R174), the PACER and LINE defaults and the last sweep summary among them.
LINE_CLOCK_TICK: line time goes on being the whole seconds of the ticks since power-on (R1), within its 32 bits
(section 0.5). Nothing else changes. -/
def Obligations.PowerOnValuesAndTheLineClock : Prop :=
  (∀ (straps : BitVec 6) (s : State), ∃ t, exec (.powerOnReset straps) s = .next t ∧
     t.port.node = straps.toNat ∧ t.port.trunk = .busy ∧ t.port.urgent = [] ∧ t.port.routine = [] ∧
     t.port.management = [] ∧ t.port.contention = none ∧ t.port.counts = .zero ∧ t.lineTime = 0 ∧
     (∀ i, i < 16 → t.lotSlot i = .cleared) ∧ t.lots.armed = none ∧ t.lots.active = none ∧
     t.lots.gap = List.replicate 16 0 ∧
     t.pacer.acc = 0 ∧ t.pacer.lastSpeed = 0 ∧ t.pacer.lastTick = none ∧ t.pacer.correction = 0 ∧
     t.pacer.state = .idle ∧ t.pacer.knifeTimer = .stopped ∧ t.pacer.purgePending = false ∧
     t.pacer.gapCounter = 0 ∧ t.pacer.missCount = 0 ∧ t.pacer.settleTimer = .stopped ∧
     t.pacer.settled = false ∧ t.pacer.extruded = 0 ∧ t.pacer.hung = 0 ∧ t.pacer.waste = 0 ∧
     t.pacer.params = { knifeLead := 1000, purgeLength := 600, overlengthMargin := 100, knifeTimeout := 500,
                        vMin := 2000, vMax := 20000, settleTime := 20 } ∧
     t.line = { speed := { stale := 50, lost := 500 }, event := { stale := 1000, lost := 5000 },
                state := { stale := 1000, lost := 5000 }, climate := { stale := 10000, lost := 60000 },
                stepTimeout := 4000, stepsPerRev := 0, drainTime := 20, stallLimit := 120,
                climateLossLimit := 300 } ∧
     t.canes.nextSequence = 1 ∧ t.canes.records = [] ∧ t.canes.zoneCount = 0 ∧ t.canes.pExit = none ∧
     t.canes.zones = List.replicate 12 .zero ∧
     t.chain.station = none ∧ t.chain.stepState = .idle ∧ t.chain.recommands = 0 ∧
     t.chain.stepTimer = .stopped ∧ t.chain.revBaseline = false ∧ t.chain.revCount = 0 ∧
     t.chain.drainTimer = .stopped ∧
     t.drying.meq = List.replicate 80 0 ∧ t.drying.kd = List.replicate 8 0 ∧ t.drying.tBase = 400 ∧
     t.drying.tStep = 100 ∧ t.drying.interval = 60 ∧ t.drying.nextExpiry = 60 ∧ t.drying.sweep = none ∧
     t.drying.sweepPending = false ∧ t.drying.completed = 0 ∧
     t.drying.summary = { time := 0, updated := 0, unknown := 0, skipped := 0 } ∧
     (∀ k, k < 12 → t.zoneState k = .initial) ∧ t.climate.stagger = 0x9B3D ∧
     t.discharge.entries = [] ∧ t.discharge.orderOutstanding = false ∧ t.discharge.stallTimer = .stopped ∧
     t.discharge.packCount = 0 ∧ t.discharge.setAsideCount = 0 ∧ t.discharge.divertCount = 0 ∧
     t.sequencer.mode = .stopped ∧ t.sequencer.faults = [] ∧ t.sequencer.pressOwed = true ∧
     (∀ k, k < 12 → t.lossTimer k = .stopped ∧ t.lossMark k = false) ∧
     (∀ r, r < 32 → t.listenEntry r = none ∧ t.slot r = .initial) ∧ (∀ r, r < 28 → t.talkNode r = none) ∧
     t.agent.directives = [] ∧ t.agent.supervisor = 0 ∧ t.agent.missed = 0) ∧
  (∀ s : State, s.lineTime = s.clock / 10000 → s.lineTime + 1 < 4294967296 →
     exec .lineClockTick s = .next { s with clock := s.clock + 1, lineTime := (s.clock + 1) / 10000 })

/-! ## The trunk port -/

/-- IDLE_GAP, START_MARK, DOMINANT_RUN and TRUNK_RESET_RELEASED with no reception open (R155): the trunk state each
leaves; before the first idle gap a START opens no reception (assumption 9); in RESET an idle gap and a START change
nothing.
IDLE_GAP and START_MARK with a reception open (R157, R177): the reception is cut off and its frame counted once, for
parity when a character of it has a parity error and otherwise for bad length (assumption 10 for the order of the
two); the trunk state follows as without a reception.
TRUNK_RESET (R166): the queues and the frame in contention go without an outcome, an open reception counts as bad
length, the reset is counted and handed to the six blocks; while the state is RESET it is not taken again. -/
def Obligations.LineConditionsAndResetsSetTheTrunk : Prop :=
  (∀ (s : State) (cs : List RxChar) (bits : Nat), s.port.reception = .closed →
     (s.port.trunk ≠ .reset →
       exec (.idleGap cs) s = .next { s with port := { s.port with trunk := .idle, synced := true } } ∧
       exec (.startMark cs) s = .next { s with port := { s.port with
         trunk := .busy, reception := if s.port.synced then .receiving else .closed } } ∧
       ((1 ≤ bits ∧ bits ≤ 9) ∨ (16 ≤ bits ∧ bits ≤ 63) →
         exec (.dominantRun bits) s = .next { s with port := { s.port with trunk := .busy } }) ∧
       exec .trunkResetReleased s = .next s) ∧
     (s.port.trunk = .reset →
       exec (.idleGap cs) s = .next s ∧ exec (.startMark cs) s = .next s ∧
       exec (.dominantRun bits) s = .next s ∧
       exec .trunkResetReleased s = .next { s with port := { s.port with trunk := .busy } })) ∧
  (∀ (s : State) (cs : List RxChar), s.port.reception ≠ .closed → s.port.trunk ≠ .reset →
     let counts : TrunkCounts :=
       if (frameChars cs).any RxChar.parityError = true
       then { s.port.counts with parity := (s.port.counts.parity + 1) % 65536 }
       else { s.port.counts with length := (s.port.counts.length + 1) % 65536 }
     exec (.idleGap cs) s = .next { s with port := { s.port with
       trunk := .idle, synced := true, reception := .closed, counts := counts } } ∧
     exec (.startMark cs) s = .next { s with port := { s.port with
       trunk := .busy, reception := if s.port.synced then .receiving else .closed, counts := counts } }) ∧
  (∀ s : State,
     (s.port.trunk ≠ .reset →
       exec .trunkReset s = .next { s with
         port := { s.port with
           trunk := .reset, reception := .closed, urgent := [], routine := [], management := [],
           contention := none,
           counts := { s.port.counts with
             length := if s.port.reception = .closed then s.port.counts.length
                       else (s.port.counts.length + 1) % 65536,
             resets := (s.port.counts.resets + 1) % 65536 } },
         handed := s.handed ++ [.signalUnitTrunkReset, .pacerTrunkReset, .chainTrunkReset,
           .dischargeTrunkReset, .lineSequencerTrunkReset, .agentTrunkReset] }) ∧
     (s.port.trunk = .reset → exec .trunkReset s = .next s))

/-- RECEPTION_END of a frame with a discard cause (R157): only the first cause in the order parity, bad length,
check, unknown kind is counted, and no block is told. A reception that a stray END-length run closes (R177) is counted
as bad length; that a parity error is counted in its place when one came first is assumption 10. -/
def Obligations.DiscardedFramesAreCountedOnce : Prop :=
  ∀ (s : State) (cs : List RxChar), s.port.reception ≠ .closed →
    let bs := cs.map RxChar.data
    let parity := (frameChars cs).any RxChar.parityError
    let closed (c : TrunkCounts) : State :=
      { s with port := { s.port with trunk := .busy, reception := .closed, counts := c } }
    (parity = true → ∀ e, exec (.receptionEnd cs e) s =
      .next (closed { s.port.counts with parity := (s.port.counts.parity + 1) % 65536 })) ∧
    (parity = false → lengthOk bs = false → ∀ e, exec (.receptionEnd cs e) s =
      .next (closed { s.port.counts with length := (s.port.counts.length + 1) % 65536 })) ∧
    (parity = false → exec (.receptionEnd cs .strayRun) s =
      .next (closed { s.port.counts with length := (s.port.counts.length + 1) % 65536 })) ∧
    (parity = false → lengthOk bs = true → checkOk bs = false → exec (.receptionEnd cs .endMark) s =
      .next (closed { s.port.counts with check := (s.port.counts.check + 1) % 65536 })) ∧
    (parity = false → lengthOk bs = true → checkOk bs = true → kindOk bs = false →
      exec (.receptionEnd cs .endMark) s =
        .next (closed { s.port.counts with kind := (s.port.counts.kind + 1) % 65536 })) ∧
    (discardCause cs true = none → rxKind bs ≠ 1 →
      exec (.receptionEnd cs .endMark) s = .next (closed s.port.counts))

/-- RECEPTION_END of a whole SAMPLE with one item (R143, R144, R145, R147, R149): a good or questionable item of a
configured node and channel is stored as its role reads it and makes its slot FRESH, and no other slot changes; a
failed item, and one that no entry matches, changes nothing but the reception. A value of STRAND_SPEED,
SPREADER_STATE, PRESS_STATE, STRIPPER_STATE and ZONE_RH is handed on (R150). A slot that leaves LOST is reported
(R148): the pacer evaluates for KNIFE_COUNT and the chain controller for CHAIN_COUNT, as they do at a spreader's READY
and at a mode change, and a climate slot stops its zone's loss timer when the other one is not LOST; otherwise no
other block changes.
A SAMPLE of several items is that of its first items and then that of the others (R143); a payload of no item, of a
part of one, or of more than eight is ignored (R179). -/
def Obligations.SampleItemsReachTheirSlot : Prop :=
  (∀ (s : State) (cs : List RxChar),
     let bs := cs.map RxChar.data
     let item := parseItem (rxPayload bs)
     let closed : State := { s with port := { s.port with trunk := .busy, reception := .closed } }
     s.port.reception ≠ .closed → discardCause cs true = none → rxKind bs = 1 →
       (∀ role, (rxPayload bs).length = 4 → s.signals.slots.length = 32 →
         s.roleOf (claimNode bs) item.channel = some role → item.status ≤ 1 →
         let stored : Int :=
           if role = 0 then max item.value 0
           else if 20 ≤ role then max 0 (min item.value 1000)
           else if role = 1 ∨ role = 3 ∨ role = 4 ∨ role = 7 then item.value % 65536
           else item.value
         let lim := limitsOf s.line (classOf role)
         let slot : Slot :=
           { freshness := .fresh, value := stored,
             status := if item.status = 0 then .good else .questionable,
             lastTick := s.clock, received := true,
             staleTimer := .running (s.clock + lim.stale * 10),
             lostTimer := .running (s.clock + lim.lost * 10),
             baseline := if role = 1 ∨ role = 3 ∨ role = 4 ∨ role = 7 then some stored.toNat
                         else (s.slot role).baseline }
         let heard : State :=
           { closed with signals := { s.signals with slots := s.signals.slots.set role slot } }
         let arrival : List Instr :=
           if role = 0 then [.speedArrival stored.toNat s.clock]
           else if role = 2 then [.spreaderStateArrival stored]
           else if role = 5 then [.pressStateArrival stored]
           else if role = 6 then [.stripperStateArrival stored]
           else if 20 ≤ role then [.zoneRhArrival (role - 20)]
           else []
         let lost := (s.slot role).freshness = .lost
         ∃ t, exec (.receptionEnd cs .endMark) s = .next t ∧ t.signals = heard.signals ∧
           t.slot role = slot ∧ (∀ r, r ≠ role → t.slot r = s.slot r) ∧
           t.port.reception = .closed ∧ t.port.counts = s.port.counts ∧
           (role ∉ [1, 3, 4, 7] → t.handed = s.handed ++ arrival) ∧
           (¬ lost ∨ role ∈ [0, 2, 4, 5, 6, 7] → { t with handed := s.handed } = heard) ∧
           (lost → (s.slot role).baseline = none →
             (role = 1 → exec (.spreaderStateArrival 1)
               { heard with handed := .spreaderStateArrival 1 :: s.handed } = .next t) ∧
             (role = 3 → exec (.chainModeChange .priming .priming)
               { heard with handed := .chainModeChange .priming .priming :: s.handed } = .next t)) ∧
           (∀ k, lost → k < 12 → role = 8 + k ∨ role = 20 + k →
             { t with handed := s.handed } =
               (if k < s.canes.zoneCount ∧
                   s.isLost (if role = 8 + k then 20 + k else 8 + k) = false
                then { heard with sequencer := { s.sequencer with
                  lossTimers := s.sequencer.lossTimers.set k .stopped,
                  lossRaised := s.sequencer.lossRaised.set k false } }
                else heard))) ∧
       ((rxPayload bs).length = 4 →
         2 ≤ item.status ∨ s.roleOf (claimNode bs) item.channel = none →
         exec (.receptionEnd cs .endMark) s = .next closed) ∧
       ((rxPayload bs).length = 0 ∨ (rxPayload bs).length % 4 ≠ 0 ∨ 32 < (rxPayload bs).length →
         exec (.receptionEnd cs .endMark) s = .next closed)) ∧
  (∀ (s : State) (cs first others : List RxChar),
     let payload (x : List RxChar) := rxPayload (x.map RxChar.data)
     s.port.reception ≠ .closed →
     (∀ x ∈ [cs, first, others], discardCause x true = none ∧ rxKind (x.map RxChar.data) = 1 ∧
       claimNode (x.map RxChar.data) = claimNode (cs.map RxChar.data) ∧
       payload x ≠ [] ∧ (payload x).length % 4 = 0 ∧ (payload x).length ≤ 32) →
     payload cs = payload first ++ payload others →
     ∃ t, exec (.receptionEnd first .endMark) s = .next t ∧
       exec (.receptionEnd cs .endMark) s =
         exec (.receptionEnd others .endMark) { t with port := { t.port with reception := .receiving } })

/-- RECEPTION_END of a whole one-item SAMPLE for an EVENT role (R149, R150): a FRESH or STALE slot hands on a step of
1 to 32,767 beyond the baseline as one group of that size; a repeat and a restart hand on nothing. With the baseline
clear, as at the first arrival of a LOST slot, nothing is handed on. (A first arrival of KNIFE_COUNT or CHAIN_COUNT
also lets the pacer or the chain controller evaluate; what that sends finds room here, so that no refused frame is
reported.) -/
def Obligations.RollingCountsDeliverGroups : Prop :=
  ∀ (s : State) (cs : List RxChar) (role : Nat) (group : Nat → Instr),
    let bs := cs.map RxChar.data
    let item := parseItem (rxPayload bs)
    let fresh := (s.slot role).freshness ≠ .lost
    (role, group) ∈ ([(1, .knifeCountEvents), (3, .chainCountEvents), (4, .chainIndexEvents),
      (7, .stripperCountEvents)] : List (Nat × (Nat → Instr))) →
    s.port.reception ≠ .closed → discardCause cs true = none → rxKind bs = 1 → (rxPayload bs).length = 4 →
    s.roleOf (claimNode bs) item.channel = some role → item.status ≤ 1 →
      (∀ b n : Nat, fresh → (s.slot role).baseline = some b → b < 65536 → 1 ≤ n → n ≤ 32767 →
        item.value % 65536 = (b + n : Nat) % 65536 →
        ∃ t, exec (.receptionEnd cs .endMark) s = .next t ∧ t.handed = s.handed ++ [group n]) ∧
      (∀ b n : Nat, fresh → (s.slot role).baseline = some b → b < 65536 →
        n = 0 ∨ (32768 ≤ n ∧ n ≤ 65535) → item.value % 65536 = (b + n : Nat) % 65536 →
        ∃ t, exec (.receptionEnd cs .endMark) s = .next t ∧ t.handed = s.handed) ∧
      ((s.slot role).baseline = none →
        fresh ∨ role = 4 ∨ role = 7 ∨ (s.port.silent = false ∧ s.port.fill .urgent < 4) →
        ∃ t, exec (.receptionEnd cs .endMark) s = .next t ∧ t.handed = s.handed)

/-- DIRECTIVE_ACKNOWLEDGE (R158, R159): a whole DIRECTIVE to the part from the supervisor node is acknowledged and
joins the directive queue while that holds fewer than 4; otherwise the slot is left recessive; a directive to
another node, a frame that is no whole DIRECTIVE, and every frame in a silent listener (R165) leave it alone. -/
def Obligations.DirectivesAreAcknowledgedAndQueued : Prop :=
  ∀ (s : State) (cs : List RxChar),
    let bs := cs.map RxChar.data
    (discardCause cs true ≠ none ∨ rxKind bs ≠ 3 ∨ s.port.silent = true ∨ s.port.reception ≠ .receiving →
      exec (.directiveAcknowledge cs) s = .next s) ∧
    (s.port.reception = .receiving → discardCause cs true = none → rxKind bs = 3 → s.port.silent = false →
      (rxDest bs = s.port.node → claimNode bs = s.agent.supervisor → s.agent.directives.length < 4 →
        exec (.directiveAcknowledge cs) s = .next { s with
          port := { s.port with reception := .acked },
          agent := { s.agent with
            directives := s.agent.directives ++ [{ payload := rxPayload bs, sender := claimNode bs }] } }) ∧
      (rxDest bs = s.port.node → claimNode bs ≠ s.agent.supervisor ∨ 4 ≤ s.agent.directives.length →
        exec (.directiveAcknowledge cs) s = .next { s with port := { s.port with reception := .nacked } }) ∧
      (rxDest bs ≠ s.port.node → exec (.directiveAcknowledge cs) s = .next s))

/-- FRAME_DRAW (R161): on an IDLE trunk with no frame in contention the head of the highest non-empty queue is
drawn, urgent before routine before management; with a busy trunk or a frame in contention nothing is drawn.
CLAIM_LOST, ACKNOWLEDGE_SLOT_OUTCOME and TRANSMISSION_BROKEN of the frame in contention (R162, R163, R164): a
lost claim returns the frame to the head of its queue, or drops a zone command that a newer one of its kind and
zone has overtaken and reports it never sent; a dominant slot is acknowledged, a recessive one and a broken
transmission are NACK, reported to the owner with the frame's number and content. -/
def Obligations.FramesAreDrawnAndEnd : Prop :=
  (∀ s : State,
     (s.port.trunk = .idle → s.port.contention = none →
       (∀ f fs, s.port.urgent = f :: fs → exec .frameDraw s = .next { s with port := { s.port with
         urgent := fs, contention := some f, trunk := .busy } }) ∧
       (∀ f fs, s.port.urgent = [] → s.port.routine = f :: fs → exec .frameDraw s = .next { s with port :=
         { s.port with routine := fs, contention := some f, trunk := .busy } }) ∧
       (∀ f fs, s.port.urgent = [] → s.port.routine = [] → s.port.management = f :: fs →
         exec .frameDraw s = .next { s with port :=
           { s.port with management := fs, contention := some f, trunk := .busy } }) ∧
       (s.port.urgent = [] → s.port.routine = [] → s.port.management = [] → exec .frameDraw s = .next s)) ∧
     (s.port.trunk ≠ .idle ∨ s.port.contention ≠ none → exec .frameDraw s = .next s)) ∧
  (∀ (s : State) (f : Frame), s.port.contention = some f →
     let lost : Port := { s.port with
       contention := none, reception := .receiving,
       counts := { s.port.counts with claimsLost := (s.port.counts.claimsLost + 1) % 65536 } }
     let newer := ∃ g ∈ s.port.routine, zoneKey g.body = zoneKey f.body
     (zoneKey f.body = none ∨ ¬ newer →
       (queueOf f.body = .urgent → exec .claimLost s =
         .next { s with port := { lost with urgent := f :: s.port.urgent } }) ∧
       (queueOf f.body = .routine → exec .claimLost s =
         .next { s with port := { lost with routine := f :: s.port.routine } }) ∧
       (queueOf f.body = .management → exec .claimLost s =
         .next { s with port := { lost with management := f :: s.port.management } })) ∧
     (zoneKey f.body ≠ none → newer → exec .claimLost s =
       .next { s with port := lost, handed := s.handed ++ [.zoneCommandOutcome f.sent .neverSent] }) ∧
     exec (.acknowledgeSlotOutcome true) s = .next { s with
       port := { s.port with contention := none }, handed := s.handed ++ [outcomeEvent f .acknowledged] } ∧
     exec (.acknowledgeSlotOutcome false) s = .next { s with
       port := { s.port with contention := none }, handed := s.handed ++ [outcomeEvent f .nack] } ∧
     exec .transmissionBroken s = .next { s with
       port := { s.port with contention := none }, handed := s.handed ++ [outcomeEvent f .nack] })

/-- An outcome is taken by its owner once and in the order the frames ended (R164): a row whose outcome is not the
oldest of those reported and not yet taken changes nothing. ZONE_COMMAND_OUTCOME and MANAGEMENT_FRAME_OUTCOME of the
oldest one (R105, R170, R171): every outcome is taken without any change to the state of any block; the command is not
queued and the response not sent again. Only the ledger of what is handed on forgets it. -/
def Obligations.ClimateAndManagementOutcomesChangeNothing : Prop :=
  (∀ (s : State) (c : Instr), isOutcome c = true → s.nextOutcome ≠ some c → exec c s = .next s) ∧
  (∀ (s : State) (frame : SentFrame) (o : FrameOutcome),
     (s.nextOutcome = some (.zoneCommandOutcome frame o) → exec (.zoneCommandOutcome frame o) s =
       .next { s with handed := s.handed.erase (.zoneCommandOutcome frame o) }) ∧
     (s.nextOutcome = some (.managementFrameOutcome frame o) → exec (.managementFrameOutcome frame o) s =
       .next { s with handed := s.handed.erase (.managementFrameOutcome frame o) }))

/-! ## The strand pacer -/

/-- KNIFE_FIRE_OUTCOME (R32), as the oldest outcome reported (R164): an acknowledgement of the fire in flight marks it
acknowledged and starts the knife timer; a repeated acknowledgement, an outcome of another frame, and an outcome with
no fire in flight are ignored.
KNIFE_FIRE_OUTCOME with a NACK or never-sent outcome of the fire in flight, and KNIFE_TIMER_EXPIRY with the fire
still in flight, are misses (R32, R33, R34): the fire is discarded, and the pacer is IDLE, or in PRIMING and RUNNING
has evaluated. -/
def Obligations.FireOutcomesAreTakenOrMissed : Prop :=
  (∀ (s : State) (frame : SentFrame) (o : FrameOutcome),
     let taken : State := { s with handed := s.handed.erase (.knifeFireOutcome frame o) }
     s.nextOutcome = some (.knifeFireOutcome frame o) →
     (∀ f, s.pacer.state = .firing f → f.number = frame.number → o = .acknowledged →
       (f.acknowledged = false → exec (.knifeFireOutcome frame o) s = .next { taken with
         pacer := { s.pacer with
           state := .firing { f with acknowledged := true },
           knifeTimer := .running (s.clock + s.pacer.params.knifeTimeout * 10) } }) ∧
       (f.acknowledged = true → exec (.knifeFireOutcome frame o) s = .next taken)) ∧
     (∀ f, s.pacer.state = .firing f → f.number = frame.number → o ≠ .acknowledged →
       ∃ t, exec (.knifeFireOutcome frame o) s = .next t ∧ MissTaken s t) ∧
     (∀ f, s.pacer.state = .firing f → f.number ≠ frame.number →
       exec (.knifeFireOutcome frame o) s = .next taken) ∧
     (s.pacer.fire? = none → exec (.knifeFireOutcome frame o) s = .next taken)) ∧
  (∀ (s : State) (f : Fire) (e : Nat), s.pacer.state = .firing f → s.pacer.knifeTimer = .running e →
     e ≤ s.clock → ∃ t, exec .knifeTimerExpiry s = .next t ∧ MissTaken s t)

/-- SPEED_ARRIVAL (R24, R25, R43) in every mode and pacer state: the first arrival after "none" sets v_last and the
tick, and in PRIMING outside the settle window restarts the settle watch; it makes nothing else (assumption 15). A
later one adds v_last × Δt, with Δt at most 2,000 ticks, to A, which stops at 2^40 − 1, and the amount added to the
extruded total; in PRIMING a value outside the settle window clears SETTLED and restarts its timer, and otherwise both
stand; then the pacer evaluates in FORMING and BLOCKED and stays as it is in IDLE and FIRING (R27; assumption 26 for
the interval before the pacer takes a mode change).
SPEED_ARRIVAL with the curtain too long (R42): in PRIMING or RUNNING, in FORMING or BLOCKED and not purge-pending,
when A after the integration exceeds target plus margin, the curtain becomes purge-pending and OVERLENGTH is asked for
with the lowest failing interlock of R29, or 0; in every other case purge-pending stands. -/
def Obligations.SpeedArrivalsIntegrateAndCheckTheCurtain : Prop :=
  (∀ (s : State) (v tick : Nat),
     let outside : Bool := decide (s.sequencer.mode = .priming ∧
       (v < s.pacer.params.vMin ∨ s.pacer.params.vMax < v))
     let settled : Bool := if outside then false else s.pacer.settled
     let settleTimer : Timer :=
       if outside then .running (s.clock + s.pacer.params.settleTime * 10000) else s.pacer.settleTimer
     (s.pacer.lastTick = none → exec (.speedArrival v tick) s = .next { s with
       handed := s.handed.erase (.speedArrival v tick),
       pacer := { s.pacer with
         lastSpeed := v, lastTick := some tick, settled := settled, settleTimer := settleTimer } }) ∧
     (∀ last, s.pacer.lastTick = some last → last ≤ tick → tick - last < 4294967296 → TotalsInService s →
       let acc := min (s.pacer.acc + s.pacer.lastSpeed * min (tick - last) 2000) 1099511627775
       let integrated : Pacer :=
         { s.pacer with
           acc := acc, extruded := s.pacer.extruded + (acc - s.pacer.acc),
           lastSpeed := v, lastTick := some tick, settled := settled, settleTimer := settleTimer }
       let forms := s.pacer.state = .forming ∨ s.pacer.state = .blocked
       let tooLong := LineMode.allowsFires s.sequencer.mode = true ∧ forms ∧ s.pacer.purgePending = false ∧
         ∃ target, s.curtainTarget = some target ∧
           (target + s.pacer.params.overlengthMargin) * 1000000 < acc
       ∃ t, exec (.speedArrival v tick) s = .next t ∧
         t.pacer = { integrated with state := t.pacer.state, purgePending := t.pacer.purgePending } ∧
         (¬ forms → t.pacer.state = s.pacer.state ∧ t.port = s.port ∧
           t.handed = s.handed.erase (.speedArrival v tick)) ∧
         (forms → Evaluated t (inc32 s.port.frameCount)) ∧
         (tooLong → t.pacer.purgePending = true ∧ .faultRaise .overlength s.failingInterlock ∈ t.handed) ∧
         (¬ tooLong → t.pacer.purgePending = s.pacer.purgePending) ∧
         { t with pacer := s.pacer, port := s.port, handed := s.handed } = s))

/-- SPREADER_STATE_ARRIVAL of READY starts an evaluation (R26, R27, R29, R30, R31): FORMING when the condition does
not hold, BLOCKED when it holds and an interlock fails, and a fire with the disposition of R31's table and the target
of the evaluation when all holds; with no room in the urgent queue, or in a silent listener, the fire is in flight all
the same and its frame is reported never sent (R160, R165). Any other value, and IDLE and FIRING, send nothing. (That
a failing interlock 1 also blocks, in the interval between a mode change and the pacer's taking of it, is assumption
26; without a target, assumption 32, nothing is said.) -/
def Obligations.EvaluationFiresBlocksOrForms : Prop :=
  ∀ (s : State) (target : Nat),
    let arrived : State := { s with handed := s.handed.erase (.spreaderStateArrival 1) }
    (∀ v : Int, v ≠ 1 → exec (.spreaderStateArrival v) s =
      .next { s with handed := s.handed.erase (.spreaderStateArrival v) }) ∧
    (s.pacer.state = .idle ∨ (∃ f, s.pacer.state = .firing f) →
      exec (.spreaderStateArrival 1) s = .next arrived) ∧
    (s.pacer.state = .forming ∨ s.pacer.state = .blocked →
      target = (if s.sequencer.mode = .priming ∨ s.pacer.purgePending = true then s.pacer.params.purgeLength
                else (s.lotSlot (s.lots.active.getD 0)).header.hangTarget) →
      s.lots.active ≠ none ∨ s.sequencer.mode = .priming ∨ s.pacer.purgePending = true →
      (¬ FireConditionHolds s target → exec (.spreaderStateArrival 1) s =
        .next { arrived with pacer := { s.pacer with state := .forming } }) ∧
      (FireConditionHolds s target → (∀ dest, ¬ InterlocksHold s dest) →
        exec (.spreaderStateArrival 1) s =
          .next { arrived with pacer := { s.pacer with state := .blocked } }) ∧
      (∀ dest, FireConditionHolds s target → InterlocksHold s dest →
        let kind : FireKind :=
          if s.sequencer.mode = .priming ∨ s.pacer.purgePending = true then .purge
          else if 0 < s.pacer.gapCounter then .gap else .hang
        let fire : Fire :=
          { kind := kind, target := target, acknowledged := false, number := inc32 s.port.frameCount }
        exec (.spreaderStateArrival 1) s = .next (handedUrgent
          { arrived with pacer := { s.pacer with state := .firing fire } }
          dest (.knifeFire (decide (kind ≠ .hang))))))

/-- KNIFE_COUNT_EVENTS of one event that completes a fire, in every line mode and with the station empty (R35, R36,
R37, R38, R13, R15): the pacer, the station, the sequence number and the chain controller take the cut as `CutTaken`
says; a HANG cut raises the count of the active lot's slot, a GAP cut lowers the gap counter, a PURGE cut places
nothing and needs no active lot. The pacer is then IDLE, or in PRIMING and RUNNING has evaluated. No switch is made:
in RUNNING this is said with no lot armed, and in every other mode an armed lot stays armed. In DRAINING the end of
the fire lets a due insertion be made (R67), which a PURGE cut leaves the station free for. -/
def Obligations.CutsCompleteByTheirDisposition : Prop :=
  ∀ (s : State) (f : Fire),
    s.pacer.state = .firing f → s.chain.station = none → TotalsInService s →
    (s.sequencer.mode = .running → s.lots.armed = none) →
    let insertion := s.sequencer.mode = .draining ∧ s.chain.drainTimer = .expired ∧ s.chain.stepState = .idle
    ∃ t, exec (.knifeCountEvents 1) s = .next t ∧ CutTaken s t f ∧
      (LineMode.allowsFires s.sequencer.mode = false → t.pacer.state = .idle) ∧
      (LineMode.allowsFires s.sequencer.mode = true → Evaluated t t.port.frameCount) ∧
      { t with pacer := s.pacer, chain := s.chain, canes := s.canes, lots := s.lots, port := s.port,
               discharge := s.discharge, handed := s.handed } = s ∧
      t.canes.records = s.canes.records ∧ t.discharge.entries = s.discharge.entries ∧
      t.lots.active = s.lots.active ∧ t.lots.armed = s.lots.armed ∧ t.lots.gap = s.lots.gap ∧
      t.pacer.gapCounter = (if f.kind = .gap then s.pacer.gapCounter - 1 else s.pacer.gapCounter) ∧
      (∀ a, f.kind = .hang → s.lots.active = some a → a < s.lots.slots.length →
        t.lotSlot a = { s.lotSlot a with refCount := (s.lotSlot a).refCount + 1 } ∧
        (∀ i, i ≠ a → t.lotSlot i = s.lotSlot i)) ∧
      (f.kind ≠ .hang → t.lots = s.lots) ∧
      (f.kind = .purge → ¬ insertion →
        t.canes = s.canes ∧ t.chain = s.chain ∧ t.discharge = s.discharge) ∧
      (f.kind = .purge → insertion → RecordPlaced s t none ∧ t.chain.drainTimer = .stopped)

/-- KNIFE_COUNT_EVENTS of one event that completes a fire in RUNNING with a lot armed (R13, R17, R19, R35, R36, R37,
R38): the cut is taken as `CutTaken` says, its PRODUCT record naming the old lot and c moved against the target of the
curtain just cut; then the active slot becomes RETIRING, or FREE with its LOT_FREED when no record names it, the armed
slot becomes ACTIVE, the armed pointer is cleared and the gap counter takes GAP[old class][new class], whatever a GAP
cut had left of it; then the pacer evaluates. A HANG cut has by the switch counted its record. -/
def Obligations.ArmedLotsSwitchAtACut : Prop :=
  ∀ (s : State) (f : Fire) (old new : Nat),
    s.pacer.state = .firing f → s.sequencer.mode = .running → s.lots.active = some old →
    s.lots.armed = some new → old ≠ new → old < s.lots.slots.length → new < s.lots.slots.length →
    let refs := (s.lotSlot old).refCount + (if f.kind = .hang then 1 else 0)
    ∃ t, exec (.knifeCountEvents 1) s = .next t ∧
      (s.chain.station = none → TotalsInService s → CutTaken s t f) ∧
      (f.kind = .purge → t.canes = s.canes ∧ t.chain = s.chain ∧ t.discharge = s.discharge) ∧
      Evaluated t t.port.frameCount ∧
      t.lots.active = some new ∧ t.lots.armed = none ∧ t.lots.gap = s.lots.gap ∧
      t.lotSlot new = { s.lotSlot new with life := .active } ∧
      t.lotSlot old = (if refs = 0 then .cleared
        else { s.lotSlot old with life := .retiring, refCount := refs }) ∧
      (∀ i, i ≠ old → i ≠ new → t.lotSlot i = s.lotSlot i) ∧
      t.pacer.gapCounter =
        s.gapEntry (s.lotSlot old).header.changeoverClass (s.lotSlot new).header.changeoverClass ∧
      (s.port.silent = false → s.port.fill .management < 5 →
        t.port.management.map Frame.body = s.port.management.map Frame.body ++
          (if refs = 0 then
            [.report s.agent.missed s.lineTime (.lotFreed old (s.lotSlot old).header.lotNumber)] else [])) ∧
      { t with pacer := s.pacer, chain := s.chain, canes := s.canes, lots := s.lots, port := s.port,
               discharge := s.discharge, agent := s.agent, handed := s.handed } = s ∧
      t.agent.directives = s.agent.directives ∧ t.agent.supervisor = s.agent.supervisor

/-- KNIFE_COUNT_EVENTS of `n` events with no fire in flight (R39, R40): the whole curtain goes to waste once,
purge-pending is cleared and one UNEXPECTED_CUT carries the number of events, or is dropped and counted as missed at a
fill of 5 (R171); the station, the gap counter, c and the miss count stand. The pacer then evaluates in FORMING and
BLOCKED and stays IDLE in IDLE.
With a fire in flight (R40) the first event of the group is taken as a group of one, and the n − 1 others are
unexpected cuts, with one report, of a curtain of length 0; that they are so also when the evaluation after the first
has sent a new fire is assumption 24. -/
def Obligations.UnexpectedCutsWasteTheCurtain : Prop :=
  (∀ (s : State) (n : Nat), 1 ≤ n → s.pacer.fire? = none → TotalsInService s →
     ∃ t, exec (.knifeCountEvents n) s = .next t ∧
       t.pacer = { s.pacer with
         acc := 0, waste := s.pacer.waste + s.pacer.acc, purgePending := false, state := t.pacer.state } ∧
       (s.port.silent = false → s.port.fill .management < 5 →
         t.port.management = s.port.management ++
           [{ number := inc32 s.port.frameCount, dest := s.agent.supervisor,
              body := .report s.agent.missed s.lineTime
                (.unexpectedCut n ((s.pacer.acc + 500) / 1000) (pacerStateCode s.pacer.state)) }] ∧
         t.agent = { s.agent with missed := 0 }) ∧
       (5 ≤ s.port.fill .management → t.port.management = s.port.management ∧
         t.agent = { s.agent with missed := min 255 (s.agent.missed + 1) }) ∧
       (s.pacer.state = .idle → t.pacer.state = .idle) ∧
       (s.pacer.state ≠ .idle → Evaluated t t.port.frameCount) ∧
       { t with pacer := s.pacer, port := s.port, agent := s.agent, handed := s.handed } = s) ∧
  (∀ (s : State) (f : Fire) (n : Nat), s.pacer.state = .firing f → 2 ≤ n →
     ∃ u, exec (.knifeCountEvents 1)
         { s with handed := .knifeCountEvents 1 :: s.handed.erase (.knifeCountEvents n) } = .next u ∧
       u.pacer.acc = 0 ∧
       (u.pacer.waste < 18446744073709551616 →
         ∃ t, exec (.knifeCountEvents n) s = .next t ∧
           t.pacer = { u.pacer with purgePending := false, state := t.pacer.state } ∧
           (u.port.silent = false → u.port.fill .management < 5 →
             t.port.management = u.port.management ++
               [{ number := inc32 u.port.frameCount, dest := u.agent.supervisor,
                  body := .report u.agent.missed u.lineTime
                    (.unexpectedCut (n - 1) 0 (pacerStateCode u.pacer.state)) }] ∧
             t.agent = { u.agent with missed := 0 }) ∧
           (5 ≤ u.port.fill .management → t.port.management = u.port.management ∧
             t.agent = { u.agent with missed := min 255 (u.agent.missed + 1) }) ∧
           (u.pacer.state = .idle ∨ u.pacer.fire?.isSome = true → t.pacer.state = u.pacer.state) ∧
           (u.pacer.state = .forming ∨ u.pacer.state = .blocked →
             Evaluated t t.port.frameCount) ∧
           { t with pacer := u.pacer, port := u.port, agent := u.agent, handed := u.handed } = u))

/-- SETTLE_TIMER_EXPIRY and PACER_MODE_CHANGE (R28, R43): the expiry in PRIMING sets SETTLED; entering PRIMING or
RUNNING makes an IDLE pacer evaluate as FORMING, and one in FORMING or BLOCKED evaluate again, and leaves FIRING and
its fire; entering PRIMING clears SETTLED and starts the settle timer; entering a mode without fires makes FORMING and
BLOCKED IDLE and leaves FIRING; leaving PRIMING stops the timer. (An evaluation after the mode has changed again is
assumption 26.) -/
def Obligations.PacerFollowsTheModeAndSettles : Prop :=
  ∀ (s : State) (old new : LineMode),
    (∀ e, s.pacer.settleTimer = .running e → e ≤ s.clock → s.sequencer.mode = .priming →
      exec .settleTimerExpiry s = .next { s with
        pacer := { s.pacer with settled := true, settleTimer := .stopped } }) ∧
    (s.sequencer.mode = .priming → s.pacer.state = .idle →
      ¬ FireConditionHolds s s.pacer.params.purgeLength →
      exec (.pacerModeChange old .priming) s = .next { s with
        handed := s.handed.erase (.pacerModeChange old .priming),
        pacer := { s.pacer with
          state := .forming, settled := false,
          settleTimer := .running (s.clock + s.pacer.params.settleTime * 10000) } }) ∧
    (LineMode.allowsFires new = true →
      ∃ t, exec (.pacerModeChange old new) s = .next t ∧
        t.pacer = { s.pacer with
          state := t.pacer.state,
          settled := if new = .priming then false else s.pacer.settled,
          settleTimer :=
            if new = .priming then .running (s.clock + s.pacer.params.settleTime * 10000)
            else if old = .priming then .stopped else s.pacer.settleTimer } ∧
        (∀ f, s.pacer.state = .firing f → t.pacer.state = .firing f) ∧
        (s.pacer.fire? = none → Evaluated t (inc32 s.port.frameCount)) ∧
        { t with pacer := s.pacer, port := s.port, handed := s.handed } = s) ∧
    (LineMode.allowsFires new = false → s.pacer.state = .forming ∨ s.pacer.state = .blocked →
      exec (.pacerModeChange old new) s = .next { s with
        handed := s.handed.erase (.pacerModeChange old new),
        pacer := { s.pacer with
          state := .idle,
          settleTimer := if old = .priming then .stopped else s.pacer.settleTimer } }) ∧
    (LineMode.allowsFires new = false → s.pacer.state = .idle ∨ (∃ f, s.pacer.state = .firing f) →
      exec (.pacerModeChange old new) s = .next { s with
        handed := s.handed.erase (.pacerModeChange old new),
        pacer := { s.pacer with
          settleTimer := if old = .priming then .stopped else s.pacer.settleTimer } })

/-! ## The chain controller and the cane queue -/

/-- CHAIN_MODE_CHANGE (R56, R57, R58, R63, R67, R121): entering PRIMING, RUNNING or DRAINING evaluates the chain
unless a step is in flight. Without room at the exit WAITING_ROOM is entered and the stall timer runs; a step that
is allowed is sent with the record's rod flag, reported never sent without room in the urgent queue and in a silent
listener (R160, R165); otherwise the step state is IDLE. Entering DRAINING starts the drain
timer, leaving it stops it, and another mode evaluates nothing. -/
def Obligations.ChainFollowsTheMode : Prop :=
  ∀ (s : State) (old new : LineMode),
    let moved : State := { s with
      handed := s.handed.erase (.chainModeChange old new),
      chain := { s.chain with drainTimer :=
        if new = .draining then .running (s.clock + s.line.drainTime * 10000)
        else if old = .draining then .stopped else s.chain.drainTimer } }
    let left : LatchTimer := if s.chain.stepState = .waitingRoom then .stopped else s.discharge.stallTimer
    let steps := new = .priming ∨ new = .running ∨ new = .draining
    (¬ steps ∨ (∃ st, s.chain.stepState = .stepping st) → exec (.chainModeChange old new) s = .next moved) ∧
    (steps → s.chain.step? = none →
      (∀ c, s.chain.station = some c → NoRoomAtTheExit s →
        exec (.chainModeChange old new) s = .next { moved with
          chain := { moved.chain with stepState := .waitingRoom },
          discharge := { s.discharge with
            stallTimer :=
              if s.chain.stepState = .waitingRoom then s.discharge.stallTimer
              else .running (s.lineTime + s.line.stallLimit) } }) ∧
      (∀ c dest, s.chain.station = some c → ¬ NoRoomAtTheExit s → StepAllowedTo s dest →
        exec (.chainModeChange old new) s = .next (handedUrgent
          { moved with
            chain := { moved.chain with
              recommands := 0,
              stepState := .stepping
                { loaded := c.isProduct, acknowledged := false, number := inc32 s.port.frameCount } },
            discharge := { s.discharge with stallTimer := left } }
          dest (.chainStep c.isProduct))) ∧
      (s.chain.station = none ∨ (¬ NoRoomAtTheExit s ∧ ∀ dest, ¬ StepAllowedTo s dest) →
        exec (.chainModeChange old new) s = .next { moved with
          chain := { moved.chain with stepState := .idle },
          discharge := { s.discharge with stallTimer := left } }))

/-- CHAIN_STEP_OUTCOME (R59), as the oldest outcome reported (R164): an acknowledgement of the step in flight marks it
and starts the step timer; a NACK or never-sent outcome queues CHAIN_STEP again, twice at most, and the third discards
the step with CHAIN_TIMEOUT detail 1; every other outcome is ignored. (A step that is already marked is re-commanded
with its mark kept: assumption 30; a re-command whose CHAIN entry is gone queues nothing: assumption 17; one without
room in the urgent queue, or in a silent listener, is reported never sent.) STEP_TIMER_EXPIRY (R60) discards it with
detail 2. The discarded step moves no record, and the pacer evaluates in FORMING and BLOCKED (R27). -/
def Obligations.StepsAreCommandedThreeTimesAtMost : Prop :=
  (∀ (s : State) (st : StepInFlight), s.chain.stepState = .stepping st →
     let discarded (handed : List Instr) (p : PacerState) : State := { s with
       handed := handed,
       chain := { s.chain with stepState := .idle, recommands := 0, stepTimer := .stopped },
       pacer := { s.pacer with state := p } }
     let ended (c : Instr) (handed : List Instr) : Prop := ∃ p, exec c s = .next (discarded handed p) ∧
       (s.pacer.state = .forming ∨ s.pacer.state = .blocked →
         Evaluated (discarded handed p) (inc32 s.port.frameCount)) ∧
       (s.pacer.state = .idle ∨ (∃ f, s.pacer.state = .firing f) → p = s.pacer.state)
     (∀ (frame : SentFrame) (o : FrameOutcome), s.nextOutcome = some (.chainStepOutcome frame o) →
       let taken : State := { s with handed := s.handed.erase (.chainStepOutcome frame o) }
       (st.number ≠ frame.number → exec (.chainStepOutcome frame o) s = .next taken) ∧
       (st.number = frame.number → o = .acknowledged → st.acknowledged = true →
         exec (.chainStepOutcome frame o) s = .next taken) ∧
       (st.number = frame.number → o = .acknowledged → st.acknowledged = false →
         exec (.chainStepOutcome frame o) s = .next { taken with chain := { s.chain with
           stepState := .stepping { st with acknowledged := true },
           stepTimer := .running (s.clock + s.line.stepTimeout * 10) } }) ∧
       (∀ dest, st.number = frame.number → o ≠ .acknowledged → s.chain.recommands < 2 →
         s.talkNode 1 = some dest →
         exec (.chainStepOutcome frame o) s = .next (handedUrgent
           { taken with chain := { s.chain with
               recommands := s.chain.recommands + 1,
               stepState := .stepping { st with number := inc32 s.port.frameCount } } }
           dest (.chainStep st.loaded))) ∧
       (st.number = frame.number → o ≠ .acknowledged → s.chain.recommands < 2 → s.talkNode 1 = none →
         exec (.chainStepOutcome frame o) s = .next { taken with chain := { s.chain with
           recommands := s.chain.recommands + 1 } }) ∧
       (st.number = frame.number → o ≠ .acknowledged → 2 ≤ s.chain.recommands →
         s.chain.station.isSome = true →
         ended (.chainStepOutcome frame o)
           (s.handed.erase (.chainStepOutcome frame o) ++ [.faultRaise .chainTimeout 1]))) ∧
     (∀ e, s.chain.stepTimer = .running e → e ≤ s.clock → s.chain.station.isSome = true →
       ended .stepTimerExpiry (s.handed ++ [.faultRaise .chainTimeout 2]))) ∧
  (∀ (s : State) (frame : SentFrame) (o : FrameOutcome), s.chain.step? = none →
     s.nextOutcome = some (.chainStepOutcome frame o) → exec (.chainStepOutcome frame o) s =
       .next { s with handed := s.handed.erase (.chainStepOutcome frame o) })

/-- CHAIN_COUNT_EVENTS with a step in flight (R61, R62, R65, R113, R114, R115), in every line mode: the station record
joins the cane queue at the tail; a head beyond P_exit leaves, a PRODUCT record to the discharge queue with its cut
plan and its disposition, an EMPTY record dropped; the step ends, and in DRAINING the drain timer restarts. The
station is then empty and the step over, and the pacer evaluates in FORMING and BLOCKED (R27), in the mode the
step-done found. The climate loss check follows (R137), in whose absence of a due zone the line sequencer changes in
DRAINING only. Extra events of the group ask for CHAIN_SLIP detail 2. -/
def Obligations.StepDoneAdvancesTheLine : Prop :=
  ∀ (s : State) (st : StepInFlight) (c : Cane) (n : Nat),
    s.chain.stepState = .stepping st → s.chain.station = some c → 1 ≤ n →
    ∃ t, exec (.chainCountEvents n) s = .next t ∧
      t.chain = { s.chain with
        station := none, stepState := .idle, recommands := 0, stepTimer := .stopped,
        revCount := min 65535 (s.chain.revCount + 1),
        drainTimer :=
          if s.sequencer.mode = .draining then .running (s.clock + s.line.drainTime * 10000)
          else s.chain.drainTimer } ∧
      t.pacer = { s.pacer with state := t.pacer.state } ∧
      (s.pacer.state = .forming ∨ s.pacer.state = .blocked →
        Evaluated { t with sequencer := s.sequencer } (inc32 s.port.frameCount)) ∧
      (s.pacer.state = .idle ∨ (∃ f, s.pacer.state = .firing f) → t.pacer.state = s.pacer.state) ∧
      (s.sequencer.lossRaised.length = 12 → s.canes.zoneCount ≤ 12 → ClimateLossChecked s t) ∧
      (s.sequencer.mode ≠ .draining → (∀ k, s.lossTimer k ≠ .expired ∨ s.lossMark k = true) →
        t.sequencer = s.sequencer) ∧
      (2 ≤ n → .faultRaise .chainSlip 2 ∈ t.handed) ∧
      { t with chain := s.chain, canes := s.canes, discharge := s.discharge, pacer := s.pacer, port := s.port,
               agent := s.agent, sequencer := s.sequencer, handed := s.handed } = s ∧
      { t.canes with records := s.canes.records } = s.canes ∧
      (s.canes.pExit = none ∨ (∃ p, s.canes.pExit = some p ∧ s.canes.records.length ≤ p) →
        t.canes.records = s.canes.records ++ [c] ∧ t.discharge = s.discharge) ∧
      (∀ p h rest, s.canes.pExit = some p → s.canes.records = h :: rest → rest.length = p →
        t.canes.records = rest ++ [c] ∧
        (h.product = none → t.discharge = s.discharge) ∧
        (∀ q, h.product = some q →
          let lot := (s.lotSlot q.lot).header
          let pieces := min ((q.length - 1000 * (lot.topTrim + lot.bottomTrim)) / (1000 * lot.pieceLength)) 255
          t.discharge = { s.discharge with entries := s.discharge.entries ++ [
            { sequence := h.sequence, hangTime := h.hangTime, product := q, pieces := pieces,
              scrap := q.length - pieces * lot.pieceLength * 1000, late := false,
              disposition :=
                if q.markReject = true ∨ lot.acceptMax < q.moisture ∨
                    (q.excursion.isSome = true ∧ lot.policy = .divert) ∨ pieces = 0 then .divert
                else if q.markHold = true then .setAside else .pack }] }))

/-- CHAIN_COUNT_EVENTS with no step in flight and CHAIN_INDEX_EVENTS (R64, R66): an idle slip moves nothing and asks
for CHAIN_SLIP detail 1; an index event sets the baseline and clears the revolution count, and asks for CHAIN_SLIP
detail 3 when the baseline was set and the count differs from a nonzero steps-per-revolution figure; the later events
of a group find a count of 0, and each asks for it unless that figure is 0. -/
def Obligations.SlipsAreFoundByCountAndIndex : Prop :=
  ∀ (s : State) (n : Nat),
    (1 ≤ n → s.chain.step? = none → exec (.chainCountEvents n) s = .next { s with
      handed := s.handed.erase (.chainCountEvents n) ++ [.faultRaise .chainSlip 1] }) ∧
    (1 ≤ n → exec (.chainIndexEvents n) s = .next { s with
      chain := { s.chain with revBaseline := true, revCount := 0 },
      handed := s.handed.erase (.chainIndexEvents n) ++
        (if s.chain.revBaseline = true ∧ s.line.stepsPerRev ≠ 0 ∧ s.chain.revCount ≠ s.line.stepsPerRev
         then [.faultRaise .chainSlip 3] else []) ++
        (if s.line.stepsPerRev ≠ 0 then List.replicate (n - 1) (.faultRaise .chainSlip 3) else []) })

/-- DRAIN_TIMER_EXPIRY and the end of a drain (R57, R67, R128, R131): in DRAINING with the station empty, the step
state IDLE and no fire in flight the expiry places an EMPTY record and stops the timer; otherwise the timer stays
expired and the chain controller evaluates as it does at a mode change (R57), which changes nothing with a step in
flight, and nothing with the station empty and the step state IDLE. The step-done by which the last product departs in
DRAINING restarts the timer and enters STOPPED. -/
def Obligations.DrainingInsertsEmptiesAndEnds : Prop :=
  ∀ (s : State) (e : Nat),
    let ready := s.sequencer.mode = .draining ∧ s.chain.station = none ∧ s.chain.stepState = .idle ∧
      s.pacer.fire? = none
    (s.chain.drainTimer = .running e → e ≤ s.clock → ¬ ready →
      let expired : State := { s with chain := { s.chain with drainTimer := .expired } }
      (∃ t, exec .drainTimerExpiry s = .next t ∧ t.chain.drainTimer = .expired ∧
        exec (.chainModeChange .priming .priming)
          { expired with handed := .chainModeChange .priming .priming :: s.handed } = .next t) ∧
      (s.chain.step?.isSome = true ∨ (s.chain.station = none ∧ s.chain.stepState = .idle) →
        exec .drainTimerExpiry s = .next expired)) ∧
    (s.chain.drainTimer = .running e → e ≤ s.clock → ready →
      ∃ t, exec .drainTimerExpiry s = .next t ∧ t.chain.drainTimer = .stopped ∧
        t.chain.station =
          some { sequence := s.canes.nextSequence, hangTime := s.lineTime, product := none } ∧
        t.canes = { s.canes with nextSequence := (s.canes.nextSequence + 1) % 16777216 } ∧
        t.discharge.entries = s.discharge.entries ∧ t.pacer = s.pacer ∧ t.sequencer = s.sequencer ∧
        t.lots = s.lots) ∧
    (∀ st c h rest, s.sequencer.mode = .draining → s.chain.stepState = .stepping st →
      s.chain.station = some c → c.product = none → s.canes.records = h :: rest →
      s.canes.pExit = some rest.length → h.isProduct = true → (∀ r ∈ rest, r.product = none) →
      ∃ t, exec (.chainCountEvents 1) s = .next t ∧ t.sequencer = { s.sequencer with mode := .stopped } ∧
        t.canes.records = rest ++ [c] ∧
        t.chain.drainTimer = .running (s.clock + s.line.drainTime * 10000) ∧
        (s.port.silent = false → t.handed = s.handed.erase (.chainCountEvents 1) ++
          [.pacerModeChange .draining .stopped, .chainModeChange .draining .stopped]) ∧
        (s.port.silent = false → s.port.fill .management < 5 → t.port.management = s.port.management ++
          [{ number := inc32 s.port.frameCount, dest := s.agent.supervisor,
             body := .report s.agent.missed s.lineTime (.modeChange .draining .stopped .drained none) }]))

/-! ## The discharge unit -/

/-- STRIPPER_STATE_ARRIVAL, and STRIP_ORDER_OUTCOME as the oldest outcome reported (R117, R118, R164): READY orders
the head when no order is outstanding, the STRIPPER entry is configured and the routine queue has room; a NACK or
never-sent outcome of the head's order withdraws it and decides the disposition again with the record as it stands;
otherwise nothing changes. -/
def Obligations.StripOrdersGoToTheHead : Prop :=
  ∀ (s : State) (v : Int) (n : SentFrame) (q dest : Nat) (o : FrameOutcome) (e : DischargeEntry)
    (rest : List DischargeEntry),
    let lot := (s.lotSlot e.product.lot).header
    let arrived : State := { s with handed := s.handed.erase (.stripperStateArrival v) }
    let taken : State := { s with handed := s.handed.erase (.stripOrderOutcome n q o) }
    (v ≠ 1 ∨ s.discharge.entries = [] ∨ s.discharge.orderOutstanding = true ∨ s.talkNode 3 = none ∨
        24 ≤ s.port.fill .routine →
      exec (.stripperStateArrival v) s = .next arrived) ∧
    (v = 1 → s.discharge.entries = e :: rest → s.discharge.orderOutstanding = false →
      s.talkNode 3 = some dest → s.port.fill .routine < 24 → s.port.silent = false →
      exec (.stripperStateArrival v) s = .next (withRoutine
        { arrived with discharge := { s.discharge with orderOutstanding := true } } dest
        (.stripOrder e.sequence e.disposition e.pieces lot.pieceLength lot.topTrim e.scrap))) ∧
    (s.nextOutcome = some (.stripOrderOutcome n q o) → s.discharge.entries = e :: rest →
      (s.discharge.orderOutstanding = true → e.sequence = q → o ≠ .acknowledged →
        exec (.stripOrderOutcome n q o) s = .next { taken with discharge := { s.discharge with
          orderOutstanding := false,
          entries := { e with disposition :=
            if e.product.markReject = true ∨ lot.acceptMax < e.product.moisture ∨
                (e.product.excursion.isSome = true ∧ lot.policy = .divert) ∨ e.pieces = 0 then .divert
            else if e.product.markHold = true then .setAside else .pack } :: rest } }) ∧
      (s.discharge.orderOutstanding = false ∨ e.sequence ≠ q ∨ o = .acknowledged →
        exec (.stripOrderOutcome n q o) s = .next taken)) ∧
    (s.nextOutcome = some (.stripOrderOutcome n q o) → s.discharge.entries = [] →
      exec (.stripOrderOutcome n q o) s = .next taken)

/-- STRIPPER_COUNT_EVENTS (R17, R119, R120): with the head's order outstanding the first event completes it: CANE_OUT,
the entry removed, its disposition counted, its lot's reference count lowered and a RETIRING lot without references
freed with LOT_FREED. The chain controller then evaluates (R56, R57, R63): one that waited for room sends its step or
becomes IDLE, and the stall timer stops (R121); with a step in flight it does nothing. Events with no order
outstanding change nothing but for one DISCHARGE_NOTE. Of a larger group the first event completes the head, and the
others are taken as a group with no order outstanding. A report is dropped and counted as missed at a management fill
of 5 (R171). -/
def Obligations.StripCompletionsCountAndRelease : Prop :=
  (∀ (s : State) (e : DischargeEntry) (rest : List DischargeEntry) (n : Nat),
    s.discharge.entries = e :: rest → s.discharge.orderOutstanding = true → 2 ≤ n →
    ∃ u, exec (.stripperCountEvents 1)
        { s with handed := .stripperCountEvents 1 :: s.handed.erase (.stripperCountEvents n) } = .next u ∧
      u.discharge.entries = rest ∧ u.discharge.orderOutstanding = false ∧
      exec (.stripperCountEvents n) s = exec (.stripperCountEvents (n - 1))
        { u with handed := .stripperCountEvents (n - 1) :: u.handed }) ∧
  (∀ (s : State) (n : Nat),
    (1 ≤ n → s.discharge.orderOutstanding = false ∨ s.discharge.entries = [] → 5 ≤ s.port.fill .management →
      exec (.stripperCountEvents n) s = .next { s with
        handed := s.handed.erase (.stripperCountEvents n),
        agent := { s.agent with missed := min 255 (s.agent.missed + 1) } }) ∧
    (1 ≤ n → s.discharge.orderOutstanding = false ∨ s.discharge.entries = [] → s.port.silent = false →
      s.port.fill .management < 5 →
      exec (.stripperCountEvents n) s = .next { s with
        handed := s.handed.erase (.stripperCountEvents n),
        agent := { s.agent with missed := 0 },
        port := { s.port with
          frameCount := inc32 s.port.frameCount,
          management := s.port.management ++
            [{ number := inc32 s.port.frameCount, dest := s.agent.supervisor,
               body := .report s.agent.missed s.lineTime (.dischargeNote n s.discharge.entries.length
                 (s.discharge.entries.head?.map DischargeEntry.sequence)) }] } }) ∧
    (∀ e rest, s.discharge.entries = e :: rest → s.discharge.orderOutstanding = true →
      e.product.lot < s.lots.slots.length →
      let lot := s.lotSlot e.product.lot
      let caneOut : FrameBody := .report s.agent.missed s.lineTime (.caneOut e lot.header.lotNumber)
      let freed := lot.life = .retiring ∧ lot.refCount ≤ 1
      let management := s.port.management.map Frame.body
      let count (d : Disposition) (k : Nat) : Nat := if e.disposition = d then (k + 1) % 4294967296 else k
      ∃ t, exec (.stripperCountEvents 1) s = .next t ∧
        t.discharge.entries = rest ∧ t.discharge.orderOutstanding = false ∧
        t.discharge.packCount = count .pack s.discharge.packCount ∧
        t.discharge.setAsideCount = count .setAside s.discharge.setAsideCount ∧
        t.discharge.divertCount = count .divert s.discharge.divertCount ∧
        t.lotSlot e.product.lot =
          (if freed then .cleared
           else { lot with refCount := lot.refCount - 1 }) ∧
        (∀ i, i ≠ e.product.lot → t.lotSlot i = s.lotSlot i) ∧
        (s.port.silent = false → s.port.fill .management < 4 → t.agent = { s.agent with missed := 0 } ∧
          t.port.management.map Frame.body = management ++ [caneOut] ++
            (if freed then [.report 0 s.lineTime (.lotFreed e.product.lot lot.header.lotNumber)] else [])) ∧
        (s.port.silent = false → s.port.fill .management = 4 →
          t.agent = { s.agent with missed := if freed then 1 else 0 } ∧
          t.port.management.map Frame.body = management ++ [caneOut]) ∧
        (5 ≤ s.port.fill .management →
          t.agent = { s.agent with missed := min 255 (s.agent.missed + (if freed then 2 else 1)) } ∧
          t.port.management.map Frame.body = management) ∧
        t.canes = s.canes ∧ t.pacer = s.pacer ∧ t.sequencer = s.sequencer ∧
        t.chain.station = s.chain.station ∧ t.chain.drainTimer = s.chain.drainTimer ∧
        (s.chain.step? = none → ChainEvaluated s t t.port.frameCount) ∧
        (s.chain.step?.isSome = true → t.chain = s.chain ∧ t.discharge.stallTimer = s.discharge.stallTimer)))

/-- STALL_TIMER_EXPIRY and CLIMATE_LOSS_TIMER_EXPIRY (R121, R137): the first asks for DISCHARGE_STALL, detail 1 with
an order outstanding and 0 without; the second makes the zone's timer expired and, when the zone holds a PRODUCT
record and is not yet marked, lists CLIMATE_LOST and marks the zone (in the same step: assumption 13); the check that
does so looks at every configured zone, and raises nothing when none is due. -/
def Obligations.StallAndClimateLossRunOut : Prop :=
  ∀ (s : State) (k e : Nat), e ≤ s.lineTime →
    (s.discharge.stallTimer = .running e → exec .stallTimerExpiry s = .next { s with
      discharge := { s.discharge with stallTimer := .expired },
      handed := s.handed ++
        [.faultRaise .dischargeStall (if s.discharge.orderOutstanding = true then 1 else 0)] }) ∧
    (s.lossTimer k = .running e → k < s.canes.zoneCount → s.sequencer.lossTimers.length = 12 →
      s.sequencer.lossRaised.length = 12 →
      ∃ t, exec (.climateLossTimerExpiry k) s = .next t ∧ t.lossTimer k = .expired ∧
        (∀ j, j ≠ k → t.lossTimer j = s.lossTimer j) ∧
        (s.productsIn k ≠ [] → t.lossMark k = true ∧ (s.lossMark k = false →
          t.sequencer.lists .climateLost = true)) ∧
        (s.productsIn k = [] → t.lossMark k = s.lossMark k) ∧
        (s.canes.zoneCount ≤ 12 → ClimateLossChecked
          { s with sequencer := { s.sequencer with lossTimers := s.sequencer.lossTimers.set k .expired } } t) ∧
        { t with sequencer := s.sequencer, port := s.port, agent := s.agent, handed := s.handed } = s)

/-! ## The line sequencer's arrivals and faults -/

/-- PRESS_STATE_ARRIVAL, and PRESS_CMD_OUTCOME as the oldest outcome reported (R129, R130, R164): an arrival sends an
owed press command of the present mode; a FAULT arrival raises PRESS_FAULT first (in the same step: assumption 13),
and the owed flag is then tested in the mode the fault leaves. A NACK or never-sent outcome of the present mode's
command sets the owed flag; every other outcome changes nothing. -/
def Obligations.PressCommandsAreOwedUntilTaken : Prop :=
  ∀ (s : State) (v : Int) (n : SentFrame) (dest : Nat) (run : Bool) (o : FrameOutcome),
    let arrived : State := { s with handed := s.handed.erase (.pressStateArrival v) }
    let taken : State := { s with handed := s.handed.erase (.pressCmdOutcome n run o) }
    let runs : Bool := decide (s.sequencer.mode = .priming ∨ s.sequencer.mode = .running)
    (v ≠ 3 → s.sequencer.pressOwed = false → exec (.pressStateArrival v) s = .next arrived) ∧
    (v ≠ 3 → s.sequencer.pressOwed = true → s.talkNode 2 = some dest → s.port.fill .urgent < 4 →
      s.port.silent = false →
      exec (.pressStateArrival v) s = .next (withUrgent
        { arrived with sequencer := { s.sequencer with pressOwed := false } } dest (.pressCmd runs))) ∧
    (v ≠ 3 → s.sequencer.pressOwed = true → s.talkNode 2 = none ∨ 4 ≤ s.port.fill .urgent →
      exec (.pressStateArrival v) s = .next arrived) ∧
    (s.sequencer.lists .pressFault = false → ∃ t, exec (.pressStateArrival 3) s = .next t ∧
      t.sequencer.faults = s.sequencer.faults ++ [newFault s .pressFault 0] ∧
      t.sequencer.mode =
        (if s.sequencer.faults ≠ [] then .safe
         else if s.sequencer.mode = .priming ∨ s.sequencer.mode = .running ∨ s.sequencer.mode = .draining
           then .holding else s.sequencer.mode)) ∧
    (∃ u, exec (.faultRaise .pressFault 0)
        { s with handed := .faultRaise .pressFault 0 :: s.handed.erase (.pressStateArrival 3) } = .next u ∧
      exec (.pressStateArrival 3) s =
        exec (.pressStateArrival 1) { u with handed := .pressStateArrival 1 :: u.handed }) ∧
    (s.nextOutcome = some (.pressCmdOutcome n run o) → o ≠ .acknowledged → run = runs →
      exec (.pressCmdOutcome n run o) s = .next { taken with sequencer := { s.sequencer with pressOwed := true } }) ∧
    (s.nextOutcome = some (.pressCmdOutcome n run o) → o = .acknowledged ∨ run ≠ runs →
      exec (.pressCmdOutcome n run o) s = .next taken)

/-- FAULT_RAISE (R132): a listed code only raises its entry's count, saturating at 255. A new code is appended with
the line time, a count of 1 and its detail; with the list empty PRIMING, RUNNING and DRAINING go to HOLDING and the
other modes stay; with another code listed the mode is SAFE. A change of mode is handed to the pacer and the chain
controller, and its entry queues PRESS_CMD hold, or owes it without a PRESS entry or room (R128, R129). FAULT_RAISED
is queued before MODE_CHANGE. -/
def Obligations.FaultsListOnceAndEscalate : Prop :=
  ∀ (s : State) (code : FaultCode) (d : Nat),
    let after : LineMode :=
      if s.sequencer.faults ≠ [] then .safe
      else if s.sequencer.mode = .priming ∨ s.sequencer.mode = .running ∨ s.sequencer.mode = .draining
        then .holding else s.sequencer.mode
    ((∃ e ∈ s.sequencer.faults, e.code = code) → exec (.faultRaise code d) s = .next { s with
      handed := s.handed.erase (.faultRaise code d),
      sequencer := { s.sequencer with faults := s.sequencer.faults.map (fun e =>
        if e.code = code then { e with count := min 255 (e.count + 1) } else e) } }) ∧
    ((∀ e ∈ s.sequencer.faults, e.code ≠ code) → ∃ t, exec (.faultRaise code d) s = .next t ∧
      t.sequencer.faults = s.sequencer.faults ++
        [{ code := code, time := s.lineTime, count := 1, detail := d }] ∧
      t.sequencer.mode = after ∧
      (after ≠ s.sequencer.mode → .pacerModeChange s.sequencer.mode after ∈ t.handed ∧
        .chainModeChange s.sequencer.mode after ∈ t.handed) ∧
      t.sequencer.lossTimers = s.sequencer.lossTimers ∧ t.sequencer.lossRaised = s.sequencer.lossRaised ∧
      (after = s.sequencer.mode → t.sequencer.pressOwed = s.sequencer.pressOwed ∧
        t.port.urgent = s.port.urgent) ∧
      (after ≠ s.sequencer.mode → s.talkNode 2 = none ∨ 4 ≤ s.port.fill .urgent →
        t.sequencer.pressOwed = true ∧ t.port.urgent = s.port.urgent) ∧
      (∀ dest, after ≠ s.sequencer.mode → s.talkNode 2 = some dest → s.port.fill .urgent < 4 →
        s.port.silent = false → t.sequencer.pressOwed = false ∧ ∃ number,
          t.port.urgent = s.port.urgent ++ [{ number := number, dest := dest, body := .pressCmd false }]) ∧
      { t with sequencer := s.sequencer, port := s.port, agent := s.agent, handed := s.handed } = s ∧
      (s.port.silent = false → s.port.fill .management < 4 →
        t.port.management.map Frame.body = s.port.management.map Frame.body ++
          [.report s.agent.missed s.lineTime (.faultRaised code d s.sequencer.mode after)] ++
          (if after = s.sequencer.mode then []
           else [.report 0 s.lineTime (.modeChange s.sequencer.mode after .fault (some code))])))

/-! ## The zone climate unit and the measurement slots -/

/-- ZONE_RH_ARRIVAL and AIR_TIMER_EXPIRY of a configured zone (R102, R103, R104, R106, R107): an arrival stores the
humidity demand and queues ZONE_CLIMATE with the outputs of the zone's form; an air timer expiry turns the direction,
queues AIR_DIR, steps the stagger generator and starts the timer again. Each command is queued in place of one of its
kind and zone, at the tail while there is room, or, with the queue full, not at all, and the zone's state is kept all
the same. A zone that is not configured is ignored. -/
def Obligations.ZonesAnswerArrivalsAndAlternate : Prop :=
  ∀ (s : State) (k : Nat),
    let z := s.zoneState k
    let e := s.zoneEntry k
    let demand := demandAgainst s k z.rhSetpoint
    let stored : State := { s with
      handed := s.handed.erase (.zoneRhArrival k),
      climate := { s.climate with zones := s.climate.zones.set k { z with demand := demand } } }
    (s.canes.zoneCount ≤ k → exec (.zoneRhArrival k) s =
      .next { s with handed := s.handed.erase (.zoneRhArrival k) } ∧ exec (.airTimerExpiry k) s = .next s) ∧
    (k < s.canes.zoneCount → k < s.climate.zones.length →
      (∃ t, exec (.zoneRhArrival k) s = .next t ∧
        ZoneCommandQueued stored t (4 + k) (climateCommand s k z.tempSetpoint demand)) ∧
      (∀ x, z.airTimer = .running x → x ≤ s.lineTime →
        let g := staggerNext s.climate.stagger
        let turned : AirDirection := if z.direction = .forward then .reverse else .forward
        let alternated : State := { s with climate := {
          zones := s.climate.zones.set k { z with
            direction := turned,
            airTimer := .running (s.lineTime + e.airBase + g.toNat % (e.airJitter + 1)) },
          stagger := g } }
        ∃ t, exec (.airTimerExpiry k) s = .next t ∧
          ZoneCommandQueued alternated t (16 + k) (.airDir k turned)))

/-- STALE_TIMER_EXPIRY and LOST_TIMER_EXPIRY (R136, R137, R146, R147, R148): a FRESH slot becomes STALE; a slot whose
lost timer expires becomes LOST with its timers stopped and its baseline cleared, keeps its value, status and last
arrival, and the served block is told: the pacer forgets its last arrival, a loss of speed in PRIMING or RUNNING lists
SPEED_LOST (in the same step: assumption 13), the chain controller clears the revolution baseline, a climate slot
starts its zone's loss timer, and the loss of a zone's humidity slot sets the demand to 0 and queues the neutral
ZONE_CLIMATE (R102, R103, R104). -/
def Obligations.SlotsGrowStaleAndAreLost : Prop :=
  ∀ (s : State) (role e : Nat), role < 32 → s.signals.slots.length = 32 → e ≤ s.clock →
    ((s.slot role).staleTimer = .running e → (s.slot role).freshness = .fresh →
      exec (.staleTimerExpiry role) s = .next { s with
        signals := { s.signals with
          slots := s.signals.slots.set role
            { s.slot role with freshness := .stale, staleTimer := .stopped } } }) ∧
    ((s.slot role).lostTimer = .running e → (s.slot role).freshness ≠ .lost →
      ∃ t, exec (.lostTimerExpiry role) s = .next t ∧
        t.signals = { s.signals with
          slots := s.signals.slots.set role
            { s.slot role with
              freshness := .lost, staleTimer := .stopped, lostTimer := .stopped, baseline := none } } ∧
        (role = 0 → t.pacer = { s.pacer with lastTick := none } ∧ SpeedLossTested s t ∧
          (LineMode.allowsFires s.sequencer.mode = false → t.sequencer = s.sequencer)) ∧
        (role = 3 ∨ role = 4 → t.chain = { s.chain with revBaseline := false }) ∧
        (role = 1 ∨ role = 2 ∨ 5 ≤ role ∧ role ≤ 7 → { t with signals := s.signals } = s) ∧
        (∀ k, role = 8 + k ∨ role = 20 + k → k < 12 → k < s.canes.zoneCount → s.lossTimer k = .stopped →
          s.sequencer.lossTimers.length = 12 → s.sequencer.lossRaised.length = 12 →
          t.lossTimer k = .running (s.lineTime + s.line.climateLossLimit) ∧ t.lossMark k = false) ∧
        (∀ k, role = 20 + k → k < 12 → k < s.canes.zoneCount → k < s.climate.zones.length →
          let z := s.zoneState k
          let neutral : State := { s with
            signals := t.signals, sequencer := t.sequencer,
            climate := { s.climate with zones := s.climate.zones.set k { z with demand := 0 } } }
          ZoneCommandQueued neutral t (4 + k) (climateCommand s k z.tempSetpoint 0)) ∧
        (∀ k, role = 8 + k ∧ k < 12 ∨ role = 20 + k ∧ s.canes.zoneCount ≤ k →
          { t with signals := s.signals, sequencer := s.sequencer } = s) ∧
        (∀ k, role = 8 + k ∨ role = 20 + k → k < 12 → s.canes.zoneCount ≤ k ∨ s.lossTimer k ≠ .stopped →
          t.sequencer = s.sequencer) ∧
        (∀ k, role = 8 + k ∨ role = 20 + k → k < 12 →
          t.sequencer = { s.sequencer with lossTimers := t.sequencer.lossTimers,
                                           lossRaised := t.sequencer.lossRaised } ∧
          { t with signals := s.signals, sequencer := s.sequencer, climate := s.climate, port := s.port,
                   handed := s.handed } = s))

/-! ## The drying model -/

/-- SWEEP_TIMER_EXPIRY and SWEEP_END (R77, R78, R79, R81): an expiry sets the next one an interval later; with the
model IDLE it starts a sweep over the cane queue's sequence numbers, or makes and closes an empty sweep at once when
the queue is empty; during a sweep it leaves one owed. A sweep whose numbers have all been taken ends, and its counts
become the summary; an owed sweep then starts at once, and over an empty queue is closed at once too. (That the next
expiry is the scheduled one and an interval, however late this one is taken, is assumption 27.) -/
def Obligations.SweepsStartAndEnd : Prop :=
  ∀ s : State,
    (s.lineTime < s.drying.nextExpiry → exec .sweepTimerExpiry s = .next s) ∧
    (s.drying.nextExpiry ≤ s.lineTime →
      (∀ w, s.drying.sweep = some w → exec .sweepTimerExpiry s = .next { s with drying := { s.drying with
        nextExpiry := s.drying.nextExpiry + s.drying.interval, sweepPending := true } }) ∧
      (∀ h rest last, s.drying.sweep = none → s.canes.records = h :: rest →
        (h :: rest).getLast? = some last →
        exec .sweepTimerExpiry s = .next { s with drying := { s.drying with
          nextExpiry := s.drying.nextExpiry + s.drying.interval,
          sweep := some { time := s.lineTime, first := some h.sequence, last := some last.sequence,
                          next := some h.sequence, updated := 0, unknown := 0, skipped := 0 } } }) ∧
      (s.drying.sweep = none → s.canes.records = [] → s.drying.sweepPending = false →
        ∃ t, exec .sweepTimerExpiry s = .next t ∧ t.drying = { s.drying with
          nextExpiry := s.drying.nextExpiry + s.drying.interval, sweep := none,
          completed := (s.drying.completed + 1) % 65536,
          summary := { time := s.lineTime, updated := 0, unknown := 0, skipped := 0 } })) ∧
    (∀ w, s.drying.sweep = some w →
      (∀ n, w.next = some n → exec .sweepEnd s = .next s) ∧
      (w.next = none → s.drying.sweepPending = false →
        ∃ t, exec .sweepEnd s = .next t ∧ t.canes = s.canes ∧ t.drying = { s.drying with
          sweep := none, completed := (s.drying.completed + 1) % 65536,
          summary := { time := w.time, updated := w.updated, unknown := w.unknown, skipped := w.skipped } }) ∧
      (w.next = none → s.drying.sweepPending = true →
        ∃ t, exec .sweepEnd s = .next t ∧ t.canes = s.canes ∧
          (∀ h rest last, s.canes.records = h :: rest → (h :: rest).getLast? = some last →
            t.drying = { s.drying with
              sweep := some { time := s.lineTime, first := some h.sequence, last := some last.sequence,
                              next := some h.sequence, updated := 0, unknown := 0, skipped := 0 },
              sweepPending := false, completed := (s.drying.completed + 1) % 65536,
              summary := { time := w.time, updated := w.updated, unknown := w.unknown,
                           skipped := w.skipped } }) ∧
          (s.canes.records = [] → t.drying = { s.drying with
            sweep := none, sweepPending := false, completed := (s.drying.completed + 2) % 65536,
            summary := { time := s.lineTime, updated := 0, unknown := 0, skipped := 0 } })))

/-- SWEEP_END derives the setpoints of every configured zone (R98, R99, R100, R101): in SAFE the safe climate; with a
climate slot LOST the setpoints stand; otherwise the least temperature and the greatest RH of the current stages of
the zone's PRODUCT records, or the idle climate of an empty zone, the temperature moved by at most one slew step;
always within the zone's limits. The humidity demand is computed from the RH setpoint so derived, held ones included,
and ZONE_CLIMATE with both setpoints and the demand is queued for every configured zone (R100, R101, R102, R103,
R104); the direction and the air timer stand. The climate loss check is made at the sweep end (R137). A sweep over an
empty queue derives too (R79, R81): one that an expiry starts, and one that was owed, which ends after the sweep in
flight has. -/
def Obligations.SweepEndDerivesTheSetpoints : Prop :=
  (∀ (s : State) (w : Sweep) (k : Nat), s.drying.sweep = some w → w.next = none →
    s.drying.sweepPending = false ∨ s.canes.records ≠ [] → k < s.canes.zoneCount → s.climate.zones.length = 12 →
    s.canes.zoneCount ≤ 12 →
    let e := s.zoneEntry k
    let z := s.zoneState k
    let slew : Int := (e.ramp * s.drying.interval / 60 : Nat)
    let kept (target : Int) : Int :=
      if e.ramp = 0 then target else clamp target (z.tempSetpoint - slew) (z.tempSetpoint + slew)
    ∃ t, exec .sweepEnd s = .next t ∧
      t.zoneState k = { z with
        tempSetpoint := (t.zoneState k).tempSetpoint, rhSetpoint := (t.zoneState k).rhSetpoint,
        demand := demandAgainst s k (t.zoneState k).rhSetpoint } ∧
      ZoneCommandAmong s t (4 + k) (climateCommand s k (t.zoneState k).tempSetpoint (t.zoneState k).demand)
        s.canes.zoneCount ∧
      (s.sequencer.lossRaised.length = 12 → ClimateLossChecked s t) ∧
      (s.sequencer.mode = .safe →
        (t.zoneState k).tempSetpoint = clamp e.safeT e.tMin e.tMax ∧
        (t.zoneState k).rhSetpoint = (clamp e.safeRh e.rhMin e.rhMax).toNat) ∧
      (s.sequencer.mode ≠ .safe → s.isLost (8 + k) = true ∨ s.isLost (20 + k) = true →
        (t.zoneState k).tempSetpoint = z.tempSetpoint ∧ (t.zoneState k).rhSetpoint = z.rhSetpoint) ∧
      (s.sequencer.mode ≠ .safe → s.isLost (8 + k) = false → s.isLost (20 + k) = false →
        (s.productsIn k = [] →
          (t.zoneState k).tempSetpoint = clamp (kept e.idleT) e.tMin e.tMax ∧
          (t.zoneState k).rhSetpoint = (clamp e.idleRh e.rhMin e.rhMax).toNat) ∧
        (∀ p ∈ s.productsIn k, ∀ q ∈ s.productsIn k,
          (∀ r ∈ s.productsIn k,
            (s.stageOf p.lot p.stage).temperature ≤ (s.stageOf r.lot r.stage).temperature ∧
            (s.stageOf r.lot r.stage).humidity ≤ (s.stageOf q.lot q.stage).humidity) →
          (t.zoneState k).tempSetpoint =
            clamp (kept (s.stageOf p.lot p.stage).temperature) e.tMin e.tMax ∧
          (t.zoneState k).rhSetpoint =
            (clamp (s.stageOf q.lot q.stage).humidity e.rhMin e.rhMax).toNat))) ∧
  (∀ s : State,
    let empty : Sweep :=
      { time := s.lineTime, first := none, last := none, next := none, updated := 0, unknown := 0, skipped := 0 }
    (s.drying.nextExpiry ≤ s.lineTime → s.drying.sweep = none → s.canes.records = [] →
      exec .sweepTimerExpiry s = exec .sweepEnd { s with drying := { s.drying with
        nextExpiry := s.drying.nextExpiry + s.drying.interval, sweep := some empty } }) ∧
    (∀ w, s.drying.sweep = some w → w.next = none → s.drying.sweepPending = true → s.canes.records = [] →
      ∃ u, exec .sweepEnd { s with drying := { s.drying with sweepPending := false } } = .next u ∧
        exec .sweepEnd s = exec .sweepEnd { u with drying := { u.drying with sweep := some empty } }))

/-- CANE_VISIT (R80, R83 to R89): a number without a record is skipped, an EMPTY record passed over, and a PRODUCT
record in a zone without climate values marked climate-unknown and tested for overrun. With climate values its
moisture moves toward the equilibrium of its bands, then the stage advance, the overrun and the excursion tests are
made in this order. -/
def Obligations.VisitsDryTheRecords : Prop :=
  ∀ (s : State) (w : Sweep) (n : Nat), s.drying.sweep = some w → w.next = some n →
    let w1 : Sweep := { w with next := if w.last = some n then none else some ((n + 1) % 16777216) }
    let swept (x : Sweep) : State := { s with drying := { s.drying with sweep := some x } }
    (s.canes.positionOf n = none →
      exec .caneVisit s = .next (swept { w1 with skipped := w.skipped + 1 })) ∧
    (∀ pos c, s.canes.positionOf n = some pos → s.canes.at? pos = some c →
      let place := s.canes.records.length - 1 - pos
      (c.product = none → exec .caneVisit s = .next (swept w1)) ∧
      (∀ p, c.product = some p →
        let profile := (s.lotSlot p.lot).stages
        let overrun (g : Nat) (entry : Nat) : Bool :=
          decide ((profile.getD g default).maxDwell * 60 < w.time - entry)
        (∀ k, s.zoneAt pos = some k → s.isLost (8 + k) = true ∨ s.isLost (20 + k) = true →
          exec .caneVisit s = .next { swept { w1 with unknown := w.unknown + 1 } with
            canes := { s.canes with records := s.canes.records.set place { c with product := some { p with
              climateUnknown := true,
              stageOverrun := overrun p.stage p.stageEntry || p.stageOverrun } } } }) ∧
        (∀ k temp rh, s.zoneAt pos = some k → s.reading (8 + k) = some temp → s.reading (20 + k) = some rh →
          let tb := min ((temp - s.drying.tBase).toNat / s.drying.tStep) 7
          let meq := s.drying.meq.getD (tb * 10 + min (rh.toNat / 100) 9) 0
          let frac := min (s.drying.kd.getD tb 0 * min (max (w.time - p.lastUpdate) 1) 3600 / 60) 32768
          let moisture :=
            if meq < p.moisture then min (p.moisture - ((p.moisture - meq) * frac + 32768) / 65536) 9999
            else if p.moisture < meq then min (p.moisture + ((meq - p.moisture) * frac + 32768) / 65536) 9999
            else p.moisture
          let advance : Bool :=
            decide (p.stage + 1 < profile.length ∧ moisture ≤ (profile.getD p.stage default).exitMoisture)
          let stage := if advance then p.stage + 1 else p.stage
          let entry := if advance then w.time else p.stageEntry
          let excursion : Option Excursion :=
            if p.excursion = none ∧ (temp < (profile.getD stage default).tLow ∨
                (profile.getD stage default).tHigh < temp)
            then some { zone := k, time := w.time, temperature := temp, humidity := rh, stage := stage }
            else p.excursion
          let visited : Product := { p with
            moisture := moisture, lastUpdate := w.time, climateUnknown := false, stage := stage,
            stageEntry := entry, stageOverrun := overrun stage entry || p.stageOverrun,
            excursion := excursion }
          ∃ t, exec .caneVisit s = .next t ∧
            t.canes = { s.canes with records := s.canes.records.set place { c with product := some visited } } ∧
            t.drying = (swept { w1 with updated := w.updated + 1 }).drying ∧
            { t with canes := s.canes, drying := s.drying, port := s.port, agent := s.agent,
                     handed := s.handed } = s ∧
            (p.excursion = none → ∀ x, excursion = some x → s.port.silent = false →
              s.port.fill .management < 5 →
              t.port.management.map Frame.body = s.port.management.map Frame.body ++
                [.report s.agent.missed s.lineTime
                  (.excursion c.sequence p.lot (s.lotSlot p.lot).header.lotNumber x)]))))

/-! ## What a trunk reset does to the six blocks -/

/-- SIGNAL_UNIT_TRUNK_RESET and CHAIN_TRUNK_RESET, DISCHARGE_TRUNK_RESET and AGENT_TRUNK_RESET (R72, R124, R154,
R167): every slot becomes LOST and keeps its value, and with them the pacer's last arrival and the chain controller's
revolution baseline go; a step not yet acknowledged gets the step timer; the order-outstanding flag and the directive
queue are cleared. With the slots that were not yet LOST go their blocks' reports (R148): the SPEED_LOST test (R136,
in the same step: assumption 13), each configured zone's demand to 0 with its neutral ZONE_CLIMATE (R102, R103), and
the start of each configured zone's stopped climate loss timer (R137).
PACER_TRUNK_RESET and LINE_SEQUENCER_TRUNK_RESET (R28, R45, R128, R138): a fire in flight is cancelled without a miss
and gone, A and the counters kept, to IDLE outside PRIMING and RUNNING and to an evaluation in them (assumption 16, by
which the last arrival and the revolution baseline are cleared by the slots' losses alone); PRIMING, RUNNING and
DRAINING go to HOLDING with the reason TRUNK_RESET and PRESS_CMD hold queued (R129), and in every mode the press
command is owed. -/
def Obligations.TheSixBlocksTakeTheTrunkReset : Prop :=
  (∀ s : State,
     (s.signals.slots.length = 32 → ∃ t, exec .signalUnitTrunkReset s = .next t ∧
       t.signals = { s.signals with slots := s.signals.slots.map (fun x =>
         { x with freshness := .lost, staleTimer := .stopped, lostTimer := .stopped, baseline := none }) } ∧
       LossesReported s t (fun _ => True) ∧
       { t with signals := s.signals, pacer := s.pacer, chain := s.chain, climate := s.climate,
                sequencer := s.sequencer, port := s.port, agent := s.agent, handed := s.handed } = s) ∧
     exec .chainTrunkReset s = .next { s with
       handed := s.handed.erase .chainTrunkReset,
       chain := { s.chain with stepTimer :=
         match s.chain.stepState with
         | .stepping st => if st.acknowledged then s.chain.stepTimer
                           else .running (s.clock + s.line.stepTimeout * 10)
         | _ => s.chain.stepTimer } } ∧
     exec .dischargeTrunkReset s = .next { s with
       handed := s.handed.erase .dischargeTrunkReset,
       discharge := { s.discharge with orderOutstanding := false } } ∧
     exec .agentTrunkReset s = .next { s with
       handed := s.handed.erase .agentTrunkReset, agent := { s.agent with directives := [] } }) ∧
  (∀ s : State,
     (s.pacer.fire? = none →
       exec .pacerTrunkReset s = .next { s with handed := s.handed.erase .pacerTrunkReset }) ∧
     (∀ f, s.pacer.state = .firing f → ∃ t, exec .pacerTrunkReset s = .next t ∧
       t.pacer = { s.pacer with knifeTimer := .stopped, state := t.pacer.state } ∧
       FireDiscarded s t ∧
       t.canes.records = s.canes.records ∧ t.discharge.entries = s.discharge.entries ∧ t.lots = s.lots ∧
       t.sequencer = s.sequencer) ∧
     (LineMode.allowsSteps s.sequencer.mode = false → exec .lineSequencerTrunkReset s = .next { s with
       handed := s.handed.erase .lineSequencerTrunkReset,
       sequencer := { s.sequencer with pressOwed := true } }) ∧
     (LineMode.allowsSteps s.sequencer.mode = true → ∃ t, exec .lineSequencerTrunkReset s = .next t ∧
       t.sequencer = { s.sequencer with mode := .holding, pressOwed := true } ∧
       .pacerModeChange s.sequencer.mode .holding ∈ t.handed ∧
       .chainModeChange s.sequencer.mode .holding ∈ t.handed ∧
       { t with sequencer := s.sequencer, port := s.port, agent := s.agent, handed := s.handed } = s ∧
       (s.talkNode 2 = none ∨ 4 ≤ s.port.fill .urgent → t.port.urgent = s.port.urgent) ∧
       (∀ dest, s.talkNode 2 = some dest → s.port.fill .urgent < 4 → s.port.silent = false → ∃ number,
         t.port.urgent = s.port.urgent ++ [{ number := number, dest := dest, body := .pressCmd false }]) ∧
       (s.port.silent = false → s.port.fill .management < 5 →
         t.port.management.map Frame.body = s.port.management.map Frame.body ++
           [.report s.agent.missed s.lineTime
             (.modeChange s.sequencer.mode .holding .trunkReset none)])))

/-! ## Directives: when they run and what every one does -/

/-- Every started directive of every row is answered exactly once: it leaves the head of the directive queue, one
response with its tag and code stands at the tail of the management queue, and a directive that is refused changes
nothing else and carries no body (R167, R168, R169, R170, R171).
A directive at the head of the directive queue waits while the management queue's fill is 6, and a model table
write also while a sweep is in flight (R91, R168): nothing changes. -/
def Obligations.EveryDirectiveWaitsOrIsAnsweredOnce : Prop :=
  (∀ (c : Instr) (d : Directive) (s : State), directiveRow c = some d → Starts s d →
     (heldForSweep c = true → s.drying.sweep = none) →
     ∃ t o body, exec c s = .next t ∧
       t.agent.directives = s.agent.directives.tail ∧
       t.port.management.getLast?.map Frame.body = some (.response d.tag d.code o body) ∧
       t.port.management.getLast?.map Frame.dest = some d.sender ∧
       responsesIn t.port.management = responsesIn s.port.management + 1 ∧
       (o ≠ .done → t = answered s d o [] id)) ∧
  (∀ (c : Instr) (d : Directive) (s : State), directiveRow c = some d → s.agent.directives.head? = some d →
     6 ≤ s.port.fill .management ∨ (heldForSweep c = true ∧ s.drying.sweep ≠ none) → exec c s = .next s)

/-! ## Directives: the tables -/

/-- READ_TABLE (R172, R181, R20): any length but 3 and 4 is refused with BAD_FORM; then an ID outside 1 to 11 with
BAD_TABLE; then a length of 4 for a table other than LOT, and of 3 for LOT, with BAD_FORM; then a range outside the
table with BAD_INDEX. Otherwise it answers the entries of the range, as many whole entries as 42 bytes hold, after the
table ID, the first index and the number returned; for LOT, whose body section 11.5 lays out, the slot fields of R20
and the one stage record that fits. It changes nothing. -/
def Obligations.ReadTableReturnsTheEntries : Prop :=
  ∀ (s : State) (r : Request), Starts s (directiveOf 0x01 [] r) →
    (r.args.length ≠ 3 → r.args.length ≠ 4 →
      exec (.readTable r) s = .next (answered s (directiveOf 0x01 [] r) .badForm [] id)) ∧
    (∀ (id' : Byte) (rest : List Byte), r.args = id' :: rest → rest.length = 2 ∨ rest.length = 3 →
      (id'.toNat = 0 ∨ 11 < id'.toNat →
        exec (.readTable r) s = .next (answered s (directiveOf 0x01 [] r) .badTable [] id)) ∧
      (1 ≤ id'.toNat → id'.toNat ≤ 10 → rest.length = 3 →
        exec (.readTable r) s = .next (answered s (directiveOf 0x01 [] r) .badForm [] id)) ∧
      (id'.toNat = 11 → rest.length = 2 →
        exec (.readTable r) s = .next (answered s (directiveOf 0x01 [] r) .badForm [] id))) ∧
    (∀ (id' first count : Byte) (length size : Nat) (entries : List (List Byte)), r.args = [id', first, count] →
      (id', length, size, entries) ∈ ([(0x01, 32, 3, s.signals.listen.map listenBytes),
        (0x02, 28, 2, s.signals.talk.map talkBytes), (0x03, 12, 29, s.canes.zones.map zoneBytes),
        (0x04, 1, 1, [be 1 s.canes.zoneCount]), (0x05, 80, 2, s.drying.meq.map (be 2)),
        (0x06, 8, 2, s.drying.kd.map (be 2)),
        (0x07, 1, 6, [beInt 2 s.drying.tBase ++ be 2 s.drying.tStep ++ be 2 s.drying.interval]),
        (0x08, 16, 1, s.lots.gap.map (be 1)), (0x09, 1, 18, [pacerBytes s.pacer]),
        (0x0A, 1, 35, [lineBytes s.line s.agent.supervisor])] : List (Byte × Nat × Nat × List (List Byte))) →
      let inRange := 1 ≤ count.toNat ∧ first.toNat + count.toNat ≤ length
      let n := min count.toNat (42 / size)
      (inRange → exec (.readTable r) s = .next (answered s (directiveOf 0x01 [] r) .done
        ([id', first, BitVec.ofNat 8 n] ++ ((entries.drop first.toNat).take n).flatten) id)) ∧
      (¬ inRange → exec (.readTable r) s =
        .next (answered s (directiveOf 0x01 [] r) .badIndex [] id))) ∧
    (∀ first count stage : Byte, r.args = [0x0B, first, count, stage] →
      let lot := s.lotSlot first.toNat
      let h := lot.header
      let life : Byte := match lot.life with
        | .free => 0 | .loading => 1 | .ready => 2 | .active => 3 | .retiring => 4
      let armed := if s.lots.armed = some first.toNat then 1 else 0
      let active := if s.lots.active = some first.toNat then 2 else 0
      let header := be 4 h.lotNumber ++ be 1 h.changeoverClass ++ be 2 h.hangTarget ++ be 2 h.initialMoisture ++
        be 2 h.acceptMax ++ be 2 h.pieceLength ++ be 2 h.topTrim ++ be 2 h.bottomTrim ++
        [if h.policy = .divert then 1 else 0]
      let fixed (returned : Byte) : List Byte :=
        [0x0B, first, stage, returned, life, BitVec.ofNat 8 (armed + active)] ++ be 2 lot.refCount ++ header ++
        be 1 lot.stages.length
      (count = 1 → first.toNat < 16 → stage.toNat < 12 →
        (lot.stages.length ≤ stage.toNat → exec (.readTable r) s =
          .next (answered s (directiveOf 0x01 [] r) .done (fixed 0) id)) ∧
        (∀ g, lot.stages[stage.toNat]? = some g → exec (.readTable r) s =
          .next (answered s (directiveOf 0x01 [] r) .done (fixed 1 ++ beInt 2 g.temperature ++ be 2 g.humidity ++
            be 2 g.exitMoisture ++ beInt 2 g.tLow ++ beInt 2 g.tHigh ++ be 2 g.maxDwell) id))) ∧
      (count ≠ 1 ∨ 16 ≤ first.toNat ∨ 12 ≤ stage.toNat →
        exec (.readTable r) s = .next (answered s (directiveOf 0x01 [] r) .badIndex [] id)))

/-- WRITE_TABLE LISTEN (R142): in STOPPED, HOLDING and SAFE entries that leave no two configured entries with the same
node and channel replace those from the first index on, and every written role's slot is LOST with its timers stopped
and its baseline cleared, with the reports of the slots that were not yet LOST (R148); entries that repeat a source,
and a node above 62, are refused with BAD_VALUE, a range outside the table with BAD_INDEX, another mode with
WRONG_MODE. -/
def Obligations.ListenWritesLoseTheirSlots : Prop :=
  ∀ (s : State) (r : Request) (first : Byte) (new : List (Option ListenEntry)),
    let d := directiveOf 0x02 [1] r
    let table := s.signals.listen.take first.toNat ++ new ++ s.signals.listen.drop (first.toNat + new.length)
    let distinct := ∀ (i j : Nat) (e : ListenEntry),
      table[i]? = some (some e) → table[j]? = some (some e) → i = j
    let taken := s.sequencer.mode = .stopped ∨ s.sequencer.mode = .holding ∨ s.sequencer.mode = .safe
    r.args = first :: be 1 new.length ++ (new.map listenBytes).flatten →
    Starts s d → s.signals.listen.length = 32 → s.signals.slots.length = 32 →
    new.length ≤ 255 → (∀ e, some e ∈ new → e.node ≤ 255 ∧ e.channel ≤ 255) →
    let ranged := 1 ≤ new.length ∧ first.toNat + new.length ≤ 32
    let allOk := ∀ e ∈ new, listenEntryOk e
    (¬ taken → exec (.writeTableListen r) s = .next (answered s d .wrongMode [] id)) ∧
    (taken → ¬ ranged →
      exec (.writeTableListen r) s = .next (answered s d .badIndex [] id)) ∧
    (taken → ranged → ¬ allOk ∨ ¬ distinct →
      exec (.writeTableListen r) s = .next (answered s d .badValue [] id)) ∧
    (taken → ranged → allOk → distinct →
      ∃ t, exec (.writeTableListen r) s = .next t ∧ t.signals.listen = table ∧
        t.signals.talk = s.signals.talk ∧
        (∀ role, first.toNat ≤ role → role < first.toNat + new.length → t.slot role =
          { s.slot role with
            freshness := .lost, staleTimer := .stopped, lostTimer := .stopped, baseline := none }) ∧
        (∀ role, role < first.toNat ∨ first.toNat + new.length ≤ role → t.slot role = s.slot role) ∧
        LossesReported s t (fun role => first.toNat ≤ role ∧ role < first.toNat + new.length) ∧
        t.port.management.getLast?.map Frame.body = some (.response r.tag 0x02 .done []))

/-- WRITE_TABLE TALK (R152): in STOPPED, HOLDING and SAFE the entries replace those from the first index on; a write
that touches neither KNIFE nor CHAIN does nothing else, one that touches them lets the pacer and the chain controller
evaluate (R27, R57), which sends nothing in these modes; a node above 62 and the part's own are refused with
BAD_VALUE. -/
def Obligations.TalkWritesReplaceDestinations : Prop :=
  ∀ (s : State) (r : Request) (first : Byte) (new : List (Option Nat)),
    let d := directiveOf 0x02 [2] r
    let table := s.signals.talk.take first.toNat ++ new ++ s.signals.talk.drop (first.toNat + new.length)
    let taken := s.sequencer.mode = .stopped ∨ s.sequencer.mode = .holding ∨ s.sequencer.mode = .safe
    let stored (u : State) : State := { u with signals := { u.signals with talk := table } }
    r.args = first :: be 1 new.length ++ (new.map talkBytes).flatten → Starts s d →
    new.length ≤ 255 → (∀ n, some n ∈ new → n ≤ 255) →
    let ranged := 1 ≤ new.length ∧ first.toNat + new.length ≤ 28
    let allOk := ∀ e ∈ new, talkEntryOk s.port.node e
    (¬ taken → exec (.writeTableTalk r) s = .next (answered s d .wrongMode [] id)) ∧
    (taken → ¬ ranged →
      exec (.writeTableTalk r) s = .next (answered s d .badIndex [] id)) ∧
    (taken → ranged → ¬ allOk →
      exec (.writeTableTalk r) s = .next (answered s d .badValue [] id)) ∧
    (taken → ranged → allOk → 2 ≤ first.toNat →
      exec (.writeTableTalk r) s = .next (answered s d .done [] stored)) ∧
    (taken → ranged → allOk → ∃ ps cs timer,
      let t := answered s d .done [] (fun u =>
        { stored u with
          pacer := { u.pacer with state := ps }, chain := { u.chain with stepState := cs },
          discharge := { u.discharge with stallTimer := timer } })
      let knife := first.toNat = 0 ∧ (s.pacer.state = .forming ∨ s.pacer.state = .blocked)
      let chain := first.toNat ≤ 1 ∧ 1 < first.toNat + new.length ∧ s.chain.step? = none
      exec (.writeTableTalk r) s = .next t ∧
      (knife → Evaluated t (inc32 s.port.frameCount)) ∧ (¬ knife → ps = s.pacer.state) ∧
      (chain → ChainEvaluated s t (inc32 s.port.frameCount)) ∧
      (¬ chain → cs = s.chain.stepState ∧ timer = s.discharge.stallTimer) ∧
      (s.pacer.fire? = none → ∀ f, ps ≠ .firing f) ∧ (s.chain.step? = none → ∀ st, cs ≠ .stepping st))

/-- WRITE_TABLE ZONE_COUNT (R53, R97, R137): refused with WRONG_MODE outside STOPPED, HOLDING and SAFE, then with
BAD_VALUE above 12, then with WRONG_STATE while any record is on the line, then with BAD_VALUE when the zones do not
join up from position 0. Taken, it sets the zone count and P_exit; gives every configured zone its idle climate within
its limits, the demand of the new RH setpoint and FORWARD air, with ZONE_CLIMATE and AIR_DIR queued (R102, R103,
R104); starts the air timer of each zone with an air base from the generator, stepped once for each such zone in
ascending order (R106, R107); stops the other air timers; and starts the climate loss timers of the configured zones
that have lost a climate slot (a running one too, afresh: assumption 19). A count of 0 keeps the zones' values and the
commands queued. The chain controller, with no record in the station, evaluates to IDLE (R56, R57). -/
def Obligations.ZoneCountConfiguresTheZones : Prop :=
  ∀ (s : State) (r : Request) (n : Byte),
    let d := directiveOf 0x02 [4] r
    let count := n.toNat
    let taken := s.sequencer.mode = .stopped ∨ s.sequencer.mode = .holding ∨ s.sequencer.mode = .safe
    let empty := s.chain.station = none ∧ s.canes.records = [] ∧ s.discharge.entries = []
    let timed := fun k => decide ((s.zoneEntry k).airBase ≠ 0)
    let stepped (k : Nat) : BitVec 16 := staggerNext^[(List.range k).countP timed] s.climate.stagger
    let joined := ∀ k, k < count → (s.zoneEntry k).first ≤ (s.zoneEntry k).last ∧
      (s.zoneEntry k).first = (if k = 0 then 0 else (s.zoneEntry (k - 1)).last + 1)
    r.args = [0, 1, n] → Starts s d → s.canes.zones.length = 12 → s.climate.zones.length = 12 →
    s.sequencer.lossTimers.length = 12 → s.sequencer.lossRaised.length = 12 →
    (¬ taken → exec (.writeTableZoneCount r) s = .next (answered s d .wrongMode [] id)) ∧
    (taken → 12 < count → exec (.writeTableZoneCount r) s = .next (answered s d .badValue [] id)) ∧
    (taken → count ≤ 12 → ¬ empty →
      exec (.writeTableZoneCount r) s = .next (answered s d .wrongState [] id)) ∧
    (taken → count ≤ 12 → empty → ¬ joined →
      exec (.writeTableZoneCount r) s = .next (answered s d .badValue [] id)) ∧
    (taken → count ≤ 12 → empty → joined → ∃ t, exec (.writeTableZoneCount r) s = .next t ∧
      t.canes = { s.canes with
        zoneCount := count, pExit := if count = 0 then none else some (s.zoneEntry (count - 1)).last } ∧
      (∀ k, k < count →
        let e := s.zoneEntry k
        let temp := clamp e.idleT e.tMin e.tMax
        let rh := (clamp e.idleRh e.rhMin e.rhMax).toNat
        t.zoneState k =
          { tempSetpoint := temp, rhSetpoint := rh, demand := demandAgainst s k rh, direction := .forward,
            airTimer := if e.airBase = 0 then .stopped else
              .running (s.lineTime + e.airBase + (stepped (k + 1)).toNat % (e.airJitter + 1)) } ∧
        ZoneCommandAmong s t (4 + k) (climateCommand s k temp (demandAgainst s k rh)) (2 * count) ∧
        ZoneCommandAmong s t (16 + k) (.airDir k .forward) (2 * count)) ∧
      t.climate.stagger = stepped count ∧ (count = 0 → t.port.routine = s.port.routine) ∧
      (s.chain.step? = none → t.chain = { s.chain with stepState := .idle }) ∧
      (∀ k, count ≤ k → k < 12 → t.zoneState k = { s.zoneState k with airTimer := .stopped }) ∧
      (∀ k, k < 12 → t.lossTimer k =
        (if k < count ∧ (s.isLost (8 + k) = true ∨ s.isLost (20 + k) = true)
         then .running (s.lineTime + s.line.climateLossLimit) else .stopped)) ∧
      (1 ≤ count → ∀ k, k < 12 → t.lossMark k = false) ∧
      t.sequencer = { s.sequencer with
        lossTimers := t.sequencer.lossTimers, lossRaised := t.sequencer.lossRaised } ∧
      { t with canes := s.canes, climate := s.climate, sequencer := s.sequencer, chain := s.chain,
               discharge := s.discharge, port := s.port, agent := s.agent, handed := s.handed } = s ∧
      t.port.management = s.port.management ++
        [{ number := t.port.frameCount, dest := r.sender, body := .response r.tag 0x02 .done [] }])

/-- WRITE_TABLE MEQ, KD and MODEL between sweeps (R74, R75, R76, R91, R173): the entries replace those from the first
index on; an equilibrium moisture above 9,999 and a model parameter out of its range are refused with BAD_VALUE, a
range outside the table and a count of 0 with BAD_INDEX. -/
def Obligations.ModelTablesAreWrittenBetweenSweeps : Prop :=
  ∀ (s : State) (r : Request) (first : Byte) (new : List Nat),
    (∀ m ∈ new, m ≤ 65535) → new.length ≤ 255 →
    (r.args = first :: be 1 new.length ++ (new.map (be 2)).flatten →
      (StartsBetweenSweeps s (directiveOf 0x02 [5] r) →
        (1 ≤ new.length → first.toNat + new.length ≤ 80 → (∀ m ∈ new, m ≤ 9999) →
          exec (.writeTableMeq r) s = .next (answered s (directiveOf 0x02 [5] r) .done [] (fun u => { u with
            drying := { u.drying with
              meq := u.drying.meq.take first.toNat ++ new ++ u.drying.meq.drop (first.toNat + new.length) } }))) ∧
        (first.toNat + new.length ≤ 80 → (∃ m ∈ new, 9999 < m) →
          exec (.writeTableMeq r) s = .next (answered s (directiveOf 0x02 [5] r) .badValue [] id)) ∧
        (new.length = 0 ∨ 80 < first.toNat + new.length →
          exec (.writeTableMeq r) s = .next (answered s (directiveOf 0x02 [5] r) .badIndex [] id))) ∧
      (StartsBetweenSweeps s (directiveOf 0x02 [6] r) →
        (1 ≤ new.length → first.toNat + new.length ≤ 8 →
          exec (.writeTableKd r) s = .next (answered s (directiveOf 0x02 [6] r) .done [] (fun u => { u with
            drying := { u.drying with
              kd := u.drying.kd.take first.toNat ++ new ++ u.drying.kd.drop (first.toNat + new.length) } }))) ∧
        (new.length = 0 ∨ 8 < first.toNat + new.length →
          exec (.writeTableKd r) s = .next (answered s (directiveOf 0x02 [6] r) .badIndex [] id)))) ∧
    (∀ (base : Int) (step interval : Nat),
      r.args = [0, 1] ++ beInt 2 base ++ be 2 step ++ be 2 interval → -32768 ≤ base → base ≤ 32767 →
      step ≤ 65535 → interval ≤ 65535 → StartsBetweenSweeps s (directiveOf 0x02 [7] r) →
      let inRange := 10 ≤ step ∧ step ≤ 500 ∧ 10 ≤ interval ∧ interval ≤ 600
      (inRange → exec (.writeTableModel r) s = .next (answered s (directiveOf 0x02 [7] r) .done [] (fun u =>
        { u with drying := { u.drying with tBase := base, tStep := step, interval := interval } }))) ∧
      (¬ inRange → exec (.writeTableModel r) s =
        .next (answered s (directiveOf 0x02 [7] r) .badValue [] id)))

/-- WRITE_TABLE GAP, PACER, LINE and ZONE (R18, R23, R52, R96, R173, R174): entries in their ranges are stored as
sent, the last four bytes of a PACER entry ignored; PACER, LINE and ZONE entries out of range, and a ZONE entry with
an output form above 2 (R182), are refused with BAD_VALUE, and no entry changes; ZONE is refused with WRONG_STATE
while the zone count is not 0, before its range is tested (assumption 18). A range outside GAP or ZONE and a count of
0 are refused with BAD_INDEX. -/
def Obligations.ParameterTablesAreWritten : Prop :=
  ∀ (s : State) (r : Request) (first : Byte),
    (∀ new : List Nat, r.args = first :: be 1 new.length ++ (new.map (be 1)).flatten →
      (∀ m ∈ new, m ≤ 255) → new.length ≤ 255 → Starts s (directiveOf 0x02 [8] r) →
      (1 ≤ new.length → first.toNat + new.length ≤ 16 →
        exec (.writeTableGap r) s = .next (answered s (directiveOf 0x02 [8] r) .done [] (fun u => { u with
          lots := { u.lots with
            gap := u.lots.gap.take first.toNat ++ new ++ u.lots.gap.drop (first.toNat + new.length) } }))) ∧
      (new.length = 0 ∨ 16 < first.toNat + new.length →
        exec (.writeTableGap r) s = .next (answered s (directiveOf 0x02 [8] r) .badIndex [] id))) ∧
    (∀ (p : PacerParams) (ignored : List Byte), ignored.length = 4 →
      r.args = [0, 1] ++ be 2 p.knifeLead ++ be 2 p.purgeLength ++ be 2 p.overlengthMargin ++
        be 2 p.knifeTimeout ++ be 2 p.vMin ++ be 2 p.vMax ++ be 2 p.settleTime ++ ignored →
      p.knifeLead ≤ 65535 → p.purgeLength ≤ 65535 → p.overlengthMargin ≤ 65535 → p.knifeTimeout ≤ 65535 →
      p.vMin ≤ 65535 → p.vMax ≤ 65535 → p.settleTime ≤ 65535 → Starts s (directiveOf 0x02 [9] r) →
      let inRange := p.knifeLead ≤ 5000 ∧ 100 ≤ p.purgeLength ∧ p.purgeLength ≤ 3000 ∧
        10 ≤ p.overlengthMargin ∧ p.overlengthMargin ≤ 1000 ∧ 50 ≤ p.knifeTimeout ∧ p.knifeTimeout ≤ 5000 ∧
        p.vMin ≤ p.vMax ∧ p.vMax ≤ 32767 ∧ 1 ≤ p.settleTime ∧ p.settleTime ≤ 600
      (inRange → exec (.writeTablePacer r) s = .next (answered s (directiveOf 0x02 [9] r) .done [] (fun u =>
        { u with pacer := { u.pacer with params := p } }))) ∧
      (¬ inRange → exec (.writeTablePacer r) s =
        .next (answered s (directiveOf 0x02 [9] r) .badValue [] id))) ∧
    (∀ (p : LineParams) (node : Nat), r.args = [0, 1] ++ lineBytes p node → p.fits → node ≤ 255 →
      Starts s (directiveOf 0x02 [10] r) →
      (p.ranged → node ≤ 62 → node ≠ s.port.node →
        exec (.writeTableLine r) s = .next (answered s (directiveOf 0x02 [10] r) .done [] (fun u => { u with
          line := p, agent := { u.agent with supervisor := node } }))) ∧
      (¬ p.ranged ∨ 62 < node ∨ node = s.port.node →
        exec (.writeTableLine r) s = .next (answered s (directiveOf 0x02 [10] r) .badValue [] id))) ∧
    (∀ z : ZoneEntry, r.args = first :: 1 :: zoneBytes z → z.carried → Starts s (directiveOf 0x02 [3] r) →
      (s.canes.zoneCount = 0 → first.toNat < 12 → ¬ z.ranged →
        exec (.writeTableZone r) s = .next (answered s (directiveOf 0x02 [3] r) .badValue [] id)) ∧
      (s.canes.zoneCount = 0 → first.toNat < 12 → z.ranged →
        exec (.writeTableZone r) s = .next (answered s (directiveOf 0x02 [3] r) .done [] (fun u => { u with
          canes := { u.canes with
            zones := u.canes.zones.take first.toNat ++ [z] ++ u.canes.zones.drop (first.toNat + 1) } }))) ∧
      (s.canes.zoneCount = 0 → 12 ≤ first.toNat →
        exec (.writeTableZone r) s = .next (answered s (directiveOf 0x02 [3] r) .badIndex [] id)) ∧
      (s.canes.zoneCount ≠ 0 →
        exec (.writeTableZone r) s = .next (answered s (directiveOf 0x02 [3] r) .wrongState [] id))) ∧
    (r.args = [first, 0] → Starts s (directiveOf 0x02 [3] r) → s.canes.zoneCount = 0 →
      exec (.writeTableZone r) s = .next (answered s (directiveOf 0x02 [3] r) .badIndex [] id)) ∧
    (∀ (before after : List Byte) (form : Byte), r.args = first :: 1 :: before ++ [form] ++ after →
      before.length = 22 → after.length = 6 → 2 < form.toNat → Starts s (directiveOf 0x02 [3] r) →
      s.canes.zoneCount = 0 → first.toNat < 12 →
      exec (.writeTableZone r) s = .next (answered s (directiveOf 0x02 [3] r) .badValue [] id))

/-! ## Directives: the lots -/

/-- LOT_OPEN, LOT_STAGE and LOT_SEAL (R6, R7, R8): a header in its ranges makes a FREE slot LOADING, a stage record in
its ranges joins a LOADING slot's list, which holds at most 12, and a valid LOADING lot becomes READY; the failures
are refused in the order slot number, lifecycle state, content. A policy byte other than KEEP and DIVERT is a failure
of the header's content. -/
def Obligations.LotsAreOpenedStagedAndSealed : Prop :=
  ∀ (s : State) (r : Request) (b : Byte),
    let i := b.toNat
    let slot := s.lotSlot i
    let put (l : LotSlot) (u : State) : State := { u with lots := { u.lots with slots := u.lots.slots.set i l } }
    (∀ h : LotHeader, r.args = b :: headerBytes h → h.fits → Starts s (directiveOf 0x08 [] r) →
      let reply (o : OutcomeCode) (effect : State → State) := exec (.lotOpen r) s =
        .next (answered s (directiveOf 0x08 [] r) o [] effect)
      let accepted := h.changeoverClass ≤ 3 ∧ h.initialMoisture ≤ 9999 ∧ h.acceptMax ≤ 9999
      (15 < i → reply .badIndex id) ∧
      (i ≤ 15 → slot.life ≠ .free → reply .wrongState id) ∧
      (i ≤ 15 → slot.life = .free → ¬ accepted → reply .badValue id) ∧
      (i ≤ 15 → slot.life = .free → accepted →
        reply .done (put { life := .loading, header := h, stages := [], refCount := 0 }))) ∧
    (∀ (bytes : List Byte) (policy : Byte), r.args = b :: (bytes ++ [policy]) → bytes.length = 17 →
      1 < policy.toNat → Starts s (directiveOf 0x08 [] r) → i ≤ 15 → slot.life = .free →
      exec (.lotOpen r) s = .next (answered s (directiveOf 0x08 [] r) .badValue [] id)) ∧
    (∀ g : Stage, r.args = b :: stageBytes g → g.fits → Starts s (directiveOf 0x09 [] r) →
      let reply (o : OutcomeCode) (body : List Byte) (effect : State → State) := exec (.lotStage r) s =
        .next (answered s (directiveOf 0x09 [] r) o body effect)
      let accepted := g.humidity ≤ 1000 ∧ g.exitMoisture ≤ 9999 ∧ 1 ≤ g.maxDwell
      (15 < i → reply .badIndex [] id) ∧
      (i ≤ 15 → slot.life ≠ .loading → reply .wrongState [] id) ∧
      (i ≤ 15 → slot.life = .loading → 12 ≤ slot.stages.length → reply .badIndex [] id) ∧
      (i ≤ 15 → slot.life = .loading → slot.stages.length < 12 → ¬ accepted → reply .badValue [] id) ∧
      (i ≤ 15 → slot.life = .loading → slot.stages.length < 12 → accepted →
        reply .done [BitVec.ofNat 8 slot.stages.length]
          (put { slot with stages := slot.stages ++ [g] }))) ∧
    (r.args = [b] → Starts s (directiveOf 0x0A [] r) →
      let reply (o : OutcomeCode) (effect : State → State) := exec (.lotSeal r) s =
        .next (answered s (directiveOf 0x0A [] r) o [] effect)
      let valid := slot.stages ≠ [] ∧
        (∀ k x y, slot.stages[k]? = some x → slot.stages[k + 1]? = some y → y.exitMoisture < x.exitMoisture) ∧
        (∀ x, slot.stages[0]? = some x → x.exitMoisture < slot.header.initialMoisture) ∧
        (∀ x ∈ slot.stages, x.tLow ≤ x.tHigh) ∧
        300 ≤ slot.header.hangTarget ∧ slot.header.hangTarget ≤ 3000 ∧ 0 < slot.header.pieceLength
      (15 < i → reply .badIndex id) ∧
      (i ≤ 15 → slot.life ≠ .loading → reply .wrongState id) ∧
      (i ≤ 15 → slot.life = .loading → ¬ valid → reply .badValue id) ∧
      (i ≤ 15 → slot.life = .loading → valid → reply .done (put { slot with life := .ready })))

/-- LOT_DISCARD (R9): taken from LOADING and from READY when the slot is not armed, the slot becomes FREE with header
and stages cleared and no LOT_FREED; any other slot is refused with WRONG_STATE, and a number
above 15 with BAD_INDEX (R5, R181). -/
def Obligations.LotDiscardFreesUnarmedLots : Prop :=
  ∀ (s : State) (r : Request) (b : Byte), r.args = [b] → Starts s (directiveOf 0x0B [] r) →
    let slot := s.lotSlot b.toNat
    let taken := slot.life = .loading ∨ (slot.life = .ready ∧ s.lots.armed ≠ some b.toNat)
    (15 < b.toNat → exec (.lotDiscard r) s = .next (answered s (directiveOf 0x0B [] r) .badIndex [] id)) ∧
    (b.toNat ≤ 15 → taken → exec (.lotDiscard r) s =
      .next (answered s (directiveOf 0x0B [] r) .done [] (fun u => { u with
        lots := { u.lots with
          slots := u.lots.slots.set b.toNat
            { life := .free, header := LotHeader.cleared, stages := [], refCount := 0 } } }))) ∧
    (b.toNat ≤ 15 → ¬ taken →
      exec (.lotDiscard r) s = .next (answered s (directiveOf 0x0B [] r) .wrongState [] id))

/-- LOT_ARM (R10): refused with WRONG_MODE in SAFE for either kind of argument; elsewhere FFh clears the armed
pointer, a READY slot is armed in place of the earlier one, and any other slot is refused with WRONG_STATE. A number
of 16 to 254 is refused with BAD_INDEX first (R5, R181). -/
def Obligations.LotArmTakesReadySlots : Prop :=
  ∀ (s : State) (r : Request) (b : Byte), r.args = [b] →
    Starts s (directiveOf 0x0C [] r) →
    let armed (a : Option Nat) (u : State) : State := { u with lots := { u.lots with armed := a } }
    (15 < b.toNat → b ≠ 0xFF →
      exec (.lotArm r) s = .next (answered s (directiveOf 0x0C [] r) .badIndex [] id)) ∧
    (s.sequencer.mode = .safe → b.toNat ≤ 15 ∨ b = 0xFF →
      exec (.lotArm r) s = .next (answered s (directiveOf 0x0C [] r) .wrongMode [] id)) ∧
    (s.sequencer.mode ≠ .safe → b = 0xFF →
      exec (.lotArm r) s = .next (answered s (directiveOf 0x0C [] r) .done [] (armed none))) ∧
    (s.sequencer.mode ≠ .safe → b.toNat ≤ 15 → (s.lotSlot b.toNat).life = .ready →
      exec (.lotArm r) s = .next (answered s (directiveOf 0x0C [] r) .done [] (armed (some b.toNat)))) ∧
    (s.sequencer.mode ≠ .safe → b.toNat ≤ 15 → (s.lotSlot b.toNat).life ≠ .ready →
      exec (.lotArm r) s = .next (answered s (directiveOf 0x0C [] r) .wrongState [] id))

/-! ## Directives: the cane records -/

/-- READ_CANE, READ_STATUS and READ_TOTALS change nothing (R44, R69, R175). READ_CANE answers a record by sequence
number in the loading station, in the cane queue with its position and zone, and in the discharge queue with its index
and its entry fields, or by position in the cane queue with its zone. READ_STATUS answers the fields of each of its
pages 0 to 17 (R93, R110, R122, R146, R155, R176; assumptions 21, 30 and 34 for the widths, roundings and absent
values that these leave open) and refuses the others with BAD_INDEX; the directive that is answered has left the
directive queue (R167), whose fill page 0 shows. READ_TOTALS carries the three totals and A.
CLEAR_TOTALS (R44): the three totals become 0 and A stays. -/
def Obligations.ReadingsAnswerAndTotalsClear : Prop :=
  (∀ (s : State) (r : Request), Starts s (directiveOf 0x03 [] r) →
     (∀ n, n < 16777216 → r.args = 0 :: be 3 n →
       let onLine := s.chain.station.toList ++ s.canes.records
       (∀ c, s.chain.station = some c → c.sequence = n → exec (.readCane r) s =
         .next (answered s (directiveOf 0x03 [] r) .done (0 :: caneBytes c) id)) ∧
       (∀ pos c k, CaneLaw s → ZoneMapLaw s → s.canes.at? pos = some c → c.sequence = n →
         s.zoneAt pos = some k → exec (.readCane r) s = .next (answered s (directiveOf 0x03 [] r) .done
           (1 :: be 2 pos ++ be 1 k ++ caneBytes c) id)) ∧
       (∀ i e, CaneLaw s → (∀ c ∈ onLine, c.sequence ≠ n) → s.discharge.entries[i]? = some e →
         e.sequence = n → (∀ f ∈ s.discharge.entries.take i, f.sequence ≠ n) →
         exec (.readCane r) s = .next (answered s (directiveOf 0x03 [] r) .done
           (2 :: be 1 i ++ [dispositionCode e.disposition] ++ be 1 e.pieces ++ be 4 e.scrap ++
             [(if e.late = true then 1 else 0) +
               (if i = 0 ∧ s.discharge.orderOutstanding = true then 2 else 0)] ++
             caneBytes { sequence := e.sequence, hangTime := e.hangTime, product := some e.product }) id)) ∧
       (CaneLaw s → (∀ c ∈ onLine, c.sequence ≠ n) → (∀ e ∈ s.discharge.entries, e.sequence ≠ n) →
         exec (.readCane r) s = .next (answered s (directiveOf 0x03 [] r) .notFound [] id))) ∧
     (∀ pos, pos < 16777216 → r.args = 1 :: be 3 pos →
       (2047 < pos → exec (.readCane r) s = .next (answered s (directiveOf 0x03 [] r) .badIndex [] id)) ∧
       (pos ≤ 2047 → s.canes.records.length ≤ pos →
         exec (.readCane r) s = .next (answered s (directiveOf 0x03 [] r) .notFound [] id)) ∧
       (∀ c k, pos ≤ 2047 → s.canes.at? pos = some c → s.zoneAt pos = some k → exec (.readCane r) s =
         .next (answered s (directiveOf 0x03 [] r) .done (1 :: be 2 pos ++ be 1 k ++ caneBytes c) id))) ∧
     (∀ selector rest, r.args = selector :: rest → rest.length = 3 → 2 ≤ selector.toNat →
       exec (.readCane r) s = .next (answered s (directiveOf 0x03 [] r) .badValue [] id))) ∧
  (∀ (s : State) (r : Request), Starts s (directiveOf 0x12 [] r) →
     let shows (page : Byte) (fields : List Byte) : Prop := r.args = [page] → exec (.readStatus r) s =
       .next (answered s (directiveOf 0x12 [] r) .done (page :: fields) id)
     let flag (b : Bool) : Byte := if b then 1 else 0
     let noExpiry : List Byte := [0xFF, 0xFF, 0xFF, 0xFF]
     let number (q : Option Nat) : List Byte :=
       match q with | some n => 1 :: be 3 n | none => [0, 0, 0, 0]
     let kind (c : Option Cane) : Byte := match c with | some c => flag c.isProduct | none => 0xFF
     let pointer (i : Option Nat) : List Byte := match i with | some i => be 1 i | none => [0xFF]
     let fault (i : Nat) : List Byte :=
       match s.sequencer.faults[i]? with
       | some e => faultByte e.code :: be 4 e.time ++ be 1 e.count ++ be 1 e.detail
       | none => [0, 0, 0, 0, 0, 0, 0]
     let zone (k : Nat) : List Byte :=
       let z := s.zoneState k
       beInt 2 z.tempSetpoint ++ be 2 z.rhSetpoint ++ beInt 1 z.demand ++ [directionCode z.direction] ++
       (match z.airTimer with
        | .running e => if k < s.canes.zoneCount then be 4 e else noExpiry
        | .stopped => noExpiry)
     let slot (role : Nat) : List Byte :=
       let x := s.slot role
       [freshnessCode x.freshness] ++ beInt 2 x.value ++ [statusCode x.status] ++
       be 3 (if x.received then min ((s.clock - x.lastTick) / 10) 16777215 else 0)
     let baseline (role : Nat) : List Byte :=
       match (s.slot role).baseline with | some c => 1 :: be 2 c | none => [0, 0, 0]
     let stall : List Byte :=
       match s.discharge.stallTimer with
       | .stopped => 0 :: noExpiry
       | .running e => 1 :: be 4 e
       | .expired => 2 :: noExpiry
     let sweep : List Byte :=
       match s.drying.sweep with | some w => be 4 w.time ++ number w.next | none => []
     (∀ page : Byte, r.args = [page] → 17 < page.toNat →
       exec (.readStatus r) s = .next (answered s (directiveOf 0x12 [] r) .badIndex [] id)) ∧
     shows 0 (be 4 s.lineTime ++ [modeCode s.sequencer.mode, flag s.sequencer.pressOwed] ++
       be 2 s.sequencer.faults.length ++ be 1 s.agent.supervisor ++ be 2 s.agent.directives.tail.length ++
       be 1 s.agent.missed ++ be 3 s.canes.nextSequence) ∧
     shows 1 (fault 0 ++ fault 1 ++ fault 2 ++ fault 3) ∧
     shows 2 (fault 4 ++ fault 5 ++ fault 6 ++ fault 7) ∧
     shows 3 (be 1 (pacerStateCode s.pacer.state) ++ [flag s.pacer.settled, flag s.pacer.purgePending] ++
       be 1 s.pacer.gapCounter ++ be 1 s.pacer.missCount ++ beInt 2 s.pacer.correction ++
       pointer s.lots.armed ++ pointer s.lots.active) ∧
     shows 4 ([stepStateCode s.chain.stepState] ++ be 2 s.chain.recommands ++ be 2 s.chain.revCount ++
       [flag s.chain.revBaseline, kind s.chain.station] ++ be 2 s.canes.records.length ++
       be 3 ((s.canes.records.head?.map Cane.sequence).getD 0) ++
       be 3 ((s.canes.records.getLast?.map Cane.sequence).getD 0) ++ [kind s.canes.records.head?]) ∧
     shows 5 (be 1 s.discharge.entries.length ++
       number (s.discharge.entries.head?.map DischargeEntry.sequence) ++
       number (s.discharge.entries.getLast?.map DischargeEntry.sequence) ++
       [flag s.discharge.orderOutstanding] ++ stall ++ be 4 s.discharge.packCount ++
       be 4 s.discharge.setAsideCount ++ be 4 s.discharge.divertCount) ∧
     shows 6 ([flag s.drying.sweep.isSome, flag s.drying.sweepPending] ++ be 4 s.drying.nextExpiry ++
       be 2 s.drying.completed ++ be 4 s.drying.summary.time ++ be 2 s.drying.summary.updated ++
       be 2 s.drying.summary.unknown ++ be 2 s.drying.summary.skipped ++ sweep) ∧
     shows 7 (zone 0 ++ zone 1 ++ zone 2 ++ zone 3 ++ be 2 s.climate.stagger.toNat) ∧
     shows 8 (zone 4 ++ zone 5 ++ zone 6 ++ zone 7) ∧ shows 9 (zone 8 ++ zone 9 ++ zone 10 ++ zone 11) ∧
     shows 10 (slot 0 ++ slot 1 ++ slot 2 ++ slot 3 ++ slot 4 ++ slot 5) ∧
     shows 11 (slot 6 ++ slot 7 ++ baseline 1 ++ baseline 3 ++ baseline 4 ++ baseline 7) ∧
     shows 12 (slot 8 ++ slot 9 ++ slot 10 ++ slot 11 ++ slot 12) ∧
     shows 13 (slot 13 ++ slot 14 ++ slot 15 ++ slot 16 ++ slot 17) ∧
     shows 14 (slot 18 ++ slot 19 ++ slot 20 ++ slot 21 ++ slot 22) ∧
     shows 15 (slot 23 ++ slot 24 ++ slot 25 ++ slot 26 ++ slot 27) ∧
     shows 16 (slot 28 ++ slot 29 ++ slot 30 ++ slot 31) ∧
     shows 17 (be 1 s.port.node ++ be 2 s.port.counts.parity ++ be 2 s.port.counts.check ++
       be 2 s.port.counts.length ++ be 2 s.port.counts.kind ++ be 2 s.port.counts.claimsLost ++
       be 2 s.port.counts.resets ++ be 2 (s.port.fill .urgent) ++ be 2 (s.port.fill .routine) ++
       be 2 (s.port.fill .management))) ∧
  (∀ (s : State) (r : Request), Starts s (directiveOf 0x13 [] r) → r.args = [] → exec (.readTotals r) s =
     .next (answered s (directiveOf 0x13 [] r) .done (be 8 s.pacer.extruded ++ be 8 s.pacer.hung ++
       be 8 s.pacer.waste ++ be 5 s.pacer.acc) id)) ∧
  (∀ (s : State) (r : Request), Starts s (directiveOf 0x14 [] r) →
     (r.args = [] → exec (.clearTotals r) s = .next (answered s (directiveOf 0x14 [] r) .done [] (fun u => { u with
       pacer := { u.pacer with extruded := 0, hung := 0, waste := 0 } }))) ∧
     (r.args ≠ [] → exec (.clearTotals r) s = .next (answered s (directiveOf 0x14 [] r) .badForm [] id)))

/-- MARK_CANES (R68, R116): REJECT or HOLD is set on every PRODUCT record of the range, taken upward through the wrap,
in the station, the cane queue and the discharge queue. There the disposition is decided again, but for a head with
its order outstanding, which is marked late. The response counts the records, those in the discharge queue and the
late one. -/
def Obligations.MarksReachEveryRecordInRange : Prop :=
  ∀ (s : State) (r : Request) (first last : Nat) (m : Byte), first < 16777216 → last < 16777216 →
    r.args = be 3 first ++ be 3 last ++ [m] → Starts s (directiveOf 0x04 [] r) →
    let inRange (q : Nat) : Bool :=
      decide ((q + (16777216 - first)) % 16777216 ≤ (last + (16777216 - first)) % 16777216)
    let set (p : Product) : Product := if m = 0 then { p with markReject := true } else { p with markHold := true }
    let mark (c : Cane) : Cane := if inRange c.sequence then { c with product := c.product.map set } else c
    let onLine := (s.chain.station.toList ++ s.canes.records).countP
      (fun c => c.product.isSome && inRange c.sequence)
    let inDischarge := s.discharge.entries.countP (fun e => inRange e.sequence)
    let late (i : Nat) (e : DischargeEntry) : Bool :=
      decide (i = 0) && s.discharge.orderOutstanding && inRange e.sequence
    let lateCount := (s.discharge.entries.head?.map (fun e => if late 0 e then 1 else 0)).getD 0
    (2 ≤ m.toNat → exec (.markCanes r) s = .next (answered s (directiveOf 0x04 [] r) .badValue [] id)) ∧
    (m.toNat ≤ 1 → ∃ es, exec (.markCanes r) s = .next (answered s (directiveOf 0x04 [] r) .done
        (be 2 (onLine + inDischarge) ++ be 1 inDischarge ++ be 1 lateCount)
        (fun u => { u with
          chain := { u.chain with station := u.chain.station.map mark },
          canes := { u.canes with records := u.canes.records.map mark },
          discharge := { u.discharge with entries := es } })) ∧
      es.length = s.discharge.entries.length ∧
      (∀ i e, s.discharge.entries[i]? = some e →
        let f : DischargeEntry := { e with product := set e.product }
        let lot := (s.lotSlot e.product.lot).header
        es[i]? = some (
          if inRange e.sequence = false then e
          else if late i e then { f with late := true }
          else { f with
            disposition :=
              if f.product.markReject = true ∨ lot.acceptMax < f.product.moisture ∨
                  (f.product.excursion.isSome = true ∧ lot.policy = .divert) ∨ f.pieces = 0 then .divert
              else if f.product.markHold = true then .setAside else .pack })))

/-- CLEAR_LINE (R16, R17, R63, R70): taken only in STOPPED with no step in flight; the station, the cane queue and the
discharge queue are emptied, the re-command count and the order-outstanding mark cleared, the step state IDLE, every
reference count 0 and every RETIRING lot freed, with LOT_FREED reports in ascending slot order. The pacer then
evaluates in FORMING and BLOCKED (R27). The zone map, the next sequence number, the two lot pointers, A and
the totals stay. -/
def Obligations.ClearLineEmptiesTheLine : Prop :=
  ∀ (s : State) (r : Request), Starts s (directiveOf 0x05 [] r) → r.args = [] →
    let freed := (List.range 16).filter (fun i => decide ((s.lotSlot i).life = .retiring))
    (s.sequencer.mode ≠ .stopped →
      exec (.clearLine r) s = .next (answered s (directiveOf 0x05 [] r) .wrongMode [] id)) ∧
    (s.sequencer.mode = .stopped → s.chain.step?.isSome = true →
      exec (.clearLine r) s = .next (answered s (directiveOf 0x05 [] r) .wrongState [] id)) ∧
    (s.sequencer.mode = .stopped → s.chain.step? = none → s.lots.slots.length = 16 →
      ∃ t, exec (.clearLine r) s = .next t ∧
        t.chain = { s.chain with station := none, recommands := 0, stepState := .idle } ∧
        t.canes = { s.canes with records := [] } ∧
        t.discharge = { s.discharge with
          entries := [], orderOutstanding := false,
          stallTimer := if s.chain.stepState = .waitingRoom then .stopped else s.discharge.stallTimer } ∧
        (∀ i, i < 16 → t.lotSlot i =
          (if (s.lotSlot i).life = .retiring then .cleared else { s.lotSlot i with refCount := 0 })) ∧
        t.lots.armed = s.lots.armed ∧ t.lots.active = s.lots.active ∧ t.lots.gap = s.lots.gap ∧
        t.pacer = { s.pacer with state := t.pacer.state } ∧
        (s.pacer.state = .forming ∨ s.pacer.state = .blocked → Evaluated t (inc32 s.port.frameCount)) ∧
        (s.pacer.state = .idle ∨ (∃ f, s.pacer.state = .firing f) → t.pacer.state = s.pacer.state) ∧
        (s.port.fill .management + freed.length ≤ 5 →
          t.port.management.dropLast.map Frame.body = s.port.management.map Frame.body ++
            (freed.zipIdx.map (fun x => .report (if x.2 = 0 then s.agent.missed else 0) s.lineTime
              (.lotFreed x.1 (s.lotSlot x.1).header.lotNumber)))) ∧ t.sequencer = s.sequencer ∧
        t.port.management.getLast?.map Frame.body = some (.response r.tag 0x05 .done
          (be 1 s.chain.station.toList.length ++ be 1 (s.chain.station.toList.countP Cane.isProduct) ++
           be 2 s.canes.records.length ++ be 2 (s.canes.records.countP Cane.isProduct) ++
           be 1 s.discharge.entries.length ++ be 1 s.discharge.entries.length)))

/-! ## Directives: the line modes and the faults -/

/-- MODE with each of its eight arguments (R126, R169): a wrong length is refused with BAD_FORM, and a mode that does
not admit the argument with WRONG_MODE.
WRITE_TABLE_UNWRITABLE, MODE_UNKNOWN_ARGUMENT and UNKNOWN_DIRECTIVE (R126, R169, R173): a table that cannot be written
is refused with BAD_TABLE before its length is compared, a MODE argument above 7 with BAD_VALUE after its length, and
a code that is none of the fifteen with BAD_FORM.
Every directive of fixed length with another length, and a WRITE_TABLE whose length is not its fixed part and its
count of entries, are refused with BAD_FORM (R169); a first index other than 0 or a count other than 1 of a table of
one record with BAD_INDEX (R173). -/
def Obligations.ModesTablesAndCodesAreCheckedFirst : Prop :=
  (∀ (s : State) (r : Request) (row : Request → Instr) (argument : Byte) (modes : List LineMode),
     (row, argument, modes) ∈ ([(.modePrime, 0, [.stopped]), (.modeRun, 1, [.priming]),
       (.modeHold, 2, [.priming, .running, .draining]), (.modeResume, 3, [.holding]),
       (.modeDrain, 4, [.running, .holding]), (.modeStop, 5, [.holding, .draining, .safe]),
       (.modeSafe, 6, [.stopped, .priming, .running, .holding, .draining, .safe]),
       (.modeLeaveSafe, 7, [.safe])] : List ((Request → Instr) × Byte × List LineMode)) →
     Starts s (directiveOf 0x10 [argument] r) →
     (r.args ≠ [] → exec (row r) s = .next (answered s (directiveOf 0x10 [argument] r) .badForm [] id)) ∧
     (r.args = [] → s.sequencer.mode ∉ modes →
       exec (row r) s = .next (answered s (directiveOf 0x10 [argument] r) .wrongMode [] id))) ∧
  (∀ (s : State) (r : Request) (sender : Nat) (payload : List Byte),
     (∀ b rest, r.args = b :: rest → b.toNat = 0 ∨ 10 < b.toNat → Starts s (directiveOf 0x02 [] r) →
       exec (.writeTableUnwritable r) s = .next (answered s (directiveOf 0x02 [] r) .badTable [] id)) ∧
     (∀ b, r.args = [b] → 7 < b.toNat → Starts s (directiveOf 0x10 [] r) →
       exec (.modeUnknownArgument r) s = .next (answered s (directiveOf 0x10 [] r) .badValue [] id)) ∧
     (∀ b c rest, r.args = b :: c :: rest → 7 < b.toNat → Starts s (directiveOf 0x10 [] r) →
       exec (.modeUnknownArgument r) s = .next (answered s (directiveOf 0x10 [] r) .badForm [] id)) ∧
     (∀ tag code args, payload = tag :: code :: args →
       code ∉ ([0x01, 0x02, 0x03, 0x04, 0x05, 0x08, 0x09, 0x0A, 0x0B, 0x0C, 0x10, 0x11, 0x12, 0x13, 0x14] :
         List Byte) →
       Starts s { payload := payload, sender := sender } → exec (.unknownDirective sender payload) s =
         .next (answered s { payload := payload, sender := sender } .badForm [] id))) ∧
  (∀ (s : State) (r : Request) (row : Request → Instr),
     (∀ (code : Byte) (length : Nat), (row, code, length) ∈ ([(.readCane, 0x03, 4), (.markCanes, 0x04, 7),
         (.clearLine, 0x05, 0), (.lotOpen, 0x08, 19), (.lotStage, 0x09, 13), (.lotSeal, 0x0A, 1),
         (.lotDiscard, 0x0B, 1), (.lotArm, 0x0C, 1), (.ackFault, 0x11, 1), (.readStatus, 0x12, 1),
         (.readTotals, 0x13, 0), (.clearTotals, 0x14, 0)] : List ((Request → Instr) × Byte × Nat)) →
       r.args.length ≠ length → Starts s (directiveOf code [] r) →
       exec (row r) s = .next (answered s (directiveOf code [] r) .badForm [] id)) ∧
     (∀ (table : Byte) (size : Nat), (row, table, size) ∈ ([(.writeTableListen, 1, 3), (.writeTableTalk, 2, 2),
         (.writeTableZone, 3, 29), (.writeTableZoneCount, 4, 1), (.writeTableMeq, 5, 2), (.writeTableKd, 6, 2),
         (.writeTableModel, 7, 6), (.writeTableGap, 8, 1), (.writeTablePacer, 9, 18), (.writeTableLine, 10, 35)] :
         List ((Request → Instr) × Byte × Nat)) →
       (5 ≤ table.toNat → table.toNat ≤ 7 → s.drying.sweep = none) → Starts s (directiveOf 0x02 [table] r) →
       (r.args.length < 2 → exec (row r) s = .next (answered s (directiveOf 0x02 [table] r) .badForm [] id)) ∧
       (∀ first count entries, r.args = first :: count :: entries →
         (entries.length ≠ count.toNat * size →
           exec (row r) s = .next (answered s (directiveOf 0x02 [table] r) .badForm [] id)) ∧
         (entries.length = count.toNat * size → table ∈ ([4, 7, 9, 10] : List Byte) → first ≠ 0 ∨ count ≠ 1 →
           exec (row r) s = .next (answered s (directiveOf 0x02 [table] r) .badIndex [] id)))))

/-- MODE PRIME and MODE RESUME (R126, R127, R136): with the fault list empty and the configuration complete PRIMING is
entered, and at once left for HOLDING with SPEED_LOST while the speed slot is LOST (assumption 13); otherwise the
directive is refused with WRONG_STATE or NOT_CONFIGURED. MODE RUN (R12, R41, R126): with a lot active or armed and
SETTLED, RUNNING is entered, the curtain becomes purge-pending, and with no lot active the armed one is, within the
directive (assumption 14). -/
def Obligations.PrimeResumeAndRunEnterTheirModes : Prop :=
  ∀ (s : State) (r : Request), r.args = [] →
    (∀ row argument from', (row, argument, from') ∈ ([(.modePrime, 0, .stopped), (.modeResume, 3, .holding)] :
        List ((Request → Instr) × Byte × LineMode)) →
      Starts s (directiveOf 0x10 [argument] r) → s.sequencer.mode = from' →
      (s.sequencer.faults ≠ [] → exec (row r) s =
        .next (answered s (directiveOf 0x10 [argument] r) .wrongState [] id)) ∧
      (s.sequencer.faults = [] → ¬ ConfigurationComplete s → exec (row r) s =
        .next (answered s (directiveOf 0x10 [argument] r) .notConfigured [] id)) ∧
      (s.sequencer.faults = [] → ConfigurationComplete s → s.isLost 0 = false →
        ∃ t, exec (row r) s = .next t ∧ ModeEntered s t (directiveOf 0x10 [argument] r) .priming ∧
          t.lots = s.lots ∧ t.pacer = s.pacer) ∧
      (s.sequencer.faults = [] → ConfigurationComplete s → s.isLost 0 = true →
        ∃ t, exec (row r) s = .next t ∧ t.sequencer.mode = .holding ∧
          t.sequencer.faults = [newFault s .speedLost 0] ∧ t.lots = s.lots ∧ t.pacer = s.pacer ∧
          t.handed = s.handed ++
            [.pacerModeChange s.sequencer.mode .priming, .chainModeChange s.sequencer.mode .priming,
             .pacerModeChange .priming .holding, .chainModeChange .priming .holding] ∧
          t.port.management.getLast?.map Frame.body = some (.response r.tag 0x10 .done []))) ∧
    (Starts s (directiveOf 0x10 [1] r) → s.sequencer.mode = .priming →
      (s.lots.active = none → s.lots.armed = none → exec (.modeRun r) s =
        .next (answered s (directiveOf 0x10 [1] r) .notConfigured [] id)) ∧
      (s.lots.active ≠ none ∨ s.lots.armed ≠ none → s.pacer.settled = false → exec (.modeRun r) s =
        .next (answered s (directiveOf 0x10 [1] r) .notSettled [] id)) ∧
      (s.lots.active ≠ none ∨ s.lots.armed ≠ none → s.pacer.settled = true →
        ∃ t, exec (.modeRun r) s = .next t ∧ ModeEntered s t (directiveOf 0x10 [1] r) .running ∧
          t.pacer = { s.pacer with purgePending := true } ∧
          (s.lots.active ≠ none → t.lots = s.lots) ∧
          (∀ a, s.lots.active = none → s.lots.armed = some a → t.lots = { s.lots with
            active := some a, armed := none,
            slots := s.lots.slots.set a { s.lotSlot a with life := .active } })))

/-- MODE HOLD, DRAIN, STOP, SAFE and LEAVE_SAFE (R126, R128, R131, R135): each enters its mode. DRAIN goes on to
STOPPED at once when no product is on the line; STOP is refused with WRONG_STATE from HOLDING and DRAINING while
product is on the line and from SAFE while two or more faults are listed, so that STOP too leaves SAFE (assumption 31,
which settles R126 against R133); SAFE in SAFE is taken and changes nothing; LEAVE_SAFE is refused with WRONG_STATE
while a fault is listed. -/
def Obligations.HoldDrainStopAndSafeEnterTheirModes : Prop :=
  ∀ (s : State) (r : Request), r.args = [] →
    let entered (row : Request → Instr) (d : Directive) (new : LineMode) : Prop :=
      ∃ t, exec (row r) s = .next t ∧ ModeEntered s t d new ∧ t.lots = s.lots ∧ t.pacer = s.pacer
    let refused (row : Request → Instr) (d : Directive) : Prop :=
      exec (row r) s = .next (answered s d .wrongState [] id)
    (Starts s (directiveOf 0x10 [2] r) →
      s.sequencer.mode = .priming ∨ s.sequencer.mode = .running ∨ s.sequencer.mode = .draining →
      entered .modeHold (directiveOf 0x10 [2] r) .holding) ∧
    (Starts s (directiveOf 0x10 [4] r) → s.sequencer.mode = .running ∨ s.sequencer.mode = .holding →
      (ProductOnTheLine s → entered .modeDrain (directiveOf 0x10 [4] r) .draining) ∧
      (¬ ProductOnTheLine s → ∃ t, exec (.modeDrain r) s = .next t ∧ t.sequencer.mode = .stopped ∧
        t.handed = s.handed ++
          [.pacerModeChange s.sequencer.mode .draining, .chainModeChange s.sequencer.mode .draining,
           .pacerModeChange .draining .stopped, .chainModeChange .draining .stopped] ∧
        t.port.management.getLast?.map Frame.body = some (.response r.tag 0x10 .done []))) ∧
    (Starts s (directiveOf 0x10 [5] r) →
      (s.sequencer.mode = .holding ∨ s.sequencer.mode = .draining →
        (ProductOnTheLine s → refused .modeStop (directiveOf 0x10 [5] r)) ∧
        (¬ ProductOnTheLine s → entered .modeStop (directiveOf 0x10 [5] r) .stopped)) ∧
      (s.sequencer.mode = .safe →
        (s.sequencer.faults.length ≤ 1 → entered .modeStop (directiveOf 0x10 [5] r) .stopped) ∧
        (2 ≤ s.sequencer.faults.length → refused .modeStop (directiveOf 0x10 [5] r)))) ∧
    (Starts s (directiveOf 0x10 [6] r) →
      (s.sequencer.mode ≠ .safe → entered .modeSafe (directiveOf 0x10 [6] r) .safe) ∧
      (s.sequencer.mode = .safe →
        exec (.modeSafe r) s = .next (answered s (directiveOf 0x10 [6] r) .done [] id))) ∧
    (Starts s (directiveOf 0x10 [7] r) → s.sequencer.mode = .safe →
      (s.sequencer.faults = [] → entered .modeLeaveSafe (directiveOf 0x10 [7] r) .holding) ∧
      (s.sequencer.faults ≠ [] → refused .modeLeaveSafe (directiveOf 0x10 [7] r)))

/-- ACK_FAULT (R133): a value that is none of the eight codes is refused with BAD_VALUE, a code not listed with
NOT_FOUND; otherwise the entry is removed, the others close up, the mode stands, and the response carries the entry's
line time, count and detail. An acknowledged CLIMATE_LOST clears every zone's mark (R137). -/
def Obligations.AcknowledgedFaultsLeaveTheList : Prop :=
  ∀ (s : State) (r : Request) (b : Byte), r.args = [b] → Starts s (directiveOf 0x11 [] r) →
    (b.toNat = 0 ∨ 8 < b.toNat →
      exec (.ackFault r) s = .next (answered s (directiveOf 0x11 [] r) .badValue [] id)) ∧
    (∀ code, faultByte code = b → (∀ e ∈ s.sequencer.faults, e.code ≠ code) →
      exec (.ackFault r) s = .next (answered s (directiveOf 0x11 [] r) .notFound [] id)) ∧
    (∀ e before after, faultByte e.code = b → s.sequencer.faults = before ++ e :: after →
      (∀ x ∈ before ++ after, x.code ≠ e.code) →
      exec (.ackFault r) s = .next (answered s (directiveOf 0x11 [] r) .done
        (be 4 e.time ++ be 1 e.count ++ be 1 e.detail) (fun u => { u with sequencer := { u.sequencer with
          faults := before ++ after,
          lossRaised := if e.code = .climateLost then u.sequencer.lossRaised.map (fun _ => false)
                        else u.sequencer.lossRaised } })))

/-! ## Laws that every step keeps -/

/-- The fault list keeps one entry for each code, counts of 1 to 255, and SAFE with two or more entries (R125,
R132).
Every measurement slot keeps its timers and its baseline in step with its freshness (R146, R147). -/
def Obligations.FaultListAndSlotLawsAreKept : Prop :=
  (∀ s t : State, FaultListLaw s → step s = .next t → FaultListLaw t) ∧
  (∀ s t : State, SlotLaw s → step s = .next t → SlotLaw t)

/-- Every queue keeps to its kind and its capacity, the routine queue to one command of each kind and zone (R104,
R160), and every payload to 48 characters (R156). -/
def Obligations.TransmitQueueLawIsKept : Prop :=
  ∀ s t : State, step s = .next t → (QueueLaw s → QueueLaw t) ∧ (PayloadLaw s → PayloadLaw t)

/-- A fire and a step are never in flight together, a record waits in the station only while no fire is in flight
(R29, R58), and the knife and step timers run only for what is in flight (R32, R33, R55, R60). -/
def Obligations.FireAndStepLawIsKept : Prop :=
  ∀ s t : State, step s = .next t →
    (FireStepLaw s → FireStepLaw t) ∧ (KnifeTimerLaw s → KnifeTimerLaw t) ∧ (StepTimerLaw s → StepTimerLaw t)

/-- The zone map stays in range and contiguous (R52, R53, R96), and with it the records keep their consecutive
sequence numbers through every arrival and departure, never more than P_exit + 1 in the cane queue (R48, R50). The
discharge queue never holds more than 8 entries, because a step is sent only with room at the exit (R56, R112), and
stands in ascending sequence order ahead of the cane queue (R113), as long as fewer than 2^24 numbers are given out
from its head on (beyond that no order through the wrap can be told). -/
def Obligations.ZoneMapCaneAndDischargeLawsAreKept : Prop :=
  (∀ s t : State, step s = .next t →
     (ZoneMapLaw s → ZoneMapLaw t) ∧ (FireStepLaw s → ZoneMapLaw s → CaneLaw s → CaneLaw t)) ∧
  (∀ s t : State, FireStepLaw s → CaneLaw s → DischargeLaw s → step s = .next t → DischargeLaw t) ∧
  (∀ s t : State, FireStepLaw s → ZoneMapLaw s → CaneLaw s → SequenceOrderLaw s → step s = .next t →
     (∀ e, t.discharge.entries.head? = some e → seqDistance e.sequence t.canes.nextSequence ≠ 0) →
     SequenceOrderLaw t)

/-- Every slot's reference count is the number of PRODUCT records that name it (R15, R17), and the pointers name the
one ACTIVE slot and a READY slot (R11). -/
def Obligations.ReferenceAndPointerLawsAreKept : Prop :=
  ∀ s t : State, FireStepLaw s → ReferenceLaw s → PointerLaw s → step s = .next t →
    ReferenceLaw t ∧ PointerLaw t

/-- Every moisture estimate stays within 0 to 9,999 (R85) and c within −20,000 to +20,000 µm (R37). -/
def Obligations.MoistureAndCorrectionLawsAreKept : Prop :=
  ∀ s t : State, step s = .next t →
    (MoistureLaw s → MoistureLaw t) ∧ (CorrectionLaw s → CorrectionLaw t)

/-- Every setpoint of a configured zone stays within the zone's limits, and every demand within its range (R95, R97,
R100); so every ZONE_CLIMATE carries outputs in the range of its form, never steam and vent together in form D and
never less than V_min of vent in form B (R103). -/
def Obligations.ClimateLawIsKept : Prop :=
  (∀ s t : State, ZoneMapLaw s → ClimateLaw s → step s = .next t → ClimateLaw t) ∧
  (∀ (s : State) (k : Nat), ZoneMapLaw s → ClimateLaw s → k < 12 →
    ∃ target first second,
      s.zoneClimateBody k = .zoneClimate k (s.zoneEntry k).form target first second ∧
      ((s.zoneEntry k).form = .single → first ≤ 254 ∧ second = 0) ∧
      ((s.zoneEntry k).form = .divided → first ≤ 127 ∧ second ≤ 127 ∧ (first = 0 ∨ second = 0)) ∧
      ((s.zoneEntry k).form = .biased → first ≤ 127 ∧ (s.zoneEntry k).vMin ≤ second ∧ second ≤ 127))

/-- The totals law (R44): every command but CLEAR_TOTALS and a power-on reset leaves extruded − hung − waste − A as it
was. -/
def Obligations.TotalsLawIsKept : Prop :=
  ∀ (c : Instr) (s t : State), (∀ r, c ≠ .clearTotals r) → (∀ x, c ≠ .powerOnReset x) → TotalsInService s →
    exec c s = .next t → TotalsBalance s t

/-! ## Encodings -/

/-- Every table entry reads back from its bytes as it was written, with every field at every value its bytes carry and
the tables accept: the lot header and stage, LISTEN, TALK, ZONE, MODEL, PACER, LINE, MEQ, KD, and the one byte of GAP
and ZONE_COUNT (section 11.5, R176, R182). -/
def Obligations.TableEntriesReadBackFromTheirBytes : Prop :=
  (∀ h : LotHeader, h.fits → parseHeader (headerBytes h) = some h) ∧
  (∀ g : Stage, g.fits → parseStage (stageBytes g) = g) ∧
  (∀ e : Option ListenEntry, listenEntryOk e → parseListen (listenBytes e) = some e) ∧
  (∀ (own : Nat) (e : Option Nat), talkEntryOk own e → parseTalk own (talkBytes e) = some e) ∧
  (∀ z : ZoneEntry, z.fits → parseZone (zoneBytes z) = some z) ∧
  (∀ d : Drying, -32768 ≤ d.tBase → d.tBase ≤ 32767 → 10 ≤ d.tStep → d.tStep ≤ 500 → 10 ≤ d.interval →
    d.interval ≤ 600 →
    parseModel (modelBytes d) = some { tBase := d.tBase, tStep := d.tStep, interval := d.interval }) ∧
  (∀ p : Pacer, p.params.inRange = true → parsePacer (pacerBytes p) = some p.params) ∧
  (∀ (own node : Nat) (p : LineParams), p.inRange = true → node ≤ 62 → node ≠ own →
    parseLine own (lineBytes p node) = some (p, node)) ∧
  (∀ m : Nat, m ≤ 9999 → parseMeq (be 2 m) = some m) ∧ (∀ k : Nat, k ≤ 65535 → field (be 2 k) 0 2 = k) ∧
  (∀ n : Nat, n ≤ 255 → field (be 1 n) 0 1 = n)

/-- Every frame the part sends passes the receiver's tests with its claim, kind, destination and payload (R156, R157,
R177), and with any one data bit of any of its characters turned it is discarded for parity. -/
def Obligations.FramesPassTheReceiverAndFlippedBitsDoNot : Prop :=
  ∀ (node : Nat) (f : Frame), node < 64 → f.dest < 64 → (payloadOf f.body).length ≤ 48 →
    let bytes := frameBytes node f
    let chars := bytes.map sendChar
    discardCause chars true = none ∧ chars.map RxChar.data = bytes ∧ claimNode bytes = node ∧
    rxKind bytes = (kindOf f.body).toNat ∧ rxDest bytes = f.dest ∧ rxPayload bytes = payloadOf f.body ∧
    (∀ (i bit : Nat) (b : Byte), bytes[i]? = some b → bit < 8 →
      discardCause (chars.set i { sendChar b with data := b ^^^ BitVec.twoPow 8 bit }) true = some .parity)
end

