-- ==== Sys2Proof/Laws/Bytes.lean ====
section
/-!
SUPPORT. The byte fields of R176: the length of a field, and reading one back.
-/

namespace Sys2Proof.Machine

@[simp] theorem be_length (k n : Nat) : (be k n).length = k := by
  induction k generalizing n with
  | zero => rfl
  | succ k ih => simp [be, ih]

@[simp] theorem beInt_length (k : Nat) (i : Int) : (beInt k i).length = k := be_length _ _

/-- The last byte of a field counts once, the ones before it 256 times. -/
theorem beNat_snoc (bs : List Byte) (b : Byte) : beNat (bs ++ [b]) = beNat bs * 256 + b.toNat := by
  simp [beNat, List.foldl_append]

/-- A number that fits a field reads back from it (R176). -/
theorem beNat_be {k n : Nat} (h : n < 256 ^ k) : beNat (be k n) = n := by
  induction k generalizing n with
  | zero => simp at h; simp [be, beNat, h]
  | succ k ih =>
    rw [be, beNat_snoc, ih (by rw [pow_succ] at h; omega), BitVec.toNat_ofNat]
    omega

/-- A field that stands behind `pre` reads back. -/
theorem field_be {k n : Nat} (pre post : List Byte) (h : n < 256 ^ k) :
    field (pre ++ (be k n ++ post)) pre.length k = n := by
  simp [field, beNat_be h]

end Sys2Proof.Machine
end

