-- ==== Sys2Proof/Laws/State.lean ====
section
/-!
SUPPORT. The record updates of the machine: one lemma for each field of State after each update, so that a proof
never unfolds one.
-/

namespace Sys2Proof.Machine

/-! ## State.hand -/

@[simp] theorem State.hand_clock (s : State) (e : Instr) :
    (s.hand e).clock = s.clock := rfl

@[simp] theorem State.hand_lineTime (s : State) (e : Instr) :
    (s.hand e).lineTime = s.lineTime := rfl

@[simp] theorem State.hand_lots (s : State) (e : Instr) :
    (s.hand e).lots = s.lots := rfl

@[simp] theorem State.hand_pacer (s : State) (e : Instr) :
    (s.hand e).pacer = s.pacer := rfl

@[simp] theorem State.hand_chain (s : State) (e : Instr) :
    (s.hand e).chain = s.chain := rfl

@[simp] theorem State.hand_canes (s : State) (e : Instr) :
    (s.hand e).canes = s.canes := rfl

@[simp] theorem State.hand_drying (s : State) (e : Instr) :
    (s.hand e).drying = s.drying := rfl

@[simp] theorem State.hand_climate (s : State) (e : Instr) :
    (s.hand e).climate = s.climate := rfl

@[simp] theorem State.hand_discharge (s : State) (e : Instr) :
    (s.hand e).discharge = s.discharge := rfl

@[simp] theorem State.hand_sequencer (s : State) (e : Instr) :
    (s.hand e).sequencer = s.sequencer := rfl

@[simp] theorem State.hand_signals (s : State) (e : Instr) :
    (s.hand e).signals = s.signals := rfl

@[simp] theorem State.hand_port (s : State) (e : Instr) :
    (s.hand e).port = s.port := rfl

@[simp] theorem State.hand_agent (s : State) (e : Instr) :
    (s.hand e).agent = s.agent := rfl

@[simp] theorem State.hand_line (s : State) (e : Instr) :
    (s.hand e).line = s.line := rfl

@[simp] theorem State.hand_handed (s : State) (e : Instr) :
    (s.hand e).handed = s.handed ++ [e] := rfl

@[simp] theorem State.hand_pending (s : State) (e : Instr) :
    (s.hand e).pending = s.pending := rfl

/-! ## State.took -/

@[simp] theorem State.took_clock (s : State) (e : Instr) :
    (s.took e).clock = s.clock := rfl

@[simp] theorem State.took_lineTime (s : State) (e : Instr) :
    (s.took e).lineTime = s.lineTime := rfl

@[simp] theorem State.took_lots (s : State) (e : Instr) :
    (s.took e).lots = s.lots := rfl

@[simp] theorem State.took_pacer (s : State) (e : Instr) :
    (s.took e).pacer = s.pacer := rfl

@[simp] theorem State.took_chain (s : State) (e : Instr) :
    (s.took e).chain = s.chain := rfl

@[simp] theorem State.took_canes (s : State) (e : Instr) :
    (s.took e).canes = s.canes := rfl

@[simp] theorem State.took_drying (s : State) (e : Instr) :
    (s.took e).drying = s.drying := rfl

@[simp] theorem State.took_climate (s : State) (e : Instr) :
    (s.took e).climate = s.climate := rfl

@[simp] theorem State.took_discharge (s : State) (e : Instr) :
    (s.took e).discharge = s.discharge := rfl

@[simp] theorem State.took_sequencer (s : State) (e : Instr) :
    (s.took e).sequencer = s.sequencer := rfl

@[simp] theorem State.took_signals (s : State) (e : Instr) :
    (s.took e).signals = s.signals := rfl

@[simp] theorem State.took_port (s : State) (e : Instr) :
    (s.took e).port = s.port := rfl

@[simp] theorem State.took_agent (s : State) (e : Instr) :
    (s.took e).agent = s.agent := rfl

@[simp] theorem State.took_line (s : State) (e : Instr) :
    (s.took e).line = s.line := rfl

@[simp] theorem State.took_handed (s : State) (e : Instr) :
    (s.took e).handed = s.handed.erase e := rfl

@[simp] theorem State.took_pending (s : State) (e : Instr) :
    (s.took e).pending = s.pending := rfl

/-! ## State.setLot -/

@[simp] theorem State.setLot_clock (s : State) (i : Nat) (l : LotSlot) :
    (s.setLot i l).clock = s.clock := rfl

@[simp] theorem State.setLot_lineTime (s : State) (i : Nat) (l : LotSlot) :
    (s.setLot i l).lineTime = s.lineTime := rfl

@[simp] theorem State.setLot_lots (s : State) (i : Nat) (l : LotSlot) :
    (s.setLot i l).lots = { s.lots with slots := s.lots.slots.set i l } := rfl

@[simp] theorem State.setLot_pacer (s : State) (i : Nat) (l : LotSlot) :
    (s.setLot i l).pacer = s.pacer := rfl

@[simp] theorem State.setLot_chain (s : State) (i : Nat) (l : LotSlot) :
    (s.setLot i l).chain = s.chain := rfl

@[simp] theorem State.setLot_canes (s : State) (i : Nat) (l : LotSlot) :
    (s.setLot i l).canes = s.canes := rfl

@[simp] theorem State.setLot_drying (s : State) (i : Nat) (l : LotSlot) :
    (s.setLot i l).drying = s.drying := rfl

@[simp] theorem State.setLot_climate (s : State) (i : Nat) (l : LotSlot) :
    (s.setLot i l).climate = s.climate := rfl

@[simp] theorem State.setLot_discharge (s : State) (i : Nat) (l : LotSlot) :
    (s.setLot i l).discharge = s.discharge := rfl

@[simp] theorem State.setLot_sequencer (s : State) (i : Nat) (l : LotSlot) :
    (s.setLot i l).sequencer = s.sequencer := rfl

@[simp] theorem State.setLot_signals (s : State) (i : Nat) (l : LotSlot) :
    (s.setLot i l).signals = s.signals := rfl

@[simp] theorem State.setLot_port (s : State) (i : Nat) (l : LotSlot) :
    (s.setLot i l).port = s.port := rfl

@[simp] theorem State.setLot_agent (s : State) (i : Nat) (l : LotSlot) :
    (s.setLot i l).agent = s.agent := rfl

@[simp] theorem State.setLot_line (s : State) (i : Nat) (l : LotSlot) :
    (s.setLot i l).line = s.line := rfl

@[simp] theorem State.setLot_handed (s : State) (i : Nat) (l : LotSlot) :
    (s.setLot i l).handed = s.handed := rfl

@[simp] theorem State.setLot_pending (s : State) (i : Nat) (l : LotSlot) :
    (s.setLot i l).pending = s.pending := rfl

/-! ## State.setPort -/

@[simp] theorem State.setPort_clock (s : State) (p : Port) :
    (s.setPort p).clock = s.clock := rfl

@[simp] theorem State.setPort_lineTime (s : State) (p : Port) :
    (s.setPort p).lineTime = s.lineTime := rfl

@[simp] theorem State.setPort_lots (s : State) (p : Port) :
    (s.setPort p).lots = s.lots := rfl

@[simp] theorem State.setPort_pacer (s : State) (p : Port) :
    (s.setPort p).pacer = s.pacer := rfl

@[simp] theorem State.setPort_chain (s : State) (p : Port) :
    (s.setPort p).chain = s.chain := rfl

@[simp] theorem State.setPort_canes (s : State) (p : Port) :
    (s.setPort p).canes = s.canes := rfl

@[simp] theorem State.setPort_drying (s : State) (p : Port) :
    (s.setPort p).drying = s.drying := rfl

@[simp] theorem State.setPort_climate (s : State) (p : Port) :
    (s.setPort p).climate = s.climate := rfl

@[simp] theorem State.setPort_discharge (s : State) (p : Port) :
    (s.setPort p).discharge = s.discharge := rfl

@[simp] theorem State.setPort_sequencer (s : State) (p : Port) :
    (s.setPort p).sequencer = s.sequencer := rfl

@[simp] theorem State.setPort_signals (s : State) (p : Port) :
    (s.setPort p).signals = s.signals := rfl

@[simp] theorem State.setPort_port (s : State) (p : Port) :
    (s.setPort p).port = p := rfl

@[simp] theorem State.setPort_agent (s : State) (p : Port) :
    (s.setPort p).agent = s.agent := rfl

@[simp] theorem State.setPort_line (s : State) (p : Port) :
    (s.setPort p).line = s.line := rfl

@[simp] theorem State.setPort_handed (s : State) (p : Port) :
    (s.setPort p).handed = s.handed := rfl

@[simp] theorem State.setPort_pending (s : State) (p : Port) :
    (s.setPort p).pending = s.pending := rfl

/-! ## State.setPacer -/

@[simp] theorem State.setPacer_clock (s : State) (p : Pacer) :
    (s.setPacer p).clock = s.clock := rfl

@[simp] theorem State.setPacer_lineTime (s : State) (p : Pacer) :
    (s.setPacer p).lineTime = s.lineTime := rfl

@[simp] theorem State.setPacer_lots (s : State) (p : Pacer) :
    (s.setPacer p).lots = s.lots := rfl

@[simp] theorem State.setPacer_pacer (s : State) (p : Pacer) :
    (s.setPacer p).pacer = p := rfl

@[simp] theorem State.setPacer_chain (s : State) (p : Pacer) :
    (s.setPacer p).chain = s.chain := rfl

@[simp] theorem State.setPacer_canes (s : State) (p : Pacer) :
    (s.setPacer p).canes = s.canes := rfl

@[simp] theorem State.setPacer_drying (s : State) (p : Pacer) :
    (s.setPacer p).drying = s.drying := rfl

@[simp] theorem State.setPacer_climate (s : State) (p : Pacer) :
    (s.setPacer p).climate = s.climate := rfl

@[simp] theorem State.setPacer_discharge (s : State) (p : Pacer) :
    (s.setPacer p).discharge = s.discharge := rfl

@[simp] theorem State.setPacer_sequencer (s : State) (p : Pacer) :
    (s.setPacer p).sequencer = s.sequencer := rfl

@[simp] theorem State.setPacer_signals (s : State) (p : Pacer) :
    (s.setPacer p).signals = s.signals := rfl

@[simp] theorem State.setPacer_port (s : State) (p : Pacer) :
    (s.setPacer p).port = s.port := rfl

@[simp] theorem State.setPacer_agent (s : State) (p : Pacer) :
    (s.setPacer p).agent = s.agent := rfl

@[simp] theorem State.setPacer_line (s : State) (p : Pacer) :
    (s.setPacer p).line = s.line := rfl

@[simp] theorem State.setPacer_handed (s : State) (p : Pacer) :
    (s.setPacer p).handed = s.handed := rfl

@[simp] theorem State.setPacer_pending (s : State) (p : Pacer) :
    (s.setPacer p).pending = s.pending := rfl

/-! ## State.setChain -/

@[simp] theorem State.setChain_clock (s : State) (c : Chain) :
    (s.setChain c).clock = s.clock := rfl

@[simp] theorem State.setChain_lineTime (s : State) (c : Chain) :
    (s.setChain c).lineTime = s.lineTime := rfl

@[simp] theorem State.setChain_lots (s : State) (c : Chain) :
    (s.setChain c).lots = s.lots := rfl

@[simp] theorem State.setChain_pacer (s : State) (c : Chain) :
    (s.setChain c).pacer = s.pacer := rfl

@[simp] theorem State.setChain_chain (s : State) (c : Chain) :
    (s.setChain c).chain = c := rfl

@[simp] theorem State.setChain_canes (s : State) (c : Chain) :
    (s.setChain c).canes = s.canes := rfl

@[simp] theorem State.setChain_drying (s : State) (c : Chain) :
    (s.setChain c).drying = s.drying := rfl

@[simp] theorem State.setChain_climate (s : State) (c : Chain) :
    (s.setChain c).climate = s.climate := rfl

@[simp] theorem State.setChain_discharge (s : State) (c : Chain) :
    (s.setChain c).discharge = s.discharge := rfl

@[simp] theorem State.setChain_sequencer (s : State) (c : Chain) :
    (s.setChain c).sequencer = s.sequencer := rfl

@[simp] theorem State.setChain_signals (s : State) (c : Chain) :
    (s.setChain c).signals = s.signals := rfl

@[simp] theorem State.setChain_port (s : State) (c : Chain) :
    (s.setChain c).port = s.port := rfl

@[simp] theorem State.setChain_agent (s : State) (c : Chain) :
    (s.setChain c).agent = s.agent := rfl

@[simp] theorem State.setChain_line (s : State) (c : Chain) :
    (s.setChain c).line = s.line := rfl

@[simp] theorem State.setChain_handed (s : State) (c : Chain) :
    (s.setChain c).handed = s.handed := rfl

@[simp] theorem State.setChain_pending (s : State) (c : Chain) :
    (s.setChain c).pending = s.pending := rfl

/-! ## State.setDrying -/

@[simp] theorem State.setDrying_clock (s : State) (d : Drying) :
    (s.setDrying d).clock = s.clock := rfl

@[simp] theorem State.setDrying_lineTime (s : State) (d : Drying) :
    (s.setDrying d).lineTime = s.lineTime := rfl

@[simp] theorem State.setDrying_lots (s : State) (d : Drying) :
    (s.setDrying d).lots = s.lots := rfl

@[simp] theorem State.setDrying_pacer (s : State) (d : Drying) :
    (s.setDrying d).pacer = s.pacer := rfl

@[simp] theorem State.setDrying_chain (s : State) (d : Drying) :
    (s.setDrying d).chain = s.chain := rfl

@[simp] theorem State.setDrying_canes (s : State) (d : Drying) :
    (s.setDrying d).canes = s.canes := rfl

@[simp] theorem State.setDrying_drying (s : State) (d : Drying) :
    (s.setDrying d).drying = d := rfl

@[simp] theorem State.setDrying_climate (s : State) (d : Drying) :
    (s.setDrying d).climate = s.climate := rfl

@[simp] theorem State.setDrying_discharge (s : State) (d : Drying) :
    (s.setDrying d).discharge = s.discharge := rfl

@[simp] theorem State.setDrying_sequencer (s : State) (d : Drying) :
    (s.setDrying d).sequencer = s.sequencer := rfl

@[simp] theorem State.setDrying_signals (s : State) (d : Drying) :
    (s.setDrying d).signals = s.signals := rfl

@[simp] theorem State.setDrying_port (s : State) (d : Drying) :
    (s.setDrying d).port = s.port := rfl

@[simp] theorem State.setDrying_agent (s : State) (d : Drying) :
    (s.setDrying d).agent = s.agent := rfl

@[simp] theorem State.setDrying_line (s : State) (d : Drying) :
    (s.setDrying d).line = s.line := rfl

@[simp] theorem State.setDrying_handed (s : State) (d : Drying) :
    (s.setDrying d).handed = s.handed := rfl

@[simp] theorem State.setDrying_pending (s : State) (d : Drying) :
    (s.setDrying d).pending = s.pending := rfl

/-! ## State.setDischarge -/

@[simp] theorem State.setDischarge_clock (s : State) (d : Discharge) :
    (s.setDischarge d).clock = s.clock := rfl

@[simp] theorem State.setDischarge_lineTime (s : State) (d : Discharge) :
    (s.setDischarge d).lineTime = s.lineTime := rfl

@[simp] theorem State.setDischarge_lots (s : State) (d : Discharge) :
    (s.setDischarge d).lots = s.lots := rfl

@[simp] theorem State.setDischarge_pacer (s : State) (d : Discharge) :
    (s.setDischarge d).pacer = s.pacer := rfl

@[simp] theorem State.setDischarge_chain (s : State) (d : Discharge) :
    (s.setDischarge d).chain = s.chain := rfl

@[simp] theorem State.setDischarge_canes (s : State) (d : Discharge) :
    (s.setDischarge d).canes = s.canes := rfl

@[simp] theorem State.setDischarge_drying (s : State) (d : Discharge) :
    (s.setDischarge d).drying = s.drying := rfl

@[simp] theorem State.setDischarge_climate (s : State) (d : Discharge) :
    (s.setDischarge d).climate = s.climate := rfl

@[simp] theorem State.setDischarge_discharge (s : State) (d : Discharge) :
    (s.setDischarge d).discharge = d := rfl

@[simp] theorem State.setDischarge_sequencer (s : State) (d : Discharge) :
    (s.setDischarge d).sequencer = s.sequencer := rfl

@[simp] theorem State.setDischarge_signals (s : State) (d : Discharge) :
    (s.setDischarge d).signals = s.signals := rfl

@[simp] theorem State.setDischarge_port (s : State) (d : Discharge) :
    (s.setDischarge d).port = s.port := rfl

@[simp] theorem State.setDischarge_agent (s : State) (d : Discharge) :
    (s.setDischarge d).agent = s.agent := rfl

@[simp] theorem State.setDischarge_line (s : State) (d : Discharge) :
    (s.setDischarge d).line = s.line := rfl

@[simp] theorem State.setDischarge_handed (s : State) (d : Discharge) :
    (s.setDischarge d).handed = s.handed := rfl

@[simp] theorem State.setDischarge_pending (s : State) (d : Discharge) :
    (s.setDischarge d).pending = s.pending := rfl

/-! ## State.setSequencer -/

@[simp] theorem State.setSequencer_clock (s : State) (q : Sequencer) :
    (s.setSequencer q).clock = s.clock := rfl

@[simp] theorem State.setSequencer_lineTime (s : State) (q : Sequencer) :
    (s.setSequencer q).lineTime = s.lineTime := rfl

@[simp] theorem State.setSequencer_lots (s : State) (q : Sequencer) :
    (s.setSequencer q).lots = s.lots := rfl

@[simp] theorem State.setSequencer_pacer (s : State) (q : Sequencer) :
    (s.setSequencer q).pacer = s.pacer := rfl

@[simp] theorem State.setSequencer_chain (s : State) (q : Sequencer) :
    (s.setSequencer q).chain = s.chain := rfl

@[simp] theorem State.setSequencer_canes (s : State) (q : Sequencer) :
    (s.setSequencer q).canes = s.canes := rfl

@[simp] theorem State.setSequencer_drying (s : State) (q : Sequencer) :
    (s.setSequencer q).drying = s.drying := rfl

@[simp] theorem State.setSequencer_climate (s : State) (q : Sequencer) :
    (s.setSequencer q).climate = s.climate := rfl

@[simp] theorem State.setSequencer_discharge (s : State) (q : Sequencer) :
    (s.setSequencer q).discharge = s.discharge := rfl

@[simp] theorem State.setSequencer_sequencer (s : State) (q : Sequencer) :
    (s.setSequencer q).sequencer = q := rfl

@[simp] theorem State.setSequencer_signals (s : State) (q : Sequencer) :
    (s.setSequencer q).signals = s.signals := rfl

@[simp] theorem State.setSequencer_port (s : State) (q : Sequencer) :
    (s.setSequencer q).port = s.port := rfl

@[simp] theorem State.setSequencer_agent (s : State) (q : Sequencer) :
    (s.setSequencer q).agent = s.agent := rfl

@[simp] theorem State.setSequencer_line (s : State) (q : Sequencer) :
    (s.setSequencer q).line = s.line := rfl

@[simp] theorem State.setSequencer_handed (s : State) (q : Sequencer) :
    (s.setSequencer q).handed = s.handed := rfl

@[simp] theorem State.setSequencer_pending (s : State) (q : Sequencer) :
    (s.setSequencer q).pending = s.pending := rfl

/-! ## State.setSlot -/

@[simp] theorem State.setSlot_clock (s : State) (r : Nat) (x : Slot) :
    (s.setSlot r x).clock = s.clock := rfl

@[simp] theorem State.setSlot_lineTime (s : State) (r : Nat) (x : Slot) :
    (s.setSlot r x).lineTime = s.lineTime := rfl

@[simp] theorem State.setSlot_lots (s : State) (r : Nat) (x : Slot) :
    (s.setSlot r x).lots = s.lots := rfl

@[simp] theorem State.setSlot_pacer (s : State) (r : Nat) (x : Slot) :
    (s.setSlot r x).pacer = s.pacer := rfl

@[simp] theorem State.setSlot_chain (s : State) (r : Nat) (x : Slot) :
    (s.setSlot r x).chain = s.chain := rfl

@[simp] theorem State.setSlot_canes (s : State) (r : Nat) (x : Slot) :
    (s.setSlot r x).canes = s.canes := rfl

@[simp] theorem State.setSlot_drying (s : State) (r : Nat) (x : Slot) :
    (s.setSlot r x).drying = s.drying := rfl

@[simp] theorem State.setSlot_climate (s : State) (r : Nat) (x : Slot) :
    (s.setSlot r x).climate = s.climate := rfl

@[simp] theorem State.setSlot_discharge (s : State) (r : Nat) (x : Slot) :
    (s.setSlot r x).discharge = s.discharge := rfl

@[simp] theorem State.setSlot_sequencer (s : State) (r : Nat) (x : Slot) :
    (s.setSlot r x).sequencer = s.sequencer := rfl

@[simp] theorem State.setSlot_signals (s : State) (r : Nat) (x : Slot) :
    (s.setSlot r x).signals = { s.signals with slots := s.signals.slots.set r x } := rfl

@[simp] theorem State.setSlot_port (s : State) (r : Nat) (x : Slot) :
    (s.setSlot r x).port = s.port := rfl

@[simp] theorem State.setSlot_agent (s : State) (r : Nat) (x : Slot) :
    (s.setSlot r x).agent = s.agent := rfl

@[simp] theorem State.setSlot_line (s : State) (r : Nat) (x : Slot) :
    (s.setSlot r x).line = s.line := rfl

@[simp] theorem State.setSlot_handed (s : State) (r : Nat) (x : Slot) :
    (s.setSlot r x).handed = s.handed := rfl

@[simp] theorem State.setSlot_pending (s : State) (r : Nat) (x : Slot) :
    (s.setSlot r x).pending = s.pending := rfl

/-! ## State.setZone -/

@[simp] theorem State.setZone_clock (s : State) (k : Nat) (z : ZoneState) :
    (s.setZone k z).clock = s.clock := rfl

@[simp] theorem State.setZone_lineTime (s : State) (k : Nat) (z : ZoneState) :
    (s.setZone k z).lineTime = s.lineTime := rfl

@[simp] theorem State.setZone_lots (s : State) (k : Nat) (z : ZoneState) :
    (s.setZone k z).lots = s.lots := rfl

@[simp] theorem State.setZone_pacer (s : State) (k : Nat) (z : ZoneState) :
    (s.setZone k z).pacer = s.pacer := rfl

@[simp] theorem State.setZone_chain (s : State) (k : Nat) (z : ZoneState) :
    (s.setZone k z).chain = s.chain := rfl

@[simp] theorem State.setZone_canes (s : State) (k : Nat) (z : ZoneState) :
    (s.setZone k z).canes = s.canes := rfl

@[simp] theorem State.setZone_drying (s : State) (k : Nat) (z : ZoneState) :
    (s.setZone k z).drying = s.drying := rfl

@[simp] theorem State.setZone_climate (s : State) (k : Nat) (z : ZoneState) :
    (s.setZone k z).climate = { s.climate with zones := s.climate.zones.set k z } := rfl

@[simp] theorem State.setZone_discharge (s : State) (k : Nat) (z : ZoneState) :
    (s.setZone k z).discharge = s.discharge := rfl

@[simp] theorem State.setZone_sequencer (s : State) (k : Nat) (z : ZoneState) :
    (s.setZone k z).sequencer = s.sequencer := rfl

@[simp] theorem State.setZone_signals (s : State) (k : Nat) (z : ZoneState) :
    (s.setZone k z).signals = s.signals := rfl

@[simp] theorem State.setZone_port (s : State) (k : Nat) (z : ZoneState) :
    (s.setZone k z).port = s.port := rfl

@[simp] theorem State.setZone_agent (s : State) (k : Nat) (z : ZoneState) :
    (s.setZone k z).agent = s.agent := rfl

@[simp] theorem State.setZone_line (s : State) (k : Nat) (z : ZoneState) :
    (s.setZone k z).line = s.line := rfl

@[simp] theorem State.setZone_handed (s : State) (k : Nat) (z : ZoneState) :
    (s.setZone k z).handed = s.handed := rfl

@[simp] theorem State.setZone_pending (s : State) (k : Nat) (z : ZoneState) :
    (s.setZone k z).pending = s.pending := rfl

/-! ## State.setLoss -/

@[simp] theorem State.setLoss_clock (s : State) (k : Nat) (t : LatchTimer) (m : Bool) :
    (s.setLoss k t m).clock = s.clock := rfl

@[simp] theorem State.setLoss_lineTime (s : State) (k : Nat) (t : LatchTimer) (m : Bool) :
    (s.setLoss k t m).lineTime = s.lineTime := rfl

@[simp] theorem State.setLoss_lots (s : State) (k : Nat) (t : LatchTimer) (m : Bool) :
    (s.setLoss k t m).lots = s.lots := rfl

@[simp] theorem State.setLoss_pacer (s : State) (k : Nat) (t : LatchTimer) (m : Bool) :
    (s.setLoss k t m).pacer = s.pacer := rfl

@[simp] theorem State.setLoss_chain (s : State) (k : Nat) (t : LatchTimer) (m : Bool) :
    (s.setLoss k t m).chain = s.chain := rfl

@[simp] theorem State.setLoss_canes (s : State) (k : Nat) (t : LatchTimer) (m : Bool) :
    (s.setLoss k t m).canes = s.canes := rfl

@[simp] theorem State.setLoss_drying (s : State) (k : Nat) (t : LatchTimer) (m : Bool) :
    (s.setLoss k t m).drying = s.drying := rfl

@[simp] theorem State.setLoss_climate (s : State) (k : Nat) (t : LatchTimer) (m : Bool) :
    (s.setLoss k t m).climate = s.climate := rfl

@[simp] theorem State.setLoss_discharge (s : State) (k : Nat) (t : LatchTimer) (m : Bool) :
    (s.setLoss k t m).discharge = s.discharge := rfl

@[simp] theorem State.setLoss_sequencer (s : State) (k : Nat) (t : LatchTimer) (m : Bool) :
    (s.setLoss k t m).sequencer = { s.sequencer with
      lossTimers := s.sequencer.lossTimers.set k t, lossRaised := s.sequencer.lossRaised.set k m } := rfl

@[simp] theorem State.setLoss_signals (s : State) (k : Nat) (t : LatchTimer) (m : Bool) :
    (s.setLoss k t m).signals = s.signals := rfl

@[simp] theorem State.setLoss_port (s : State) (k : Nat) (t : LatchTimer) (m : Bool) :
    (s.setLoss k t m).port = s.port := rfl

@[simp] theorem State.setLoss_agent (s : State) (k : Nat) (t : LatchTimer) (m : Bool) :
    (s.setLoss k t m).agent = s.agent := rfl

@[simp] theorem State.setLoss_line (s : State) (k : Nat) (t : LatchTimer) (m : Bool) :
    (s.setLoss k t m).line = s.line := rfl

@[simp] theorem State.setLoss_handed (s : State) (k : Nat) (t : LatchTimer) (m : Bool) :
    (s.setLoss k t m).handed = s.handed := rfl

@[simp] theorem State.setLoss_pending (s : State) (k : Nat) (t : LatchTimer) (m : Bool) :
    (s.setLoss k t m).pending = s.pending := rfl

/-! ## setPacerState -/

@[simp] theorem setPacerState_clock (st : PacerState) (s : State) :
    (setPacerState st s).clock = s.clock := rfl

@[simp] theorem setPacerState_lineTime (st : PacerState) (s : State) :
    (setPacerState st s).lineTime = s.lineTime := rfl

@[simp] theorem setPacerState_lots (st : PacerState) (s : State) :
    (setPacerState st s).lots = s.lots := rfl

@[simp] theorem setPacerState_pacer (st : PacerState) (s : State) :
    (setPacerState st s).pacer = { s.pacer with state := st } := rfl

@[simp] theorem setPacerState_chain (st : PacerState) (s : State) :
    (setPacerState st s).chain = s.chain := rfl

@[simp] theorem setPacerState_canes (st : PacerState) (s : State) :
    (setPacerState st s).canes = s.canes := rfl

@[simp] theorem setPacerState_drying (st : PacerState) (s : State) :
    (setPacerState st s).drying = s.drying := rfl

@[simp] theorem setPacerState_climate (st : PacerState) (s : State) :
    (setPacerState st s).climate = s.climate := rfl

@[simp] theorem setPacerState_discharge (st : PacerState) (s : State) :
    (setPacerState st s).discharge = s.discharge := rfl

@[simp] theorem setPacerState_sequencer (st : PacerState) (s : State) :
    (setPacerState st s).sequencer = s.sequencer := rfl

@[simp] theorem setPacerState_signals (st : PacerState) (s : State) :
    (setPacerState st s).signals = s.signals := rfl

@[simp] theorem setPacerState_port (st : PacerState) (s : State) :
    (setPacerState st s).port = s.port := rfl

@[simp] theorem setPacerState_agent (st : PacerState) (s : State) :
    (setPacerState st s).agent = s.agent := rfl

@[simp] theorem setPacerState_line (st : PacerState) (s : State) :
    (setPacerState st s).line = s.line := rfl

@[simp] theorem setPacerState_handed (st : PacerState) (s : State) :
    (setPacerState st s).handed = s.handed := rfl

@[simp] theorem setPacerState_pending (st : PacerState) (s : State) :
    (setPacerState st s).pending = s.pending := rfl

/-! ## setMode -/

@[simp] theorem setMode_clock (m : LineMode) (s : State) :
    (setMode m s).clock = s.clock := rfl

@[simp] theorem setMode_lineTime (m : LineMode) (s : State) :
    (setMode m s).lineTime = s.lineTime := rfl

@[simp] theorem setMode_lots (m : LineMode) (s : State) :
    (setMode m s).lots = s.lots := rfl

@[simp] theorem setMode_pacer (m : LineMode) (s : State) :
    (setMode m s).pacer = s.pacer := rfl

@[simp] theorem setMode_chain (m : LineMode) (s : State) :
    (setMode m s).chain = s.chain := rfl

@[simp] theorem setMode_canes (m : LineMode) (s : State) :
    (setMode m s).canes = s.canes := rfl

@[simp] theorem setMode_drying (m : LineMode) (s : State) :
    (setMode m s).drying = s.drying := rfl

@[simp] theorem setMode_climate (m : LineMode) (s : State) :
    (setMode m s).climate = s.climate := rfl

@[simp] theorem setMode_discharge (m : LineMode) (s : State) :
    (setMode m s).discharge = s.discharge := rfl

@[simp] theorem setMode_sequencer (m : LineMode) (s : State) :
    (setMode m s).sequencer = { s.sequencer with mode := m } := rfl

@[simp] theorem setMode_signals (m : LineMode) (s : State) :
    (setMode m s).signals = s.signals := rfl

@[simp] theorem setMode_port (m : LineMode) (s : State) :
    (setMode m s).port = s.port := rfl

@[simp] theorem setMode_agent (m : LineMode) (s : State) :
    (setMode m s).agent = s.agent := rfl

@[simp] theorem setMode_line (m : LineMode) (s : State) :
    (setMode m s).line = s.line := rfl

@[simp] theorem setMode_handed (m : LineMode) (s : State) :
    (setMode m s).handed = s.handed := rfl

@[simp] theorem setMode_pending (m : LineMode) (s : State) :
    (setMode m s).pending = s.pending := rfl

/-! ## setArmed -/

@[simp] theorem setArmed_clock (a : Option Nat) (s : State) :
    (setArmed a s).clock = s.clock := rfl

@[simp] theorem setArmed_lineTime (a : Option Nat) (s : State) :
    (setArmed a s).lineTime = s.lineTime := rfl

@[simp] theorem setArmed_lots (a : Option Nat) (s : State) :
    (setArmed a s).lots = { s.lots with armed := a } := rfl

@[simp] theorem setArmed_pacer (a : Option Nat) (s : State) :
    (setArmed a s).pacer = s.pacer := rfl

@[simp] theorem setArmed_chain (a : Option Nat) (s : State) :
    (setArmed a s).chain = s.chain := rfl

@[simp] theorem setArmed_canes (a : Option Nat) (s : State) :
    (setArmed a s).canes = s.canes := rfl

@[simp] theorem setArmed_drying (a : Option Nat) (s : State) :
    (setArmed a s).drying = s.drying := rfl

@[simp] theorem setArmed_climate (a : Option Nat) (s : State) :
    (setArmed a s).climate = s.climate := rfl

@[simp] theorem setArmed_discharge (a : Option Nat) (s : State) :
    (setArmed a s).discharge = s.discharge := rfl

@[simp] theorem setArmed_sequencer (a : Option Nat) (s : State) :
    (setArmed a s).sequencer = s.sequencer := rfl

@[simp] theorem setArmed_signals (a : Option Nat) (s : State) :
    (setArmed a s).signals = s.signals := rfl

@[simp] theorem setArmed_port (a : Option Nat) (s : State) :
    (setArmed a s).port = s.port := rfl

@[simp] theorem setArmed_agent (a : Option Nat) (s : State) :
    (setArmed a s).agent = s.agent := rfl

@[simp] theorem setArmed_line (a : Option Nat) (s : State) :
    (setArmed a s).line = s.line := rfl

@[simp] theorem setArmed_handed (a : Option Nat) (s : State) :
    (setArmed a s).handed = s.handed := rfl

@[simp] theorem setArmed_pending (a : Option Nat) (s : State) :
    (setArmed a s).pending = s.pending := rfl

/-! ## setTrunk -/

@[simp] theorem setTrunk_clock (t : TrunkState) (r : Reception) (s : State) :
    (setTrunk t r s).clock = s.clock := rfl

@[simp] theorem setTrunk_lineTime (t : TrunkState) (r : Reception) (s : State) :
    (setTrunk t r s).lineTime = s.lineTime := rfl

@[simp] theorem setTrunk_lots (t : TrunkState) (r : Reception) (s : State) :
    (setTrunk t r s).lots = s.lots := rfl

@[simp] theorem setTrunk_pacer (t : TrunkState) (r : Reception) (s : State) :
    (setTrunk t r s).pacer = s.pacer := rfl

@[simp] theorem setTrunk_chain (t : TrunkState) (r : Reception) (s : State) :
    (setTrunk t r s).chain = s.chain := rfl

@[simp] theorem setTrunk_canes (t : TrunkState) (r : Reception) (s : State) :
    (setTrunk t r s).canes = s.canes := rfl

@[simp] theorem setTrunk_drying (t : TrunkState) (r : Reception) (s : State) :
    (setTrunk t r s).drying = s.drying := rfl

@[simp] theorem setTrunk_climate (t : TrunkState) (r : Reception) (s : State) :
    (setTrunk t r s).climate = s.climate := rfl

@[simp] theorem setTrunk_discharge (t : TrunkState) (r : Reception) (s : State) :
    (setTrunk t r s).discharge = s.discharge := rfl

@[simp] theorem setTrunk_sequencer (t : TrunkState) (r : Reception) (s : State) :
    (setTrunk t r s).sequencer = s.sequencer := rfl

@[simp] theorem setTrunk_signals (t : TrunkState) (r : Reception) (s : State) :
    (setTrunk t r s).signals = s.signals := rfl

@[simp] theorem setTrunk_port (t : TrunkState) (r : Reception) (s : State) :
    (setTrunk t r s).port = { s.port with trunk := t, reception := r } := rfl

@[simp] theorem setTrunk_agent (t : TrunkState) (r : Reception) (s : State) :
    (setTrunk t r s).agent = s.agent := rfl

@[simp] theorem setTrunk_line (t : TrunkState) (r : Reception) (s : State) :
    (setTrunk t r s).line = s.line := rfl

@[simp] theorem setTrunk_handed (t : TrunkState) (r : Reception) (s : State) :
    (setTrunk t r s).handed = s.handed := rfl

@[simp] theorem setTrunk_pending (t : TrunkState) (r : Reception) (s : State) :
    (setTrunk t r s).pending = s.pending := rfl

/-! ## popDirective -/

@[simp] theorem popDirective_clock (s : State) :
    (popDirective s).clock = s.clock := rfl

@[simp] theorem popDirective_lineTime (s : State) :
    (popDirective s).lineTime = s.lineTime := rfl

@[simp] theorem popDirective_lots (s : State) :
    (popDirective s).lots = s.lots := rfl

@[simp] theorem popDirective_pacer (s : State) :
    (popDirective s).pacer = s.pacer := rfl

@[simp] theorem popDirective_chain (s : State) :
    (popDirective s).chain = s.chain := rfl

@[simp] theorem popDirective_canes (s : State) :
    (popDirective s).canes = s.canes := rfl

@[simp] theorem popDirective_drying (s : State) :
    (popDirective s).drying = s.drying := rfl

@[simp] theorem popDirective_climate (s : State) :
    (popDirective s).climate = s.climate := rfl

@[simp] theorem popDirective_discharge (s : State) :
    (popDirective s).discharge = s.discharge := rfl

@[simp] theorem popDirective_sequencer (s : State) :
    (popDirective s).sequencer = s.sequencer := rfl

@[simp] theorem popDirective_signals (s : State) :
    (popDirective s).signals = s.signals := rfl

@[simp] theorem popDirective_port (s : State) :
    (popDirective s).port = s.port := rfl

@[simp] theorem popDirective_agent (s : State) :
    (popDirective s).agent = { s.agent with directives := s.agent.directives.tail } := rfl

@[simp] theorem popDirective_line (s : State) :
    (popDirective s).line = s.line := rfl

@[simp] theorem popDirective_handed (s : State) :
    (popDirective s).handed = s.handed := rfl

@[simp] theorem popDirective_pending (s : State) :
    (popDirective s).pending = s.pending := rfl

end Sys2Proof.Machine
end

