-- ==== Sys2Proof/Laws/Frames.lean ====
section
/-!
SUPPORT. The frames of the shared operations: for each operation, one lemma for each field of State that it never
touches.
-/

namespace Sys2Proof.Machine

/-- What every pass of `forEach` keeps, `forEach` keeps. -/
theorem forEach_keeps {α : Type} (g : State → α) (f : Nat → State → State) (h : ∀ k t, g (f k t) = g t) (n : Nat)
    (s : State) : g (forEach n f s) = g s := by
  unfold forEach
  generalize List.range n = ks
  induction ks generalizing s with
  | nil => rfl
  | cons k ks ih => simp only [List.foldl_cons]; rw [ih, h]

/-! ## handFrame -/

@[simp] theorem handFrame_clock (dest : Nat) (body : FrameBody) (s : State) :
    (handFrame dest body s).clock = s.clock := by
  simp only [handFrame]; (repeat' split) <;> simp

@[simp] theorem handFrame_lineTime (dest : Nat) (body : FrameBody) (s : State) :
    (handFrame dest body s).lineTime = s.lineTime := by
  simp only [handFrame]; (repeat' split) <;> simp

@[simp] theorem handFrame_lots (dest : Nat) (body : FrameBody) (s : State) :
    (handFrame dest body s).lots = s.lots := by
  simp only [handFrame]; (repeat' split) <;> simp

@[simp] theorem handFrame_pacer (dest : Nat) (body : FrameBody) (s : State) :
    (handFrame dest body s).pacer = s.pacer := by
  simp only [handFrame]; (repeat' split) <;> simp

@[simp] theorem handFrame_chain (dest : Nat) (body : FrameBody) (s : State) :
    (handFrame dest body s).chain = s.chain := by
  simp only [handFrame]; (repeat' split) <;> simp

@[simp] theorem handFrame_canes (dest : Nat) (body : FrameBody) (s : State) :
    (handFrame dest body s).canes = s.canes := by
  simp only [handFrame]; (repeat' split) <;> simp

@[simp] theorem handFrame_drying (dest : Nat) (body : FrameBody) (s : State) :
    (handFrame dest body s).drying = s.drying := by
  simp only [handFrame]; (repeat' split) <;> simp

@[simp] theorem handFrame_climate (dest : Nat) (body : FrameBody) (s : State) :
    (handFrame dest body s).climate = s.climate := by
  simp only [handFrame]; (repeat' split) <;> simp

@[simp] theorem handFrame_discharge (dest : Nat) (body : FrameBody) (s : State) :
    (handFrame dest body s).discharge = s.discharge := by
  simp only [handFrame]; (repeat' split) <;> simp

@[simp] theorem handFrame_sequencer (dest : Nat) (body : FrameBody) (s : State) :
    (handFrame dest body s).sequencer = s.sequencer := by
  simp only [handFrame]; (repeat' split) <;> simp

@[simp] theorem handFrame_signals (dest : Nat) (body : FrameBody) (s : State) :
    (handFrame dest body s).signals = s.signals := by
  simp only [handFrame]; (repeat' split) <;> simp

@[simp] theorem handFrame_agent (dest : Nat) (body : FrameBody) (s : State) :
    (handFrame dest body s).agent = s.agent := by
  simp only [handFrame]; (repeat' split) <;> simp

@[simp] theorem handFrame_line (dest : Nat) (body : FrameBody) (s : State) :
    (handFrame dest body s).line = s.line := by
  simp only [handFrame]; (repeat' split) <;> simp

@[simp] theorem handFrame_pending (dest : Nat) (body : FrameBody) (s : State) :
    (handFrame dest body s).pending = s.pending := by
  simp only [handFrame]; (repeat' split) <;> simp

/-! ## queueReport -/

@[simp] theorem queueReport_clock (r : Report) (s : State) :
    (queueReport r s).clock = s.clock := by
  simp only [queueReport]; (repeat' split) <;> simp

@[simp] theorem queueReport_lineTime (r : Report) (s : State) :
    (queueReport r s).lineTime = s.lineTime := by
  simp only [queueReport]; (repeat' split) <;> simp

@[simp] theorem queueReport_lots (r : Report) (s : State) :
    (queueReport r s).lots = s.lots := by
  simp only [queueReport]; (repeat' split) <;> simp

@[simp] theorem queueReport_pacer (r : Report) (s : State) :
    (queueReport r s).pacer = s.pacer := by
  simp only [queueReport]; (repeat' split) <;> simp

@[simp] theorem queueReport_chain (r : Report) (s : State) :
    (queueReport r s).chain = s.chain := by
  simp only [queueReport]; (repeat' split) <;> simp

@[simp] theorem queueReport_canes (r : Report) (s : State) :
    (queueReport r s).canes = s.canes := by
  simp only [queueReport]; (repeat' split) <;> simp

@[simp] theorem queueReport_drying (r : Report) (s : State) :
    (queueReport r s).drying = s.drying := by
  simp only [queueReport]; (repeat' split) <;> simp

@[simp] theorem queueReport_climate (r : Report) (s : State) :
    (queueReport r s).climate = s.climate := by
  simp only [queueReport]; (repeat' split) <;> simp

@[simp] theorem queueReport_discharge (r : Report) (s : State) :
    (queueReport r s).discharge = s.discharge := by
  simp only [queueReport]; (repeat' split) <;> simp

@[simp] theorem queueReport_sequencer (r : Report) (s : State) :
    (queueReport r s).sequencer = s.sequencer := by
  simp only [queueReport]; (repeat' split) <;> simp

@[simp] theorem queueReport_signals (r : Report) (s : State) :
    (queueReport r s).signals = s.signals := by
  simp only [queueReport]; (repeat' split) <;> simp

@[simp] theorem queueReport_line (r : Report) (s : State) :
    (queueReport r s).line = s.line := by
  simp only [queueReport]; (repeat' split) <;> simp

@[simp] theorem queueReport_pending (r : Report) (s : State) :
    (queueReport r s).pending = s.pending := by
  simp only [queueReport]; (repeat' split) <;> simp

/-! ## freeLot -/

@[simp] theorem freeLot_clock (i : Nat) (s : State) :
    (freeLot i s).clock = s.clock := by
  simp [freeLot]

@[simp] theorem freeLot_lineTime (i : Nat) (s : State) :
    (freeLot i s).lineTime = s.lineTime := by
  simp [freeLot]

@[simp] theorem freeLot_pacer (i : Nat) (s : State) :
    (freeLot i s).pacer = s.pacer := by
  simp [freeLot]

@[simp] theorem freeLot_chain (i : Nat) (s : State) :
    (freeLot i s).chain = s.chain := by
  simp [freeLot]

@[simp] theorem freeLot_canes (i : Nat) (s : State) :
    (freeLot i s).canes = s.canes := by
  simp [freeLot]

@[simp] theorem freeLot_drying (i : Nat) (s : State) :
    (freeLot i s).drying = s.drying := by
  simp [freeLot]

@[simp] theorem freeLot_climate (i : Nat) (s : State) :
    (freeLot i s).climate = s.climate := by
  simp [freeLot]

@[simp] theorem freeLot_discharge (i : Nat) (s : State) :
    (freeLot i s).discharge = s.discharge := by
  simp [freeLot]

@[simp] theorem freeLot_sequencer (i : Nat) (s : State) :
    (freeLot i s).sequencer = s.sequencer := by
  simp [freeLot]

@[simp] theorem freeLot_signals (i : Nat) (s : State) :
    (freeLot i s).signals = s.signals := by
  simp [freeLot]

@[simp] theorem freeLot_line (i : Nat) (s : State) :
    (freeLot i s).line = s.line := by
  simp [freeLot]

@[simp] theorem freeLot_pending (i : Nat) (s : State) :
    (freeLot i s).pending = s.pending := by
  simp [freeLot]

/-! ## freeIfRetired -/

@[simp] theorem freeIfRetired_clock (i : Nat) (s : State) :
    (freeIfRetired i s).clock = s.clock := by
  simp only [freeIfRetired]; (repeat' split) <;> simp

@[simp] theorem freeIfRetired_lineTime (i : Nat) (s : State) :
    (freeIfRetired i s).lineTime = s.lineTime := by
  simp only [freeIfRetired]; (repeat' split) <;> simp

@[simp] theorem freeIfRetired_pacer (i : Nat) (s : State) :
    (freeIfRetired i s).pacer = s.pacer := by
  simp only [freeIfRetired]; (repeat' split) <;> simp

@[simp] theorem freeIfRetired_chain (i : Nat) (s : State) :
    (freeIfRetired i s).chain = s.chain := by
  simp only [freeIfRetired]; (repeat' split) <;> simp

@[simp] theorem freeIfRetired_canes (i : Nat) (s : State) :
    (freeIfRetired i s).canes = s.canes := by
  simp only [freeIfRetired]; (repeat' split) <;> simp

@[simp] theorem freeIfRetired_drying (i : Nat) (s : State) :
    (freeIfRetired i s).drying = s.drying := by
  simp only [freeIfRetired]; (repeat' split) <;> simp

@[simp] theorem freeIfRetired_climate (i : Nat) (s : State) :
    (freeIfRetired i s).climate = s.climate := by
  simp only [freeIfRetired]; (repeat' split) <;> simp

@[simp] theorem freeIfRetired_discharge (i : Nat) (s : State) :
    (freeIfRetired i s).discharge = s.discharge := by
  simp only [freeIfRetired]; (repeat' split) <;> simp

@[simp] theorem freeIfRetired_sequencer (i : Nat) (s : State) :
    (freeIfRetired i s).sequencer = s.sequencer := by
  simp only [freeIfRetired]; (repeat' split) <;> simp

@[simp] theorem freeIfRetired_signals (i : Nat) (s : State) :
    (freeIfRetired i s).signals = s.signals := by
  simp only [freeIfRetired]; (repeat' split) <;> simp

@[simp] theorem freeIfRetired_line (i : Nat) (s : State) :
    (freeIfRetired i s).line = s.line := by
  simp only [freeIfRetired]; (repeat' split) <;> simp

@[simp] theorem freeIfRetired_pending (i : Nat) (s : State) :
    (freeIfRetired i s).pending = s.pending := by
  simp only [freeIfRetired]; (repeat' split) <;> simp

/-! ## raiseRef -/

@[simp] theorem raiseRef_clock (i : Nat) (s : State) :
    (raiseRef i s).clock = s.clock := by
  simp [raiseRef]

@[simp] theorem raiseRef_lineTime (i : Nat) (s : State) :
    (raiseRef i s).lineTime = s.lineTime := by
  simp [raiseRef]

@[simp] theorem raiseRef_pacer (i : Nat) (s : State) :
    (raiseRef i s).pacer = s.pacer := by
  simp [raiseRef]

@[simp] theorem raiseRef_chain (i : Nat) (s : State) :
    (raiseRef i s).chain = s.chain := by
  simp [raiseRef]

@[simp] theorem raiseRef_canes (i : Nat) (s : State) :
    (raiseRef i s).canes = s.canes := by
  simp [raiseRef]

@[simp] theorem raiseRef_drying (i : Nat) (s : State) :
    (raiseRef i s).drying = s.drying := by
  simp [raiseRef]

@[simp] theorem raiseRef_climate (i : Nat) (s : State) :
    (raiseRef i s).climate = s.climate := by
  simp [raiseRef]

@[simp] theorem raiseRef_discharge (i : Nat) (s : State) :
    (raiseRef i s).discharge = s.discharge := by
  simp [raiseRef]

@[simp] theorem raiseRef_sequencer (i : Nat) (s : State) :
    (raiseRef i s).sequencer = s.sequencer := by
  simp [raiseRef]

@[simp] theorem raiseRef_signals (i : Nat) (s : State) :
    (raiseRef i s).signals = s.signals := by
  simp [raiseRef]

@[simp] theorem raiseRef_port (i : Nat) (s : State) :
    (raiseRef i s).port = s.port := by
  simp [raiseRef]

@[simp] theorem raiseRef_agent (i : Nat) (s : State) :
    (raiseRef i s).agent = s.agent := by
  simp [raiseRef]

@[simp] theorem raiseRef_line (i : Nat) (s : State) :
    (raiseRef i s).line = s.line := by
  simp [raiseRef]

@[simp] theorem raiseRef_handed (i : Nat) (s : State) :
    (raiseRef i s).handed = s.handed := by
  simp [raiseRef]

@[simp] theorem raiseRef_pending (i : Nat) (s : State) :
    (raiseRef i s).pending = s.pending := by
  simp [raiseRef]

/-! ## releaseRef -/

@[simp] theorem releaseRef_clock (i : Nat) (s : State) :
    (releaseRef i s).clock = s.clock := by
  simp [releaseRef]

@[simp] theorem releaseRef_lineTime (i : Nat) (s : State) :
    (releaseRef i s).lineTime = s.lineTime := by
  simp [releaseRef]

@[simp] theorem releaseRef_pacer (i : Nat) (s : State) :
    (releaseRef i s).pacer = s.pacer := by
  simp [releaseRef]

@[simp] theorem releaseRef_chain (i : Nat) (s : State) :
    (releaseRef i s).chain = s.chain := by
  simp [releaseRef]

@[simp] theorem releaseRef_canes (i : Nat) (s : State) :
    (releaseRef i s).canes = s.canes := by
  simp [releaseRef]

@[simp] theorem releaseRef_drying (i : Nat) (s : State) :
    (releaseRef i s).drying = s.drying := by
  simp [releaseRef]

@[simp] theorem releaseRef_climate (i : Nat) (s : State) :
    (releaseRef i s).climate = s.climate := by
  simp [releaseRef]

@[simp] theorem releaseRef_discharge (i : Nat) (s : State) :
    (releaseRef i s).discharge = s.discharge := by
  simp [releaseRef]

@[simp] theorem releaseRef_sequencer (i : Nat) (s : State) :
    (releaseRef i s).sequencer = s.sequencer := by
  simp [releaseRef]

@[simp] theorem releaseRef_signals (i : Nat) (s : State) :
    (releaseRef i s).signals = s.signals := by
  simp [releaseRef]

@[simp] theorem releaseRef_line (i : Nat) (s : State) :
    (releaseRef i s).line = s.line := by
  simp [releaseRef]

@[simp] theorem releaseRef_pending (i : Nat) (s : State) :
    (releaseRef i s).pending = s.pending := by
  simp [releaseRef]

/-! ## setStepState -/

@[simp] theorem setStepState_clock (st : StepState) (s : State) :
    (setStepState st s).clock = s.clock := rfl

@[simp] theorem setStepState_lineTime (st : StepState) (s : State) :
    (setStepState st s).lineTime = s.lineTime := rfl

@[simp] theorem setStepState_lots (st : StepState) (s : State) :
    (setStepState st s).lots = s.lots := rfl

@[simp] theorem setStepState_pacer (st : StepState) (s : State) :
    (setStepState st s).pacer = s.pacer := rfl

@[simp] theorem setStepState_canes (st : StepState) (s : State) :
    (setStepState st s).canes = s.canes := rfl

@[simp] theorem setStepState_drying (st : StepState) (s : State) :
    (setStepState st s).drying = s.drying := rfl

@[simp] theorem setStepState_climate (st : StepState) (s : State) :
    (setStepState st s).climate = s.climate := rfl

@[simp] theorem setStepState_sequencer (st : StepState) (s : State) :
    (setStepState st s).sequencer = s.sequencer := rfl

@[simp] theorem setStepState_signals (st : StepState) (s : State) :
    (setStepState st s).signals = s.signals := rfl

@[simp] theorem setStepState_port (st : StepState) (s : State) :
    (setStepState st s).port = s.port := rfl

@[simp] theorem setStepState_agent (st : StepState) (s : State) :
    (setStepState st s).agent = s.agent := rfl

@[simp] theorem setStepState_line (st : StepState) (s : State) :
    (setStepState st s).line = s.line := rfl

@[simp] theorem setStepState_handed (st : StepState) (s : State) :
    (setStepState st s).handed = s.handed := rfl

@[simp] theorem setStepState_pending (st : StepState) (s : State) :
    (setStepState st s).pending = s.pending := rfl

/-! ## sendStep -/

@[simp] theorem sendStep_clock (c : Cane) (dest : Nat) (s : State) :
    (sendStep c dest s).clock = s.clock := by
  simp [sendStep]

@[simp] theorem sendStep_lineTime (c : Cane) (dest : Nat) (s : State) :
    (sendStep c dest s).lineTime = s.lineTime := by
  simp [sendStep]

@[simp] theorem sendStep_lots (c : Cane) (dest : Nat) (s : State) :
    (sendStep c dest s).lots = s.lots := by
  simp [sendStep]

@[simp] theorem sendStep_pacer (c : Cane) (dest : Nat) (s : State) :
    (sendStep c dest s).pacer = s.pacer := by
  simp [sendStep]

@[simp] theorem sendStep_canes (c : Cane) (dest : Nat) (s : State) :
    (sendStep c dest s).canes = s.canes := by
  simp [sendStep]

@[simp] theorem sendStep_drying (c : Cane) (dest : Nat) (s : State) :
    (sendStep c dest s).drying = s.drying := by
  simp [sendStep]

@[simp] theorem sendStep_climate (c : Cane) (dest : Nat) (s : State) :
    (sendStep c dest s).climate = s.climate := by
  simp [sendStep]

@[simp] theorem sendStep_sequencer (c : Cane) (dest : Nat) (s : State) :
    (sendStep c dest s).sequencer = s.sequencer := by
  simp [sendStep]

@[simp] theorem sendStep_signals (c : Cane) (dest : Nat) (s : State) :
    (sendStep c dest s).signals = s.signals := by
  simp [sendStep]

@[simp] theorem sendStep_agent (c : Cane) (dest : Nat) (s : State) :
    (sendStep c dest s).agent = s.agent := by
  simp [sendStep]

@[simp] theorem sendStep_line (c : Cane) (dest : Nat) (s : State) :
    (sendStep c dest s).line = s.line := by
  simp [sendStep]

@[simp] theorem sendStep_pending (c : Cane) (dest : Nat) (s : State) :
    (sendStep c dest s).pending = s.pending := by
  simp [sendStep]

/-! ## evaluateChain -/

@[simp] theorem evaluateChain_clock (s : State) :
    (evaluateChain s).clock = s.clock := by
  simp only [evaluateChain]; (repeat' split) <;> simp

@[simp] theorem evaluateChain_lineTime (s : State) :
    (evaluateChain s).lineTime = s.lineTime := by
  simp only [evaluateChain]; (repeat' split) <;> simp

@[simp] theorem evaluateChain_lots (s : State) :
    (evaluateChain s).lots = s.lots := by
  simp only [evaluateChain]; (repeat' split) <;> simp

@[simp] theorem evaluateChain_pacer (s : State) :
    (evaluateChain s).pacer = s.pacer := by
  simp only [evaluateChain]; (repeat' split) <;> simp

@[simp] theorem evaluateChain_canes (s : State) :
    (evaluateChain s).canes = s.canes := by
  simp only [evaluateChain]; (repeat' split) <;> simp

@[simp] theorem evaluateChain_drying (s : State) :
    (evaluateChain s).drying = s.drying := by
  simp only [evaluateChain]; (repeat' split) <;> simp

@[simp] theorem evaluateChain_climate (s : State) :
    (evaluateChain s).climate = s.climate := by
  simp only [evaluateChain]; (repeat' split) <;> simp

@[simp] theorem evaluateChain_sequencer (s : State) :
    (evaluateChain s).sequencer = s.sequencer := by
  simp only [evaluateChain]; (repeat' split) <;> simp

@[simp] theorem evaluateChain_signals (s : State) :
    (evaluateChain s).signals = s.signals := by
  simp only [evaluateChain]; (repeat' split) <;> simp

@[simp] theorem evaluateChain_agent (s : State) :
    (evaluateChain s).agent = s.agent := by
  simp only [evaluateChain]; (repeat' split) <;> simp

@[simp] theorem evaluateChain_line (s : State) :
    (evaluateChain s).line = s.line := by
  simp only [evaluateChain]; (repeat' split) <;> simp

@[simp] theorem evaluateChain_pending (s : State) :
    (evaluateChain s).pending = s.pending := by
  simp only [evaluateChain]; (repeat' split) <;> simp

/-! ## placeRecord -/

@[simp] theorem placeRecord_clock (p : Option Product) (s : State) :
    (placeRecord p s).clock = s.clock := by
  simp [placeRecord]

@[simp] theorem placeRecord_lineTime (p : Option Product) (s : State) :
    (placeRecord p s).lineTime = s.lineTime := by
  simp [placeRecord]

@[simp] theorem placeRecord_lots (p : Option Product) (s : State) :
    (placeRecord p s).lots = s.lots := by
  simp [placeRecord]

@[simp] theorem placeRecord_pacer (p : Option Product) (s : State) :
    (placeRecord p s).pacer = s.pacer := by
  simp [placeRecord]

@[simp] theorem placeRecord_drying (p : Option Product) (s : State) :
    (placeRecord p s).drying = s.drying := by
  simp [placeRecord]

@[simp] theorem placeRecord_climate (p : Option Product) (s : State) :
    (placeRecord p s).climate = s.climate := by
  simp [placeRecord]

@[simp] theorem placeRecord_sequencer (p : Option Product) (s : State) :
    (placeRecord p s).sequencer = s.sequencer := by
  simp [placeRecord]

@[simp] theorem placeRecord_signals (p : Option Product) (s : State) :
    (placeRecord p s).signals = s.signals := by
  simp [placeRecord]

@[simp] theorem placeRecord_agent (p : Option Product) (s : State) :
    (placeRecord p s).agent = s.agent := by
  simp [placeRecord]

@[simp] theorem placeRecord_line (p : Option Product) (s : State) :
    (placeRecord p s).line = s.line := by
  simp [placeRecord]

@[simp] theorem placeRecord_pending (p : Option Product) (s : State) :
    (placeRecord p s).pending = s.pending := by
  simp [placeRecord]

/-! ## tryInsertion -/

@[simp] theorem tryInsertion_clock (s : State) :
    (tryInsertion s).clock = s.clock := by
  simp only [tryInsertion]; (repeat' split) <;> simp

@[simp] theorem tryInsertion_lineTime (s : State) :
    (tryInsertion s).lineTime = s.lineTime := by
  simp only [tryInsertion]; (repeat' split) <;> simp

@[simp] theorem tryInsertion_lots (s : State) :
    (tryInsertion s).lots = s.lots := by
  simp only [tryInsertion]; (repeat' split) <;> simp

@[simp] theorem tryInsertion_pacer (s : State) :
    (tryInsertion s).pacer = s.pacer := by
  simp only [tryInsertion]; (repeat' split) <;> simp

@[simp] theorem tryInsertion_drying (s : State) :
    (tryInsertion s).drying = s.drying := by
  simp only [tryInsertion]; (repeat' split) <;> simp

@[simp] theorem tryInsertion_climate (s : State) :
    (tryInsertion s).climate = s.climate := by
  simp only [tryInsertion]; (repeat' split) <;> simp

@[simp] theorem tryInsertion_sequencer (s : State) :
    (tryInsertion s).sequencer = s.sequencer := by
  simp only [tryInsertion]; (repeat' split) <;> simp

@[simp] theorem tryInsertion_signals (s : State) :
    (tryInsertion s).signals = s.signals := by
  simp only [tryInsertion]; (repeat' split) <;> simp

@[simp] theorem tryInsertion_agent (s : State) :
    (tryInsertion s).agent = s.agent := by
  simp only [tryInsertion]; (repeat' split) <;> simp

@[simp] theorem tryInsertion_line (s : State) :
    (tryInsertion s).line = s.line := by
  simp only [tryInsertion]; (repeat' split) <;> simp

@[simp] theorem tryInsertion_pending (s : State) :
    (tryInsertion s).pending = s.pending := by
  simp only [tryInsertion]; (repeat' split) <;> simp

/-! ## sendFire -/

@[simp] theorem sendFire_clock (target dest : Nat) (s : State) :
    (sendFire target dest s).clock = s.clock := by
  simp [sendFire]

@[simp] theorem sendFire_lineTime (target dest : Nat) (s : State) :
    (sendFire target dest s).lineTime = s.lineTime := by
  simp [sendFire]

@[simp] theorem sendFire_lots (target dest : Nat) (s : State) :
    (sendFire target dest s).lots = s.lots := by
  simp [sendFire]

@[simp] theorem sendFire_chain (target dest : Nat) (s : State) :
    (sendFire target dest s).chain = s.chain := by
  simp [sendFire]

@[simp] theorem sendFire_canes (target dest : Nat) (s : State) :
    (sendFire target dest s).canes = s.canes := by
  simp [sendFire]

@[simp] theorem sendFire_drying (target dest : Nat) (s : State) :
    (sendFire target dest s).drying = s.drying := by
  simp [sendFire]

@[simp] theorem sendFire_climate (target dest : Nat) (s : State) :
    (sendFire target dest s).climate = s.climate := by
  simp [sendFire]

@[simp] theorem sendFire_discharge (target dest : Nat) (s : State) :
    (sendFire target dest s).discharge = s.discharge := by
  simp [sendFire]

@[simp] theorem sendFire_sequencer (target dest : Nat) (s : State) :
    (sendFire target dest s).sequencer = s.sequencer := by
  simp [sendFire]

@[simp] theorem sendFire_signals (target dest : Nat) (s : State) :
    (sendFire target dest s).signals = s.signals := by
  simp [sendFire]

@[simp] theorem sendFire_agent (target dest : Nat) (s : State) :
    (sendFire target dest s).agent = s.agent := by
  simp [sendFire]

@[simp] theorem sendFire_line (target dest : Nat) (s : State) :
    (sendFire target dest s).line = s.line := by
  simp [sendFire]

@[simp] theorem sendFire_pending (target dest : Nat) (s : State) :
    (sendFire target dest s).pending = s.pending := by
  simp [sendFire]

/-! ## actOnCondition -/

@[simp] theorem actOnCondition_clock (s : State) :
    (actOnCondition s).clock = s.clock := by
  simp only [actOnCondition]; (repeat' split) <;> simp

@[simp] theorem actOnCondition_lineTime (s : State) :
    (actOnCondition s).lineTime = s.lineTime := by
  simp only [actOnCondition]; (repeat' split) <;> simp

@[simp] theorem actOnCondition_lots (s : State) :
    (actOnCondition s).lots = s.lots := by
  simp only [actOnCondition]; (repeat' split) <;> simp

@[simp] theorem actOnCondition_chain (s : State) :
    (actOnCondition s).chain = s.chain := by
  simp only [actOnCondition]; (repeat' split) <;> simp

@[simp] theorem actOnCondition_canes (s : State) :
    (actOnCondition s).canes = s.canes := by
  simp only [actOnCondition]; (repeat' split) <;> simp

@[simp] theorem actOnCondition_drying (s : State) :
    (actOnCondition s).drying = s.drying := by
  simp only [actOnCondition]; (repeat' split) <;> simp

@[simp] theorem actOnCondition_climate (s : State) :
    (actOnCondition s).climate = s.climate := by
  simp only [actOnCondition]; (repeat' split) <;> simp

@[simp] theorem actOnCondition_discharge (s : State) :
    (actOnCondition s).discharge = s.discharge := by
  simp only [actOnCondition]; (repeat' split) <;> simp

@[simp] theorem actOnCondition_sequencer (s : State) :
    (actOnCondition s).sequencer = s.sequencer := by
  simp only [actOnCondition]; (repeat' split) <;> simp

@[simp] theorem actOnCondition_signals (s : State) :
    (actOnCondition s).signals = s.signals := by
  simp only [actOnCondition]; (repeat' split) <;> simp

@[simp] theorem actOnCondition_agent (s : State) :
    (actOnCondition s).agent = s.agent := by
  simp only [actOnCondition]; (repeat' split) <;> simp

@[simp] theorem actOnCondition_line (s : State) :
    (actOnCondition s).line = s.line := by
  simp only [actOnCondition]; (repeat' split) <;> simp

@[simp] theorem actOnCondition_pending (s : State) :
    (actOnCondition s).pending = s.pending := by
  simp only [actOnCondition]; (repeat' split) <;> simp

/-! ## evaluateFire -/

@[simp] theorem evaluateFire_clock (s : State) :
    (evaluateFire s).clock = s.clock := by
  simp only [evaluateFire]; (repeat' split) <;> simp

@[simp] theorem evaluateFire_lineTime (s : State) :
    (evaluateFire s).lineTime = s.lineTime := by
  simp only [evaluateFire]; (repeat' split) <;> simp

@[simp] theorem evaluateFire_lots (s : State) :
    (evaluateFire s).lots = s.lots := by
  simp only [evaluateFire]; (repeat' split) <;> simp

@[simp] theorem evaluateFire_chain (s : State) :
    (evaluateFire s).chain = s.chain := by
  simp only [evaluateFire]; (repeat' split) <;> simp

@[simp] theorem evaluateFire_canes (s : State) :
    (evaluateFire s).canes = s.canes := by
  simp only [evaluateFire]; (repeat' split) <;> simp

@[simp] theorem evaluateFire_drying (s : State) :
    (evaluateFire s).drying = s.drying := by
  simp only [evaluateFire]; (repeat' split) <;> simp

@[simp] theorem evaluateFire_climate (s : State) :
    (evaluateFire s).climate = s.climate := by
  simp only [evaluateFire]; (repeat' split) <;> simp

@[simp] theorem evaluateFire_discharge (s : State) :
    (evaluateFire s).discharge = s.discharge := by
  simp only [evaluateFire]; (repeat' split) <;> simp

@[simp] theorem evaluateFire_sequencer (s : State) :
    (evaluateFire s).sequencer = s.sequencer := by
  simp only [evaluateFire]; (repeat' split) <;> simp

@[simp] theorem evaluateFire_signals (s : State) :
    (evaluateFire s).signals = s.signals := by
  simp only [evaluateFire]; (repeat' split) <;> simp

@[simp] theorem evaluateFire_agent (s : State) :
    (evaluateFire s).agent = s.agent := by
  simp only [evaluateFire]; (repeat' split) <;> simp

@[simp] theorem evaluateFire_line (s : State) :
    (evaluateFire s).line = s.line := by
  simp only [evaluateFire]; (repeat' split) <;> simp

@[simp] theorem evaluateFire_pending (s : State) :
    (evaluateFire s).pending = s.pending := by
  simp only [evaluateFire]; (repeat' split) <;> simp

/-! ## afterFireEnd -/

@[simp] theorem afterFireEnd_clock (s : State) :
    (afterFireEnd s).clock = s.clock := by
  simp [afterFireEnd]

@[simp] theorem afterFireEnd_lineTime (s : State) :
    (afterFireEnd s).lineTime = s.lineTime := by
  simp [afterFireEnd]

@[simp] theorem afterFireEnd_lots (s : State) :
    (afterFireEnd s).lots = s.lots := by
  simp [afterFireEnd]

@[simp] theorem afterFireEnd_drying (s : State) :
    (afterFireEnd s).drying = s.drying := by
  simp [afterFireEnd]

@[simp] theorem afterFireEnd_climate (s : State) :
    (afterFireEnd s).climate = s.climate := by
  simp [afterFireEnd]

@[simp] theorem afterFireEnd_sequencer (s : State) :
    (afterFireEnd s).sequencer = s.sequencer := by
  simp [afterFireEnd]

@[simp] theorem afterFireEnd_signals (s : State) :
    (afterFireEnd s).signals = s.signals := by
  simp [afterFireEnd]

@[simp] theorem afterFireEnd_agent (s : State) :
    (afterFireEnd s).agent = s.agent := by
  simp [afterFireEnd]

@[simp] theorem afterFireEnd_line (s : State) :
    (afterFireEnd s).line = s.line := by
  simp [afterFireEnd]

@[simp] theorem afterFireEnd_pending (s : State) :
    (afterFireEnd s).pending = s.pending := by
  simp [afterFireEnd]

/-! ## queuePressCommand -/

@[simp] theorem queuePressCommand_clock (s : State) :
    (queuePressCommand s).clock = s.clock := by
  simp only [queuePressCommand]; (repeat' split) <;> simp

@[simp] theorem queuePressCommand_lineTime (s : State) :
    (queuePressCommand s).lineTime = s.lineTime := by
  simp only [queuePressCommand]; (repeat' split) <;> simp

@[simp] theorem queuePressCommand_lots (s : State) :
    (queuePressCommand s).lots = s.lots := by
  simp only [queuePressCommand]; (repeat' split) <;> simp

@[simp] theorem queuePressCommand_pacer (s : State) :
    (queuePressCommand s).pacer = s.pacer := by
  simp only [queuePressCommand]; (repeat' split) <;> simp

@[simp] theorem queuePressCommand_chain (s : State) :
    (queuePressCommand s).chain = s.chain := by
  simp only [queuePressCommand]; (repeat' split) <;> simp

@[simp] theorem queuePressCommand_canes (s : State) :
    (queuePressCommand s).canes = s.canes := by
  simp only [queuePressCommand]; (repeat' split) <;> simp

@[simp] theorem queuePressCommand_drying (s : State) :
    (queuePressCommand s).drying = s.drying := by
  simp only [queuePressCommand]; (repeat' split) <;> simp

@[simp] theorem queuePressCommand_climate (s : State) :
    (queuePressCommand s).climate = s.climate := by
  simp only [queuePressCommand]; (repeat' split) <;> simp

@[simp] theorem queuePressCommand_discharge (s : State) :
    (queuePressCommand s).discharge = s.discharge := by
  simp only [queuePressCommand]; (repeat' split) <;> simp

@[simp] theorem queuePressCommand_signals (s : State) :
    (queuePressCommand s).signals = s.signals := by
  simp only [queuePressCommand]; (repeat' split) <;> simp

@[simp] theorem queuePressCommand_agent (s : State) :
    (queuePressCommand s).agent = s.agent := by
  simp only [queuePressCommand]; (repeat' split) <;> simp

@[simp] theorem queuePressCommand_line (s : State) :
    (queuePressCommand s).line = s.line := by
  simp only [queuePressCommand]; (repeat' split) <;> simp

@[simp] theorem queuePressCommand_pending (s : State) :
    (queuePressCommand s).pending = s.pending := by
  simp only [queuePressCommand]; (repeat' split) <;> simp

/-! ## enterModeCore -/

@[simp] theorem enterModeCore_clock (m : LineMode) (r : ModeReason) (c : Option FaultCode) (s : State) :
    (enterModeCore m r c s).clock = s.clock := by
  simp only [enterModeCore]; (repeat' split) <;> simp

@[simp] theorem enterModeCore_lineTime (m : LineMode) (r : ModeReason) (c : Option FaultCode) (s : State) :
    (enterModeCore m r c s).lineTime = s.lineTime := by
  simp only [enterModeCore]; (repeat' split) <;> simp

@[simp] theorem enterModeCore_lots (m : LineMode) (r : ModeReason) (c : Option FaultCode) (s : State) :
    (enterModeCore m r c s).lots = s.lots := by
  simp only [enterModeCore]; (repeat' split) <;> simp

@[simp] theorem enterModeCore_pacer (m : LineMode) (r : ModeReason) (c : Option FaultCode) (s : State) :
    (enterModeCore m r c s).pacer = s.pacer := by
  simp only [enterModeCore]; (repeat' split) <;> simp

@[simp] theorem enterModeCore_chain (m : LineMode) (r : ModeReason) (c : Option FaultCode) (s : State) :
    (enterModeCore m r c s).chain = s.chain := by
  simp only [enterModeCore]; (repeat' split) <;> simp

@[simp] theorem enterModeCore_canes (m : LineMode) (r : ModeReason) (c : Option FaultCode) (s : State) :
    (enterModeCore m r c s).canes = s.canes := by
  simp only [enterModeCore]; (repeat' split) <;> simp

@[simp] theorem enterModeCore_drying (m : LineMode) (r : ModeReason) (c : Option FaultCode) (s : State) :
    (enterModeCore m r c s).drying = s.drying := by
  simp only [enterModeCore]; (repeat' split) <;> simp

@[simp] theorem enterModeCore_climate (m : LineMode) (r : ModeReason) (c : Option FaultCode) (s : State) :
    (enterModeCore m r c s).climate = s.climate := by
  simp only [enterModeCore]; (repeat' split) <;> simp

@[simp] theorem enterModeCore_discharge (m : LineMode) (r : ModeReason) (c : Option FaultCode) (s : State) :
    (enterModeCore m r c s).discharge = s.discharge := by
  simp only [enterModeCore]; (repeat' split) <;> simp

@[simp] theorem enterModeCore_signals (m : LineMode) (r : ModeReason) (c : Option FaultCode) (s : State) :
    (enterModeCore m r c s).signals = s.signals := by
  simp only [enterModeCore]; (repeat' split) <;> simp

@[simp] theorem enterModeCore_line (m : LineMode) (r : ModeReason) (c : Option FaultCode) (s : State) :
    (enterModeCore m r c s).line = s.line := by
  simp only [enterModeCore]; (repeat' split) <;> simp

@[simp] theorem enterModeCore_pending (m : LineMode) (r : ModeReason) (c : Option FaultCode) (s : State) :
    (enterModeCore m r c s).pending = s.pending := by
  simp only [enterModeCore]; (repeat' split) <;> simp

/-! ## raiseFault -/

@[simp] theorem raiseFault_clock (c : FaultCode) (d : Nat) (s : State) :
    (raiseFault c d s).clock = s.clock := by
  simp only [raiseFault]; (repeat' split) <;> simp

@[simp] theorem raiseFault_lineTime (c : FaultCode) (d : Nat) (s : State) :
    (raiseFault c d s).lineTime = s.lineTime := by
  simp only [raiseFault]; (repeat' split) <;> simp

@[simp] theorem raiseFault_lots (c : FaultCode) (d : Nat) (s : State) :
    (raiseFault c d s).lots = s.lots := by
  simp only [raiseFault]; (repeat' split) <;> simp

@[simp] theorem raiseFault_pacer (c : FaultCode) (d : Nat) (s : State) :
    (raiseFault c d s).pacer = s.pacer := by
  simp only [raiseFault]; (repeat' split) <;> simp

@[simp] theorem raiseFault_chain (c : FaultCode) (d : Nat) (s : State) :
    (raiseFault c d s).chain = s.chain := by
  simp only [raiseFault]; (repeat' split) <;> simp

@[simp] theorem raiseFault_canes (c : FaultCode) (d : Nat) (s : State) :
    (raiseFault c d s).canes = s.canes := by
  simp only [raiseFault]; (repeat' split) <;> simp

@[simp] theorem raiseFault_drying (c : FaultCode) (d : Nat) (s : State) :
    (raiseFault c d s).drying = s.drying := by
  simp only [raiseFault]; (repeat' split) <;> simp

@[simp] theorem raiseFault_climate (c : FaultCode) (d : Nat) (s : State) :
    (raiseFault c d s).climate = s.climate := by
  simp only [raiseFault]; (repeat' split) <;> simp

@[simp] theorem raiseFault_discharge (c : FaultCode) (d : Nat) (s : State) :
    (raiseFault c d s).discharge = s.discharge := by
  simp only [raiseFault]; (repeat' split) <;> simp

@[simp] theorem raiseFault_signals (c : FaultCode) (d : Nat) (s : State) :
    (raiseFault c d s).signals = s.signals := by
  simp only [raiseFault]; (repeat' split) <;> simp

@[simp] theorem raiseFault_line (c : FaultCode) (d : Nat) (s : State) :
    (raiseFault c d s).line = s.line := by
  simp only [raiseFault]; (repeat' split) <;> simp

@[simp] theorem raiseFault_pending (c : FaultCode) (d : Nat) (s : State) :
    (raiseFault c d s).pending = s.pending := by
  simp only [raiseFault]; (repeat' split) <;> simp

/-! ## speedLostTest -/

@[simp] theorem speedLostTest_clock (s : State) :
    (speedLostTest s).clock = s.clock := by
  simp only [speedLostTest]; (repeat' split) <;> simp

@[simp] theorem speedLostTest_lineTime (s : State) :
    (speedLostTest s).lineTime = s.lineTime := by
  simp only [speedLostTest]; (repeat' split) <;> simp

@[simp] theorem speedLostTest_lots (s : State) :
    (speedLostTest s).lots = s.lots := by
  simp only [speedLostTest]; (repeat' split) <;> simp

@[simp] theorem speedLostTest_pacer (s : State) :
    (speedLostTest s).pacer = s.pacer := by
  simp only [speedLostTest]; (repeat' split) <;> simp

@[simp] theorem speedLostTest_chain (s : State) :
    (speedLostTest s).chain = s.chain := by
  simp only [speedLostTest]; (repeat' split) <;> simp

@[simp] theorem speedLostTest_canes (s : State) :
    (speedLostTest s).canes = s.canes := by
  simp only [speedLostTest]; (repeat' split) <;> simp

@[simp] theorem speedLostTest_drying (s : State) :
    (speedLostTest s).drying = s.drying := by
  simp only [speedLostTest]; (repeat' split) <;> simp

@[simp] theorem speedLostTest_climate (s : State) :
    (speedLostTest s).climate = s.climate := by
  simp only [speedLostTest]; (repeat' split) <;> simp

@[simp] theorem speedLostTest_discharge (s : State) :
    (speedLostTest s).discharge = s.discharge := by
  simp only [speedLostTest]; (repeat' split) <;> simp

@[simp] theorem speedLostTest_signals (s : State) :
    (speedLostTest s).signals = s.signals := by
  simp only [speedLostTest]; (repeat' split) <;> simp

@[simp] theorem speedLostTest_line (s : State) :
    (speedLostTest s).line = s.line := by
  simp only [speedLostTest]; (repeat' split) <;> simp

@[simp] theorem speedLostTest_pending (s : State) :
    (speedLostTest s).pending = s.pending := by
  simp only [speedLostTest]; (repeat' split) <;> simp

/-! ## activateArmed -/

@[simp] theorem activateArmed_clock (s : State) :
    (activateArmed s).clock = s.clock := by
  simp only [activateArmed]; (repeat' split) <;> simp

@[simp] theorem activateArmed_lineTime (s : State) :
    (activateArmed s).lineTime = s.lineTime := by
  simp only [activateArmed]; (repeat' split) <;> simp

@[simp] theorem activateArmed_pacer (s : State) :
    (activateArmed s).pacer = s.pacer := by
  simp only [activateArmed]; (repeat' split) <;> simp

@[simp] theorem activateArmed_chain (s : State) :
    (activateArmed s).chain = s.chain := by
  simp only [activateArmed]; (repeat' split) <;> simp

@[simp] theorem activateArmed_canes (s : State) :
    (activateArmed s).canes = s.canes := by
  simp only [activateArmed]; (repeat' split) <;> simp

@[simp] theorem activateArmed_drying (s : State) :
    (activateArmed s).drying = s.drying := by
  simp only [activateArmed]; (repeat' split) <;> simp

@[simp] theorem activateArmed_climate (s : State) :
    (activateArmed s).climate = s.climate := by
  simp only [activateArmed]; (repeat' split) <;> simp

@[simp] theorem activateArmed_discharge (s : State) :
    (activateArmed s).discharge = s.discharge := by
  simp only [activateArmed]; (repeat' split) <;> simp

@[simp] theorem activateArmed_sequencer (s : State) :
    (activateArmed s).sequencer = s.sequencer := by
  simp only [activateArmed]; (repeat' split) <;> simp

@[simp] theorem activateArmed_signals (s : State) :
    (activateArmed s).signals = s.signals := by
  simp only [activateArmed]; (repeat' split) <;> simp

@[simp] theorem activateArmed_port (s : State) :
    (activateArmed s).port = s.port := by
  simp only [activateArmed]; (repeat' split) <;> simp

@[simp] theorem activateArmed_agent (s : State) :
    (activateArmed s).agent = s.agent := by
  simp only [activateArmed]; (repeat' split) <;> simp

@[simp] theorem activateArmed_line (s : State) :
    (activateArmed s).line = s.line := by
  simp only [activateArmed]; (repeat' split) <;> simp

@[simp] theorem activateArmed_handed (s : State) :
    (activateArmed s).handed = s.handed := by
  simp only [activateArmed]; (repeat' split) <;> simp

@[simp] theorem activateArmed_pending (s : State) :
    (activateArmed s).pending = s.pending := by
  simp only [activateArmed]; (repeat' split) <;> simp

/-! ## enterMode -/

@[simp] theorem enterMode_clock (m : LineMode) (r : ModeReason) (s : State) :
    (enterMode m r s).clock = s.clock := by
  simp only [enterMode]; (repeat' split) <;> simp

@[simp] theorem enterMode_lineTime (m : LineMode) (r : ModeReason) (s : State) :
    (enterMode m r s).lineTime = s.lineTime := by
  simp only [enterMode]; (repeat' split) <;> simp

@[simp] theorem enterMode_chain (m : LineMode) (r : ModeReason) (s : State) :
    (enterMode m r s).chain = s.chain := by
  simp only [enterMode]; (repeat' split) <;> simp

@[simp] theorem enterMode_canes (m : LineMode) (r : ModeReason) (s : State) :
    (enterMode m r s).canes = s.canes := by
  simp only [enterMode]; (repeat' split) <;> simp

@[simp] theorem enterMode_drying (m : LineMode) (r : ModeReason) (s : State) :
    (enterMode m r s).drying = s.drying := by
  simp only [enterMode]; (repeat' split) <;> simp

@[simp] theorem enterMode_climate (m : LineMode) (r : ModeReason) (s : State) :
    (enterMode m r s).climate = s.climate := by
  simp only [enterMode]; (repeat' split) <;> simp

@[simp] theorem enterMode_discharge (m : LineMode) (r : ModeReason) (s : State) :
    (enterMode m r s).discharge = s.discharge := by
  simp only [enterMode]; (repeat' split) <;> simp

@[simp] theorem enterMode_signals (m : LineMode) (r : ModeReason) (s : State) :
    (enterMode m r s).signals = s.signals := by
  simp only [enterMode]; (repeat' split) <;> simp

@[simp] theorem enterMode_line (m : LineMode) (r : ModeReason) (s : State) :
    (enterMode m r s).line = s.line := by
  simp only [enterMode]; (repeat' split) <;> simp

@[simp] theorem enterMode_pending (m : LineMode) (r : ModeReason) (s : State) :
    (enterMode m r s).pending = s.pending := by
  simp only [enterMode]; (repeat' split) <;> simp

/-! ## queueZoneCommand -/

@[simp] theorem queueZoneCommand_clock (role : Nat) (body : FrameBody) (s : State) :
    (queueZoneCommand role body s).clock = s.clock := by
  simp only [queueZoneCommand]; (repeat' split) <;> simp

@[simp] theorem queueZoneCommand_lineTime (role : Nat) (body : FrameBody) (s : State) :
    (queueZoneCommand role body s).lineTime = s.lineTime := by
  simp only [queueZoneCommand]; (repeat' split) <;> simp

@[simp] theorem queueZoneCommand_lots (role : Nat) (body : FrameBody) (s : State) :
    (queueZoneCommand role body s).lots = s.lots := by
  simp only [queueZoneCommand]; (repeat' split) <;> simp

@[simp] theorem queueZoneCommand_pacer (role : Nat) (body : FrameBody) (s : State) :
    (queueZoneCommand role body s).pacer = s.pacer := by
  simp only [queueZoneCommand]; (repeat' split) <;> simp

@[simp] theorem queueZoneCommand_chain (role : Nat) (body : FrameBody) (s : State) :
    (queueZoneCommand role body s).chain = s.chain := by
  simp only [queueZoneCommand]; (repeat' split) <;> simp

@[simp] theorem queueZoneCommand_canes (role : Nat) (body : FrameBody) (s : State) :
    (queueZoneCommand role body s).canes = s.canes := by
  simp only [queueZoneCommand]; (repeat' split) <;> simp

@[simp] theorem queueZoneCommand_drying (role : Nat) (body : FrameBody) (s : State) :
    (queueZoneCommand role body s).drying = s.drying := by
  simp only [queueZoneCommand]; (repeat' split) <;> simp

@[simp] theorem queueZoneCommand_climate (role : Nat) (body : FrameBody) (s : State) :
    (queueZoneCommand role body s).climate = s.climate := by
  simp only [queueZoneCommand]; (repeat' split) <;> simp

@[simp] theorem queueZoneCommand_discharge (role : Nat) (body : FrameBody) (s : State) :
    (queueZoneCommand role body s).discharge = s.discharge := by
  simp only [queueZoneCommand]; (repeat' split) <;> simp

@[simp] theorem queueZoneCommand_sequencer (role : Nat) (body : FrameBody) (s : State) :
    (queueZoneCommand role body s).sequencer = s.sequencer := by
  simp only [queueZoneCommand]; (repeat' split) <;> simp

@[simp] theorem queueZoneCommand_signals (role : Nat) (body : FrameBody) (s : State) :
    (queueZoneCommand role body s).signals = s.signals := by
  simp only [queueZoneCommand]; (repeat' split) <;> simp

@[simp] theorem queueZoneCommand_agent (role : Nat) (body : FrameBody) (s : State) :
    (queueZoneCommand role body s).agent = s.agent := by
  simp only [queueZoneCommand]; (repeat' split) <;> simp

@[simp] theorem queueZoneCommand_line (role : Nat) (body : FrameBody) (s : State) :
    (queueZoneCommand role body s).line = s.line := by
  simp only [queueZoneCommand]; (repeat' split) <;> simp

@[simp] theorem queueZoneCommand_pending (role : Nat) (body : FrameBody) (s : State) :
    (queueZoneCommand role body s).pending = s.pending := by
  simp only [queueZoneCommand]; (repeat' split) <;> simp

/-! ## queueZoneClimate -/

@[simp] theorem queueZoneClimate_clock (k : Nat) (s : State) :
    (queueZoneClimate k s).clock = s.clock := by
  simp [queueZoneClimate]

@[simp] theorem queueZoneClimate_lineTime (k : Nat) (s : State) :
    (queueZoneClimate k s).lineTime = s.lineTime := by
  simp [queueZoneClimate]

@[simp] theorem queueZoneClimate_lots (k : Nat) (s : State) :
    (queueZoneClimate k s).lots = s.lots := by
  simp [queueZoneClimate]

@[simp] theorem queueZoneClimate_pacer (k : Nat) (s : State) :
    (queueZoneClimate k s).pacer = s.pacer := by
  simp [queueZoneClimate]

@[simp] theorem queueZoneClimate_chain (k : Nat) (s : State) :
    (queueZoneClimate k s).chain = s.chain := by
  simp [queueZoneClimate]

@[simp] theorem queueZoneClimate_canes (k : Nat) (s : State) :
    (queueZoneClimate k s).canes = s.canes := by
  simp [queueZoneClimate]

@[simp] theorem queueZoneClimate_drying (k : Nat) (s : State) :
    (queueZoneClimate k s).drying = s.drying := by
  simp [queueZoneClimate]

@[simp] theorem queueZoneClimate_climate (k : Nat) (s : State) :
    (queueZoneClimate k s).climate = s.climate := by
  simp [queueZoneClimate]

@[simp] theorem queueZoneClimate_discharge (k : Nat) (s : State) :
    (queueZoneClimate k s).discharge = s.discharge := by
  simp [queueZoneClimate]

@[simp] theorem queueZoneClimate_sequencer (k : Nat) (s : State) :
    (queueZoneClimate k s).sequencer = s.sequencer := by
  simp [queueZoneClimate]

@[simp] theorem queueZoneClimate_signals (k : Nat) (s : State) :
    (queueZoneClimate k s).signals = s.signals := by
  simp [queueZoneClimate]

@[simp] theorem queueZoneClimate_agent (k : Nat) (s : State) :
    (queueZoneClimate k s).agent = s.agent := by
  simp [queueZoneClimate]

@[simp] theorem queueZoneClimate_line (k : Nat) (s : State) :
    (queueZoneClimate k s).line = s.line := by
  simp [queueZoneClimate]

@[simp] theorem queueZoneClimate_pending (k : Nat) (s : State) :
    (queueZoneClimate k s).pending = s.pending := by
  simp [queueZoneClimate]

/-! ## queueAirDir -/

@[simp] theorem queueAirDir_clock (k : Nat) (s : State) :
    (queueAirDir k s).clock = s.clock := by
  simp [queueAirDir]

@[simp] theorem queueAirDir_lineTime (k : Nat) (s : State) :
    (queueAirDir k s).lineTime = s.lineTime := by
  simp [queueAirDir]

@[simp] theorem queueAirDir_lots (k : Nat) (s : State) :
    (queueAirDir k s).lots = s.lots := by
  simp [queueAirDir]

@[simp] theorem queueAirDir_pacer (k : Nat) (s : State) :
    (queueAirDir k s).pacer = s.pacer := by
  simp [queueAirDir]

@[simp] theorem queueAirDir_chain (k : Nat) (s : State) :
    (queueAirDir k s).chain = s.chain := by
  simp [queueAirDir]

@[simp] theorem queueAirDir_canes (k : Nat) (s : State) :
    (queueAirDir k s).canes = s.canes := by
  simp [queueAirDir]

@[simp] theorem queueAirDir_drying (k : Nat) (s : State) :
    (queueAirDir k s).drying = s.drying := by
  simp [queueAirDir]

@[simp] theorem queueAirDir_climate (k : Nat) (s : State) :
    (queueAirDir k s).climate = s.climate := by
  simp [queueAirDir]

@[simp] theorem queueAirDir_discharge (k : Nat) (s : State) :
    (queueAirDir k s).discharge = s.discharge := by
  simp [queueAirDir]

@[simp] theorem queueAirDir_sequencer (k : Nat) (s : State) :
    (queueAirDir k s).sequencer = s.sequencer := by
  simp [queueAirDir]

@[simp] theorem queueAirDir_signals (k : Nat) (s : State) :
    (queueAirDir k s).signals = s.signals := by
  simp [queueAirDir]

@[simp] theorem queueAirDir_agent (k : Nat) (s : State) :
    (queueAirDir k s).agent = s.agent := by
  simp [queueAirDir]

@[simp] theorem queueAirDir_line (k : Nat) (s : State) :
    (queueAirDir k s).line = s.line := by
  simp [queueAirDir]

@[simp] theorem queueAirDir_pending (k : Nat) (s : State) :
    (queueAirDir k s).pending = s.pending := by
  simp [queueAirDir]

/-! ## refreshDemand -/

@[simp] theorem refreshDemand_clock (k : Nat) (s : State) :
    (refreshDemand k s).clock = s.clock := by
  simp [refreshDemand]

@[simp] theorem refreshDemand_lineTime (k : Nat) (s : State) :
    (refreshDemand k s).lineTime = s.lineTime := by
  simp [refreshDemand]

@[simp] theorem refreshDemand_lots (k : Nat) (s : State) :
    (refreshDemand k s).lots = s.lots := by
  simp [refreshDemand]

@[simp] theorem refreshDemand_pacer (k : Nat) (s : State) :
    (refreshDemand k s).pacer = s.pacer := by
  simp [refreshDemand]

@[simp] theorem refreshDemand_chain (k : Nat) (s : State) :
    (refreshDemand k s).chain = s.chain := by
  simp [refreshDemand]

@[simp] theorem refreshDemand_canes (k : Nat) (s : State) :
    (refreshDemand k s).canes = s.canes := by
  simp [refreshDemand]

@[simp] theorem refreshDemand_drying (k : Nat) (s : State) :
    (refreshDemand k s).drying = s.drying := by
  simp [refreshDemand]

@[simp] theorem refreshDemand_discharge (k : Nat) (s : State) :
    (refreshDemand k s).discharge = s.discharge := by
  simp [refreshDemand]

@[simp] theorem refreshDemand_sequencer (k : Nat) (s : State) :
    (refreshDemand k s).sequencer = s.sequencer := by
  simp [refreshDemand]

@[simp] theorem refreshDemand_signals (k : Nat) (s : State) :
    (refreshDemand k s).signals = s.signals := by
  simp [refreshDemand]

@[simp] theorem refreshDemand_agent (k : Nat) (s : State) :
    (refreshDemand k s).agent = s.agent := by
  simp [refreshDemand]

@[simp] theorem refreshDemand_line (k : Nat) (s : State) :
    (refreshDemand k s).line = s.line := by
  simp [refreshDemand]

@[simp] theorem refreshDemand_pending (k : Nat) (s : State) :
    (refreshDemand k s).pending = s.pending := by
  simp [refreshDemand]

/-! ## startAirTimer -/

@[simp] theorem startAirTimer_clock (k : Nat) (s : State) :
    (startAirTimer k s).clock = s.clock := by
  simp [startAirTimer]

@[simp] theorem startAirTimer_lineTime (k : Nat) (s : State) :
    (startAirTimer k s).lineTime = s.lineTime := by
  simp [startAirTimer]

@[simp] theorem startAirTimer_lots (k : Nat) (s : State) :
    (startAirTimer k s).lots = s.lots := by
  simp [startAirTimer]

@[simp] theorem startAirTimer_pacer (k : Nat) (s : State) :
    (startAirTimer k s).pacer = s.pacer := by
  simp [startAirTimer]

@[simp] theorem startAirTimer_chain (k : Nat) (s : State) :
    (startAirTimer k s).chain = s.chain := by
  simp [startAirTimer]

@[simp] theorem startAirTimer_canes (k : Nat) (s : State) :
    (startAirTimer k s).canes = s.canes := by
  simp [startAirTimer]

@[simp] theorem startAirTimer_drying (k : Nat) (s : State) :
    (startAirTimer k s).drying = s.drying := by
  simp [startAirTimer]

@[simp] theorem startAirTimer_discharge (k : Nat) (s : State) :
    (startAirTimer k s).discharge = s.discharge := by
  simp [startAirTimer]

@[simp] theorem startAirTimer_sequencer (k : Nat) (s : State) :
    (startAirTimer k s).sequencer = s.sequencer := by
  simp [startAirTimer]

@[simp] theorem startAirTimer_signals (k : Nat) (s : State) :
    (startAirTimer k s).signals = s.signals := by
  simp [startAirTimer]

@[simp] theorem startAirTimer_port (k : Nat) (s : State) :
    (startAirTimer k s).port = s.port := by
  simp [startAirTimer]

@[simp] theorem startAirTimer_agent (k : Nat) (s : State) :
    (startAirTimer k s).agent = s.agent := by
  simp [startAirTimer]

@[simp] theorem startAirTimer_line (k : Nat) (s : State) :
    (startAirTimer k s).line = s.line := by
  simp [startAirTimer]

@[simp] theorem startAirTimer_handed (k : Nat) (s : State) :
    (startAirTimer k s).handed = s.handed := by
  simp [startAirTimer]

@[simp] theorem startAirTimer_pending (k : Nat) (s : State) :
    (startAirTimer k s).pending = s.pending := by
  simp [startAirTimer]

/-! ## climateSlotLost -/

@[simp] theorem climateSlotLost_clock (k : Nat) (s : State) :
    (climateSlotLost k s).clock = s.clock := by
  simp only [climateSlotLost]; (repeat' split) <;> simp

@[simp] theorem climateSlotLost_lineTime (k : Nat) (s : State) :
    (climateSlotLost k s).lineTime = s.lineTime := by
  simp only [climateSlotLost]; (repeat' split) <;> simp

@[simp] theorem climateSlotLost_lots (k : Nat) (s : State) :
    (climateSlotLost k s).lots = s.lots := by
  simp only [climateSlotLost]; (repeat' split) <;> simp

@[simp] theorem climateSlotLost_pacer (k : Nat) (s : State) :
    (climateSlotLost k s).pacer = s.pacer := by
  simp only [climateSlotLost]; (repeat' split) <;> simp

@[simp] theorem climateSlotLost_chain (k : Nat) (s : State) :
    (climateSlotLost k s).chain = s.chain := by
  simp only [climateSlotLost]; (repeat' split) <;> simp

@[simp] theorem climateSlotLost_canes (k : Nat) (s : State) :
    (climateSlotLost k s).canes = s.canes := by
  simp only [climateSlotLost]; (repeat' split) <;> simp

@[simp] theorem climateSlotLost_drying (k : Nat) (s : State) :
    (climateSlotLost k s).drying = s.drying := by
  simp only [climateSlotLost]; (repeat' split) <;> simp

@[simp] theorem climateSlotLost_climate (k : Nat) (s : State) :
    (climateSlotLost k s).climate = s.climate := by
  simp only [climateSlotLost]; (repeat' split) <;> simp

@[simp] theorem climateSlotLost_discharge (k : Nat) (s : State) :
    (climateSlotLost k s).discharge = s.discharge := by
  simp only [climateSlotLost]; (repeat' split) <;> simp

@[simp] theorem climateSlotLost_signals (k : Nat) (s : State) :
    (climateSlotLost k s).signals = s.signals := by
  simp only [climateSlotLost]; (repeat' split) <;> simp

@[simp] theorem climateSlotLost_port (k : Nat) (s : State) :
    (climateSlotLost k s).port = s.port := by
  simp only [climateSlotLost]; (repeat' split) <;> simp

@[simp] theorem climateSlotLost_agent (k : Nat) (s : State) :
    (climateSlotLost k s).agent = s.agent := by
  simp only [climateSlotLost]; (repeat' split) <;> simp

@[simp] theorem climateSlotLost_line (k : Nat) (s : State) :
    (climateSlotLost k s).line = s.line := by
  simp only [climateSlotLost]; (repeat' split) <;> simp

@[simp] theorem climateSlotLost_handed (k : Nat) (s : State) :
    (climateSlotLost k s).handed = s.handed := by
  simp only [climateSlotLost]; (repeat' split) <;> simp

@[simp] theorem climateSlotLost_pending (k : Nat) (s : State) :
    (climateSlotLost k s).pending = s.pending := by
  simp only [climateSlotLost]; (repeat' split) <;> simp

/-! ## climateSlotBack -/

@[simp] theorem climateSlotBack_clock (k : Nat) (s : State) :
    (climateSlotBack k s).clock = s.clock := by
  simp only [climateSlotBack]; (repeat' split) <;> simp

@[simp] theorem climateSlotBack_lineTime (k : Nat) (s : State) :
    (climateSlotBack k s).lineTime = s.lineTime := by
  simp only [climateSlotBack]; (repeat' split) <;> simp

@[simp] theorem climateSlotBack_lots (k : Nat) (s : State) :
    (climateSlotBack k s).lots = s.lots := by
  simp only [climateSlotBack]; (repeat' split) <;> simp

@[simp] theorem climateSlotBack_pacer (k : Nat) (s : State) :
    (climateSlotBack k s).pacer = s.pacer := by
  simp only [climateSlotBack]; (repeat' split) <;> simp

@[simp] theorem climateSlotBack_chain (k : Nat) (s : State) :
    (climateSlotBack k s).chain = s.chain := by
  simp only [climateSlotBack]; (repeat' split) <;> simp

@[simp] theorem climateSlotBack_canes (k : Nat) (s : State) :
    (climateSlotBack k s).canes = s.canes := by
  simp only [climateSlotBack]; (repeat' split) <;> simp

@[simp] theorem climateSlotBack_drying (k : Nat) (s : State) :
    (climateSlotBack k s).drying = s.drying := by
  simp only [climateSlotBack]; (repeat' split) <;> simp

@[simp] theorem climateSlotBack_climate (k : Nat) (s : State) :
    (climateSlotBack k s).climate = s.climate := by
  simp only [climateSlotBack]; (repeat' split) <;> simp

@[simp] theorem climateSlotBack_discharge (k : Nat) (s : State) :
    (climateSlotBack k s).discharge = s.discharge := by
  simp only [climateSlotBack]; (repeat' split) <;> simp

@[simp] theorem climateSlotBack_signals (k : Nat) (s : State) :
    (climateSlotBack k s).signals = s.signals := by
  simp only [climateSlotBack]; (repeat' split) <;> simp

@[simp] theorem climateSlotBack_port (k : Nat) (s : State) :
    (climateSlotBack k s).port = s.port := by
  simp only [climateSlotBack]; (repeat' split) <;> simp

@[simp] theorem climateSlotBack_agent (k : Nat) (s : State) :
    (climateSlotBack k s).agent = s.agent := by
  simp only [climateSlotBack]; (repeat' split) <;> simp

@[simp] theorem climateSlotBack_line (k : Nat) (s : State) :
    (climateSlotBack k s).line = s.line := by
  simp only [climateSlotBack]; (repeat' split) <;> simp

@[simp] theorem climateSlotBack_handed (k : Nat) (s : State) :
    (climateSlotBack k s).handed = s.handed := by
  simp only [climateSlotBack]; (repeat' split) <;> simp

@[simp] theorem climateSlotBack_pending (k : Nat) (s : State) :
    (climateSlotBack k s).pending = s.pending := by
  simp only [climateSlotBack]; (repeat' split) <;> simp

/-! ## climateCheckZone -/

@[simp] theorem climateCheckZone_clock (k : Nat) (s : State) :
    (climateCheckZone k s).clock = s.clock := by
  simp only [climateCheckZone]; (repeat' split) <;> simp

@[simp] theorem climateCheckZone_lineTime (k : Nat) (s : State) :
    (climateCheckZone k s).lineTime = s.lineTime := by
  simp only [climateCheckZone]; (repeat' split) <;> simp

@[simp] theorem climateCheckZone_lots (k : Nat) (s : State) :
    (climateCheckZone k s).lots = s.lots := by
  simp only [climateCheckZone]; (repeat' split) <;> simp

@[simp] theorem climateCheckZone_pacer (k : Nat) (s : State) :
    (climateCheckZone k s).pacer = s.pacer := by
  simp only [climateCheckZone]; (repeat' split) <;> simp

@[simp] theorem climateCheckZone_chain (k : Nat) (s : State) :
    (climateCheckZone k s).chain = s.chain := by
  simp only [climateCheckZone]; (repeat' split) <;> simp

@[simp] theorem climateCheckZone_canes (k : Nat) (s : State) :
    (climateCheckZone k s).canes = s.canes := by
  simp only [climateCheckZone]; (repeat' split) <;> simp

@[simp] theorem climateCheckZone_drying (k : Nat) (s : State) :
    (climateCheckZone k s).drying = s.drying := by
  simp only [climateCheckZone]; (repeat' split) <;> simp

@[simp] theorem climateCheckZone_climate (k : Nat) (s : State) :
    (climateCheckZone k s).climate = s.climate := by
  simp only [climateCheckZone]; (repeat' split) <;> simp

@[simp] theorem climateCheckZone_discharge (k : Nat) (s : State) :
    (climateCheckZone k s).discharge = s.discharge := by
  simp only [climateCheckZone]; (repeat' split) <;> simp

@[simp] theorem climateCheckZone_signals (k : Nat) (s : State) :
    (climateCheckZone k s).signals = s.signals := by
  simp only [climateCheckZone]; (repeat' split) <;> simp

@[simp] theorem climateCheckZone_line (k : Nat) (s : State) :
    (climateCheckZone k s).line = s.line := by
  simp only [climateCheckZone]; (repeat' split) <;> simp

@[simp] theorem climateCheckZone_pending (k : Nat) (s : State) :
    (climateCheckZone k s).pending = s.pending := by
  simp only [climateCheckZone]; (repeat' split) <;> simp

/-! ## climateCheck -/

@[simp] theorem climateCheck_clock (s : State) :
    (climateCheck s).clock = s.clock := 
  forEach_keeps (fun t => t.clock) climateCheckZone (climateCheckZone_clock) _ s

@[simp] theorem climateCheck_lineTime (s : State) :
    (climateCheck s).lineTime = s.lineTime := 
  forEach_keeps (fun t => t.lineTime) climateCheckZone (climateCheckZone_lineTime) _ s

@[simp] theorem climateCheck_lots (s : State) :
    (climateCheck s).lots = s.lots := 
  forEach_keeps (fun t => t.lots) climateCheckZone (climateCheckZone_lots) _ s

@[simp] theorem climateCheck_pacer (s : State) :
    (climateCheck s).pacer = s.pacer := 
  forEach_keeps (fun t => t.pacer) climateCheckZone (climateCheckZone_pacer) _ s

@[simp] theorem climateCheck_chain (s : State) :
    (climateCheck s).chain = s.chain := 
  forEach_keeps (fun t => t.chain) climateCheckZone (climateCheckZone_chain) _ s

@[simp] theorem climateCheck_canes (s : State) :
    (climateCheck s).canes = s.canes := 
  forEach_keeps (fun t => t.canes) climateCheckZone (climateCheckZone_canes) _ s

@[simp] theorem climateCheck_drying (s : State) :
    (climateCheck s).drying = s.drying := 
  forEach_keeps (fun t => t.drying) climateCheckZone (climateCheckZone_drying) _ s

@[simp] theorem climateCheck_climate (s : State) :
    (climateCheck s).climate = s.climate := 
  forEach_keeps (fun t => t.climate) climateCheckZone (climateCheckZone_climate) _ s

@[simp] theorem climateCheck_discharge (s : State) :
    (climateCheck s).discharge = s.discharge := 
  forEach_keeps (fun t => t.discharge) climateCheckZone (climateCheckZone_discharge) _ s

@[simp] theorem climateCheck_signals (s : State) :
    (climateCheck s).signals = s.signals := 
  forEach_keeps (fun t => t.signals) climateCheckZone (climateCheckZone_signals) _ s

@[simp] theorem climateCheck_line (s : State) :
    (climateCheck s).line = s.line := 
  forEach_keeps (fun t => t.line) climateCheckZone (climateCheckZone_line) _ s

@[simp] theorem climateCheck_pending (s : State) :
    (climateCheck s).pending = s.pending := 
  forEach_keeps (fun t => t.pending) climateCheckZone (climateCheckZone_pending) _ s

/-! ## reportLoss -/

@[simp] theorem reportLoss_clock (role : Nat) (s : State) :
    (reportLoss role s).clock = s.clock := by
  simp only [reportLoss]; (repeat' split) <;> simp

@[simp] theorem reportLoss_lineTime (role : Nat) (s : State) :
    (reportLoss role s).lineTime = s.lineTime := by
  simp only [reportLoss]; (repeat' split) <;> simp

@[simp] theorem reportLoss_lots (role : Nat) (s : State) :
    (reportLoss role s).lots = s.lots := by
  simp only [reportLoss]; (repeat' split) <;> simp

@[simp] theorem reportLoss_canes (role : Nat) (s : State) :
    (reportLoss role s).canes = s.canes := by
  simp only [reportLoss]; (repeat' split) <;> simp

@[simp] theorem reportLoss_drying (role : Nat) (s : State) :
    (reportLoss role s).drying = s.drying := by
  simp only [reportLoss]; (repeat' split) <;> simp

@[simp] theorem reportLoss_discharge (role : Nat) (s : State) :
    (reportLoss role s).discharge = s.discharge := by
  simp only [reportLoss]; (repeat' split) <;> simp

@[simp] theorem reportLoss_signals (role : Nat) (s : State) :
    (reportLoss role s).signals = s.signals := by
  simp only [reportLoss]; (repeat' split) <;> simp

@[simp] theorem reportLoss_line (role : Nat) (s : State) :
    (reportLoss role s).line = s.line := by
  simp only [reportLoss]; (repeat' split) <;> simp

@[simp] theorem reportLoss_pending (role : Nat) (s : State) :
    (reportLoss role s).pending = s.pending := by
  simp only [reportLoss]; (repeat' split) <;> simp

/-! ## reportGain -/

@[simp] theorem reportGain_clock (role : Nat) (s : State) :
    (reportGain role s).clock = s.clock := by
  simp only [reportGain]; (repeat' split) <;> simp

@[simp] theorem reportGain_lineTime (role : Nat) (s : State) :
    (reportGain role s).lineTime = s.lineTime := by
  simp only [reportGain]; (repeat' split) <;> simp

@[simp] theorem reportGain_lots (role : Nat) (s : State) :
    (reportGain role s).lots = s.lots := by
  simp only [reportGain]; (repeat' split) <;> simp

@[simp] theorem reportGain_canes (role : Nat) (s : State) :
    (reportGain role s).canes = s.canes := by
  simp only [reportGain]; (repeat' split) <;> simp

@[simp] theorem reportGain_drying (role : Nat) (s : State) :
    (reportGain role s).drying = s.drying := by
  simp only [reportGain]; (repeat' split) <;> simp

@[simp] theorem reportGain_climate (role : Nat) (s : State) :
    (reportGain role s).climate = s.climate := by
  simp only [reportGain]; (repeat' split) <;> simp

@[simp] theorem reportGain_signals (role : Nat) (s : State) :
    (reportGain role s).signals = s.signals := by
  simp only [reportGain]; (repeat' split) <;> simp

@[simp] theorem reportGain_agent (role : Nat) (s : State) :
    (reportGain role s).agent = s.agent := by
  simp only [reportGain]; (repeat' split) <;> simp

@[simp] theorem reportGain_line (role : Nat) (s : State) :
    (reportGain role s).line = s.line := by
  simp only [reportGain]; (repeat' split) <;> simp

@[simp] theorem reportGain_pending (role : Nat) (s : State) :
    (reportGain role s).pending = s.pending := by
  simp only [reportGain]; (repeat' split) <;> simp

/-! ## makeLost -/

@[simp] theorem makeLost_clock (role : Nat) (s : State) :
    (makeLost role s).clock = s.clock := by
  simp only [makeLost]; (repeat' split) <;> simp

@[simp] theorem makeLost_lineTime (role : Nat) (s : State) :
    (makeLost role s).lineTime = s.lineTime := by
  simp only [makeLost]; (repeat' split) <;> simp

@[simp] theorem makeLost_lots (role : Nat) (s : State) :
    (makeLost role s).lots = s.lots := by
  simp only [makeLost]; (repeat' split) <;> simp

@[simp] theorem makeLost_canes (role : Nat) (s : State) :
    (makeLost role s).canes = s.canes := by
  simp only [makeLost]; (repeat' split) <;> simp

@[simp] theorem makeLost_drying (role : Nat) (s : State) :
    (makeLost role s).drying = s.drying := by
  simp only [makeLost]; (repeat' split) <;> simp

@[simp] theorem makeLost_discharge (role : Nat) (s : State) :
    (makeLost role s).discharge = s.discharge := by
  simp only [makeLost]; (repeat' split) <;> simp

@[simp] theorem makeLost_line (role : Nat) (s : State) :
    (makeLost role s).line = s.line := by
  simp only [makeLost]; (repeat' split) <;> simp

@[simp] theorem makeLost_pending (role : Nat) (s : State) :
    (makeLost role s).pending = s.pending := by
  simp only [makeLost]; (repeat' split) <;> simp

end Sys2Proof.Machine
end

