-- ==== Sys2Proof/Laws/Ops.lean ====
section
/-!
SUPPORT. What each shared operation can do, said once: the cases of its result with the condition of each.
-/

namespace Sys2Proof.Machine

/-! ## Outcomes -/

/-- An outcome row acts when its outcome is the oldest reported, and changes nothing otherwise (R164). -/
theorem takeOutcome_cases (e : Instr) (act : State → State) (s : State) :
    (s.nextOutcome = some e ∧ takeOutcome e act s = act (s.took e)) ∨
    (s.nextOutcome ≠ some e ∧ takeOutcome e act s = s) := by
  by_cases h : s.nextOutcome = some e <;> simp [takeOutcome, h]

/-! ## The trunk port's queues -/

/-- A frame handed to the port joins its queue's tail, or is reported never sent at once (R160, R164, R165). -/
theorem handFrame_cases (dest : Nat) (body : FrameBody) (s : State) :
    ((s.port.silent = true ∨ s.port.hasRoom (queueOf body) = false) ∧
      handFrame dest body s = State.hand { s with port := { s.port with frameCount := s.nextFrame } }
        (outcomeEvent { number := s.nextFrame, dest := dest, body := body } .neverSent)) ∨
    (s.port.silent = false ∧ s.port.hasRoom (queueOf body) = true ∧
      handFrame dest body s = { s with
        port := ({ s.port with frameCount := s.nextFrame } : Port).joinTail
          { number := s.nextFrame, dest := dest, body := body } }) := by
  have h1 : ({ s.port with frameCount := s.nextFrame } : Port).silent = s.port.silent := rfl
  have h2 : ({ s.port with frameCount := s.nextFrame } : Port).hasRoom (queueOf body) =
      s.port.hasRoom (queueOf body) := by
    unfold Port.hasRoom Port.fill Port.contending
    cases queueOf body <;> rfl
  simp only [handFrame, h1, h2]
  cases s.port.silent <;> cases s.port.hasRoom (queueOf body) <;> simp

/-- A report takes a place while the management queue's fill is below 5, and is missed otherwise (R171). -/
theorem queueReport_cases (r : Report) (s : State) :
    (5 ≤ s.port.fill .management ∧
      queueReport r s = { s with agent := { s.agent with missed := min 255 (s.agent.missed + 1) } }) ∨
    (s.port.fill .management < 5 ∧ ∃ n,
      queueReport r s =
        { handFrame s.agent.supervisor (.report s.agent.missed s.lineTime r) s with
          agent := { s.agent with missed := n } }) := by
  by_cases h : s.port.fill .management < 5
  · refine .inr ⟨h, ?_⟩
    have h' : s.port.fill .management < Config.reportLimit := h
    simp only [queueReport, h', if_true]
    split
    · exact ⟨min 255 (s.agent.missed + 1), by simp⟩
    · exact ⟨0, by simp⟩
  · refine .inl ⟨Nat.not_lt.mp h, ?_⟩
    have h' : ¬ s.port.fill .management < Config.reportLimit := h
    simp [queueReport, h']

/-- A response joins the management queue of an ordinary node that has room (R170). -/
theorem respond_eq (d : Directive) (a : Answer) (h1 : a.state.port.silent = false)
    (h2 : a.state.port.fill .management < 6) :
    respond d a = { a.state with port := { a.state.port with
      frameCount := inc32 a.state.port.frameCount,
      management := a.state.port.management ++
        [{ number := inc32 a.state.port.frameCount, dest := d.sender,
           body := .response d.tag d.code a.outcome a.body }] } } := by
  unfold respond
  rcases handFrame_cases d.sender (.response d.tag d.code a.outcome a.body) a.state with ⟨h, -⟩ | ⟨-, -, h⟩
  · have : a.state.port.hasRoom .management = true := decide_eq_true h2
    simp [queueOf, this, h1] at h
  · rw [h]; rfl

/-! ## Directives -/

/-- A directive row starts or waits (R168). -/
theorem runDirective_cases (d : Directive) (gap : Bool) (act : List Byte → State → Answer) (s : State) :
    (s.startable d gap = true ∧ runDirective d gap act s = respond d (act d.args (popDirective s))) ∨
    (s.startable d gap = false ∧ runDirective d gap act s = s) := by
  unfold runDirective
  cases s.startable d gap <;> simp

/-! ## The lots -/

/-- A slot is freed when it is RETIRING and its count is 0, and stays otherwise (R17). -/
theorem freeIfRetired_cases (i : Nat) (s : State) :
    ((s.lotSlot i).life = .retiring ∧ (s.lotSlot i).refCount = 0 ∧ freeIfRetired i s = freeLot i s) ∨
    (¬ ((s.lotSlot i).life = .retiring ∧ (s.lotSlot i).refCount = 0) ∧ freeIfRetired i s = s) := by
  by_cases h : (s.lotSlot i).life = .retiring ∧ (s.lotSlot i).refCount = 0
  · exact .inl ⟨h.1, h.2, by simp [freeIfRetired, h]⟩
  · exact .inr ⟨h, by simp only [freeIfRetired, if_neg h]⟩

/-! ## The chain controller -/

/-- The chain evaluation: nothing with a step in flight; IDLE without a record or a step allowed; WAITING_ROOM without
room at the exit; otherwise a step is sent (R56, R57, R58). -/
theorem evaluateChain_cases (s : State) :
    ((∃ st, s.chain.stepState = .stepping st) ∧ evaluateChain s = s) ∨
    (s.chain.step? = none ∧
      ((s.chain.station = none ∧ evaluateChain s = setStepState .idle s) ∨
       (∃ c, s.chain.station = some c ∧
        ((s.noExitRoom = true ∧ evaluateChain s = setStepState .waitingRoom s) ∨
         (s.noExitRoom = false ∧ (s.stepAllowed = false ∨ s.talkNode talkChain = none) ∧
          evaluateChain s = setStepState .idle s) ∨
         (s.noExitRoom = false ∧ s.stepAllowed = true ∧
          ∃ dest, s.talkNode talkChain = some dest ∧ evaluateChain s = sendStep c dest s))))) := by
  cases hst : s.chain.stepState with
  | stepping st => exact .inl ⟨⟨st, rfl⟩, by simp only [evaluateChain, hst]⟩
  | idle =>
    refine .inr ⟨by simp [Chain.step?, hst], ?_⟩
    cases hc : s.chain.station with
    | none => exact .inl ⟨rfl, by simp only [evaluateChain, hst, hc]⟩
    | some c =>
      refine .inr ⟨c, rfl, ?_⟩
      cases hr : s.noExitRoom <;> cases ha : s.stepAllowed <;> cases hd : s.talkNode talkChain <;>
        simp [evaluateChain, hst, hc, hr, ha, hd]
  | waitingRoom =>
    refine .inr ⟨by simp [Chain.step?, hst], ?_⟩
    cases hc : s.chain.station with
    | none => exact .inl ⟨rfl, by simp only [evaluateChain, hst, hc]⟩
    | some c =>
      refine .inr ⟨c, rfl, ?_⟩
      cases hr : s.noExitRoom <;> cases ha : s.stepAllowed <;> cases hd : s.talkNode talkChain <;>
        simp [evaluateChain, hst, hc, hr, ha, hd]

/-- The insertion test places an EMPTY record or does nothing (R67). -/
theorem tryInsertion_cases (s : State) :
    (s.insertionDue = true ∧
      tryInsertion s = placeRecord none { s with chain := { s.chain with drainTimer := .stopped } }) ∨
    (s.insertionDue = false ∧ tryInsertion s = s) := by
  unfold tryInsertion
  cases s.insertionDue <;> simp

/-! ## The strand pacer -/

/-- A fire evaluation leaves the state, sets FORMING or BLOCKED, or sends a fire with every interlock holding
(R27, R29, R30, R31). -/
theorem evaluateFire_cases (s : State) :
    evaluateFire s = s ∨
    ((s.pacer.state = .forming ∨ s.pacer.state = .blocked) ∧
      (evaluateFire s = setPacerState .forming s ∨ evaluateFire s = setPacerState .blocked s ∨
       ∃ target dest, s.curtainTarget = some target ∧ s.pacer.fireCondition target = true ∧
         s.failingInterlock = 0 ∧ s.talkNode talkKnife = some dest ∧ evaluateFire s = sendFire target dest s)) := by
  have act : actOnCondition s = setPacerState .forming s ∨ actOnCondition s = setPacerState .blocked s ∨
      ∃ target dest, s.curtainTarget = some target ∧ s.pacer.fireCondition target = true ∧
        s.failingInterlock = 0 ∧ s.talkNode talkKnife = some dest ∧
        actOnCondition s = sendFire target dest s := by
    cases ht : s.curtainTarget with
    | none => exact .inl (by simp only [actOnCondition, ht])
    | some target =>
      cases hf : s.pacer.fireCondition target with
      | false => exact .inl (by simp [actOnCondition, ht, hf])
      | true =>
        by_cases hi : s.failingInterlock = 0
        · cases hd : s.talkNode talkKnife with
          | none => exact .inr (.inl (by simp [actOnCondition, ht, hf, hi, hd]))
          | some dest =>
            exact .inr (.inr ⟨target, dest, rfl, hf, hi, rfl, by simp [actOnCondition, ht, hf, hi, hd]⟩)
        · exact .inr (.inl (by simp [actOnCondition, ht, hf, hi]))
  cases hp : s.pacer.state with
  | idle => exact .inl (by simp only [evaluateFire, hp])
  | firing f => exact .inl (by simp only [evaluateFire, hp])
  | forming =>
    have : evaluateFire s = actOnCondition s := by simp only [evaluateFire, hp]
    rw [this]; exact .inr ⟨.inl rfl, act⟩
  | blocked =>
    have : evaluateFire s = actOnCondition s := by simp only [evaluateFire, hp]
    rw [this]; exact .inr ⟨.inr rfl, act⟩

/-! ## The line sequencer -/

/-- The press command is queued and no longer owed, or stays owed (R129). -/
theorem queuePressCommand_cases (s : State) :
    (∃ dest, s.talkNode talkPress = some dest ∧ s.port.hasRoom .urgent = true ∧
      queuePressCommand s =
        { handFrame dest (.pressCmd (LineMode.pressRuns s.sequencer.mode)) s with
          sequencer := { s.sequencer with pressOwed := false } }) ∨
    ((s.talkNode talkPress = none ∨ s.port.hasRoom .urgent = false) ∧
      queuePressCommand s = { s with sequencer := { s.sequencer with pressOwed := true } }) := by
  cases hd : s.talkNode talkPress with
  | none => exact .inr ⟨.inl rfl, by simp only [queuePressCommand, hd]⟩
  | some dest =>
    cases hr : s.port.hasRoom .urgent with
    | true => exact .inl ⟨dest, rfl, rfl, by simp [queuePressCommand, hd, hr]⟩
    | false => exact .inr ⟨.inr rfl, by simp [queuePressCommand, hd, hr]⟩

/-- A raised fault counts a listed code, or lists it with its report and may change the mode (R132). -/
theorem raiseFault_cases (code : FaultCode) (d : Nat) (s : State) :
    (s.sequencer.lists code = true ∧
      raiseFault code d s =
        { s with sequencer := { s.sequencer with faults := bumpFault code s.sequencer.faults } }) ∨
    (s.sequencer.lists code = false ∧
      let after := modeAfterFault s.sequencer.mode s.sequencer.faults.isEmpty
      let listed := queueReport (.faultRaised code d s.sequencer.mode after)
        { s with sequencer := { s.sequencer with
            faults := s.sequencer.faults ++ [{ code := code, time := s.lineTime, count := 1, detail := d }] } }
      raiseFault code d s =
        if after = s.sequencer.mode then listed else enterModeCore after .fault (some code) listed) := by
  cases h : s.sequencer.lists code
  · exact .inr ⟨rfl, by simp only [raiseFault, h]; rfl⟩
  · exact .inl ⟨rfl, by simp [raiseFault, h]⟩

/-! ## The zone climate unit -/

/-- A zone command is dropped without an entry or room, takes the place of its like, or joins the tail (R104). -/
theorem queueZoneCommand_cases (role : Nat) (body : FrameBody) (s : State) :
    queueZoneCommand role body s = s ∨
    (∃ dest, s.talkNode role = some dest ∧
      ((hasZoneCommand body s.port.routine = true ∧
        queueZoneCommand role body s = { s with port := { s.port with
          frameCount := s.nextFrame,
          routine := replaceZoneCommand { number := s.nextFrame, dest := dest, body := body }
            s.port.routine } }) ∨
       (hasZoneCommand body s.port.routine = false ∧ s.port.hasRoom .routine = true ∧
        queueZoneCommand role body s = handFrame dest body s))) := by
  cases hd : s.talkNode role with
  | none => exact .inl (by simp only [queueZoneCommand, hd])
  | some dest =>
    cases hz : hasZoneCommand body s.port.routine with
    | true => exact .inr ⟨dest, rfl, .inl ⟨rfl, by simp [queueZoneCommand, hd, hz]⟩⟩
    | false =>
      cases hr : s.port.hasRoom .routine with
      | true => exact .inr ⟨dest, rfl, .inr ⟨rfl, rfl, by simp [queueZoneCommand, hd, hz, hr]⟩⟩
      | false => exact .inl (by simp [queueZoneCommand, hd, hz, hr])

/-! ## The measurement slots -/

/-- A slot made LOST reports its passage only when it was not LOST already (R148). -/
theorem makeLost_cases (role : Nat) (s : State) :
    (s.isLost role = true ∧ makeLost role s = s.setSlot role (s.slot role).madeLost) ∨
    (s.isLost role = false ∧ makeLost role s = reportLoss role (s.setSlot role (s.slot role).madeLost)) := by
  cases h : s.isLost role <;> simp [makeLost, h]

end Sys2Proof.Machine
end

