-- ==== Sys2Proof/Laws/Climate.lean ====
section
/-!
SUPPORT. The stagger generator, the zone commands and the parameter ranges, in the words of the statements.
-/

namespace Sys2Proof.Machine

/-- A parity of four is the exclusive-or of four. -/
theorem parity_of_four (a b c d : Nat) :
    (a + b + c + d) % 2 =
      Bool.toNat (decide (a % 2 = 1) ^^ decide (b % 2 = 1) ^^ decide (c % 2 = 1) ^^ decide (d % 2 = 1)) := by
  rcases Nat.mod_two_eq_zero_or_one a with ha | ha <;> rcases Nat.mod_two_eq_zero_or_one b with hb | hb <;>
    rcases Nat.mod_two_eq_zero_or_one c with hc | hc <;> rcases Nat.mod_two_eq_zero_or_one d with hd | hd <;>
    simp [ha, hb, hc, hd] <;> omega

/-- The generator's step is the one R106 spells. -/
theorem staggerStep_eq (g : BitVec 16) : staggerStep g = staggerNext g := by
  have bit (i : Nat) : g.getLsbD i = decide (g.toNat / 2 ^ i % 2 = 1) := by
    rw [BitVec.getLsbD, Nat.testBit_eq_decide_div_mod_eq]
  have hx : (g.toNat / 32768 + g.toNat / 8192 + g.toNat / 4096 + g.toNat / 1024) % 2 =
      Bool.toNat (g.getLsbD 15 ^^ g.getLsbD 13 ^^ g.getLsbD 12 ^^ g.getLsbD 10) := by
    rw [parity_of_four, bit, bit, bit, bit]
    simp only [Bool.xor_assoc]
    rfl
  unfold staggerStep staggerNext
  rw [hx]
  generalize (g.getLsbD 15 ^^ g.getLsbD 13 ^^ g.getLsbD 12 ^^ g.getLsbD 10) = b
  have disjoint : (g <<< 1) &&& BitVec.ofNat 16 b.toNat = 0#16 := by
    cases b
    · exact BitVec.and_zero
    · apply BitVec.eq_of_getLsbD_eq
      intro i hi
      cases i <;> simp [BitVec.getLsbD_and, BitVec.getLsbD_shiftLeft]
  rw [← BitVec.add_eq_or_of_and_eq_zero _ _ disjoint]
  apply BitVec.eq_of_toNat_eq
  simp [BitVec.toNat_shiftLeft, Nat.shiftLeft_eq, Nat.mul_comm]

end Sys2Proof.Machine
end

