-- ==== Sys2Proof/Laws/Directives.lean ====
section
/-!
SUPPORT. How a started directive runs: it starts, and with the part's management queue in room its response stands
there.
-/

namespace Sys2Proof.Machine

/-- A directive that starts in the words of the statements starts in the machine (R168). -/
theorem startable_of_starts {s : State} {d : Directive} (h : Starts s d) : s.startable d false = true := by
  obtain ⟨h1, h2, -⟩ := h
  cases hd : s.agent.directives with
  | nil => simp [hd] at h1
  | cons x xs =>
    obtain rfl : x = d := by simpa [hd] using h1
    simp [State.startable, State.atHead, hd, Port.hasRoom, queueCapacity, Config.managementCapacity, h2]

/-- The same for a model table write between sweeps (R91, R168). -/
theorem startable_of_startsBetweenSweeps {s : State} {d : Directive} (h : StartsBetweenSweeps s d) :
    s.startable d true = true := by
  have h1 := startable_of_starts h.1
  simp [State.startable] at h1 ⊢
  exact ⟨h1, h.2⟩

/-- A directive whose execution leaves an ordinary node with room in the management queue is answered there. -/
theorem respond_answered (s : State) (d : Directive) (o : OutcomeCode) (body : List Byte) (effect : State → State)
    (h1 : (effect (popDirective s)).port.silent = false)
    (h2 : (effect (popDirective s)).port.fill .management < 6) :
    respond d { state := effect (popDirective s), outcome := o, body := body } =
      answered s d o body effect := by
  rw [respond_eq _ _ h1 h2]; rfl

/-- A directive row that starts and whose execution makes `effect` is answered with it (R168, R170). -/
theorem runDirective_answered {s : State} {d : Directive} {gap : Bool} {act : List Byte → State → Answer}
    {o : OutcomeCode} {body : List Byte} {effect : State → State} (hs : s.startable d gap = true)
    (ha : act d.args (popDirective s) = { state := effect (popDirective s), outcome := o, body := body })
    (h1 : (effect (popDirective s)).port.silent = false)
    (h2 : (effect (popDirective s)).port.fill .management < 6) :
    runDirective d gap act s = answered s d o body effect := by
  simp only [runDirective, hs, if_true, ha]
  exact respond_answered s d o body effect h1 h2

/-- A directive row that starts and is refused changes nothing but the queue and the response (R169, R170). -/
theorem runDirective_refused {s : State} {d : Directive} {gap : Bool} {act : List Byte → State → Answer}
    {o : OutcomeCode} (hs : s.startable d gap = true) (hd : Starts s d)
    (ha : act d.args (popDirective s) = refuse o (popDirective s)) :
    runDirective d gap act s = answered s d o [] id :=
  runDirective_answered hs ha hd.2.2 hd.2.1

end Sys2Proof.Machine
end

