-- ==== Sys2Proof/Laws/Pacer.lean ====
section
/-!
SUPPORT. What an evaluation of the pacer leaves, in the words of the statements.
-/

namespace Sys2Proof.Machine

/-- The fire condition of the machine is that of the statements (R26). -/
theorem fireCondition_iff (s : State) (target : Nat) :
    s.pacer.fireCondition target = true ↔ FireConditionHolds s target := by
  simp [Pacer.fireCondition, Pacer.reach, FireConditionHolds]

/-- No interlock fails exactly when all six hold, with some destination (R29). -/
theorem failingInterlock_eq_zero_iff (s : State) :
    s.failingInterlock = 0 ↔ ∃ dest, InterlocksHold s dest := by
  unfold State.failingInterlock InterlocksHold
  cases LineMode.allowsFires s.sequencer.mode <;> cases hs : s.chain.station <;> cases hc : s.chain.step? <;>
    cases hl : s.isLost roleKnifeCount <;> cases ht : s.talkNode talkKnife <;>
    by_cases hr : s.reading roleSpreader = some readyCode <;>
    simp_all [roleSpreader, roleKnifeCount, talkKnife, readyCode]

/-- What `Evaluated` asks holds of a state whose pacer state is the one that R30 gives for it. -/
theorem evaluated_congr {s t : State} {n : Nat} (hp : t.pacer = { s.pacer with state := t.pacer.state })
    (hq : t.sequencer = s.sequencer) (hl : t.lots = s.lots) (hc : t.chain = s.chain) (hg : t.signals = s.signals)
    (h : (t.pacer.state = .forming ∨ t.pacer.state = .blocked ∨
        ∃ f, t.pacer.state = .firing f ∧ f.acknowledged = false ∧ f.number = n) ∧
      ∀ target, s.curtainTarget = some target →
        (¬ FireConditionHolds s target → t.pacer.state = .forming) ∧
        (FireConditionHolds s target → (∀ dest, ¬ InterlocksHold s dest) → t.pacer.state = .blocked) ∧
        (∀ dest, FireConditionHolds s target → InterlocksHold s dest → t.pacer.state = .firing
          { kind := if s.sequencer.mode = .priming ∨ s.pacer.purgePending = true then .purge
                    else if 0 < s.pacer.gapCounter then .gap else .hang,
            target := target, acknowledged := false, number := n })) :
    Evaluated t n := by
  have e1 : t.curtainTarget = s.curtainTarget := by
    unfold State.curtainTarget State.lotSlot; rw [hq, hl, hp]
  have e2 : ∀ x, FireConditionHolds t x ↔ FireConditionHolds s x := by
    intro x; unfold FireConditionHolds; rw [hp]
  have e3 : ∀ d, InterlocksHold t d ↔ InterlocksHold s d := by
    intro d
    unfold InterlocksHold State.reading State.isLost State.slot State.talkNode
    rw [hq, hc, hg]
  have e4 : t.pacer.purgePending = s.pacer.purgePending := by rw [hp]
  have e5 : t.pacer.gapCounter = s.pacer.gapCounter := by rw [hp]
  refine ⟨h.1, fun target ht => ?_⟩
  obtain ⟨h1, h2, h3⟩ := h.2 target (e1 ▸ ht)
  rw [e2, e4, e5, hq]
  exact ⟨h1, fun a b => h2 a fun d => by rw [← e3]; exact b d, fun d a b => h3 d a ((e3 d).1 b)⟩

/-- An evaluation in FORMING or BLOCKED leaves what R30 says; its fire, if it sends one, has the next frame number. -/
theorem evaluateFire_evaluated {s : State} (h : s.pacer.state = .forming ∨ s.pacer.state = .blocked) :
    Evaluated (evaluateFire s) (inc32 s.port.frameCount) := by
  have hact : evaluateFire s = actOnCondition s := by
    rcases h with h | h <;> simp only [evaluateFire, h]
  rw [hact]
  cases ht : s.curtainTarget with
  | none =>
    have : actOnCondition s = setPacerState .forming s := by simp only [actOnCondition, ht]
    rw [this]
    exact evaluated_congr (s := s) rfl rfl rfl rfl rfl ⟨.inl rfl, fun x hx => by simp [ht] at hx⟩
  | some target =>
    by_cases hf : FireConditionHolds s target
    · have hf' := (fireCondition_iff s target).2 hf
      by_cases hi : s.failingInterlock = 0
      · obtain ⟨dest, hd⟩ := (failingInterlock_eq_zero_iff s).1 hi
        have hk : s.talkNode talkKnife = some dest := hd.2.2.2.2.2
        have : actOnCondition s = sendFire target dest s := by
          simp only [actOnCondition, ht, hf', hi, hk]; rfl
        rw [this]
        have hst : (sendFire target dest s).pacer.state = .firing
            { kind := s.fireKind, target := target, acknowledged := false, number := inc32 s.port.frameCount } := rfl
        refine evaluated_congr (s := s) ?_ (by simp) (by simp) (by simp) (by simp)
          ⟨.inr (.inr ⟨_, hst, rfl, rfl⟩), fun x hx => ?_⟩
        · simp [sendFire]
        · obtain rfl : target = x := by simpa [ht] using hx
          refine ⟨fun a => absurd hf a, fun _ b => absurd hd (b dest), fun d _ _ => ?_⟩
          rw [hst]
          have hm := hd.1
          cases hmode : s.sequencer.mode <;> simp_all [State.fireKind, LineMode.allowsFires]
      · have : actOnCondition s = setPacerState .blocked s := by simp [actOnCondition, ht, hf', hi]
        rw [this]
        refine evaluated_congr (s := s) rfl rfl rfl rfl rfl ⟨.inr (.inl rfl), fun x hx => ?_⟩
        obtain rfl : target = x := by simpa [ht] using hx
        exact ⟨fun a => absurd hf a, fun _ _ => rfl,
          fun d _ b => absurd ((failingInterlock_eq_zero_iff s).2 ⟨d, b⟩) hi⟩
    · have hf' : s.pacer.fireCondition target = false := by
        simpa using fun e => hf ((fireCondition_iff s target).1 e)
      have : actOnCondition s = setPacerState .forming s := by simp [actOnCondition, ht, hf']
      rw [this]
      refine evaluated_congr (s := s) rfl rfl rfl rfl rfl ⟨.inl rfl, fun x hx => ?_⟩
      obtain rfl : target = x := by simpa [ht] using hx
      exact ⟨fun _ => rfl, fun a => absurd a hf, fun _ a => absurd a hf⟩

/-- After the end of a fire the pacer is IDLE in a mode without fires (R34, R38, R45). -/
theorem afterFireEnd_idle {s : State} (h : LineMode.allowsFires s.sequencer.mode = false) :
    (afterFireEnd s).pacer.state = .idle := by
  simp [afterFireEnd, State.restState, h, evaluateFire, setPacerState]

/-- In PRIMING and RUNNING the end of a fire is an evaluation (R27, R34, R38, R45). -/
theorem afterFireEnd_evaluated {s : State} (h : LineMode.allowsFires s.sequencer.mode = true) :
    Evaluated (afterFireEnd s) (inc32 s.port.frameCount) := by
  have hd : s.sequencer.mode ≠ .draining := by rintro e; simp [e, LineMode.allowsFires] at h
  have : afterFireEnd s = evaluateFire (setPacerState s.restState s) := by
    unfold afterFireEnd
    rcases tryInsertion_cases (evaluateFire (setPacerState s.restState s)) with ⟨a, -⟩ | ⟨-, a⟩
    · simp [State.insertionDue, setPacerState, hd] at a
    · exact a
  rw [this]
  exact evaluateFire_evaluated (.inl (by simp [setPacerState, State.restState, h]))

end Sys2Proof.Machine
end

