-- ==== Sys2Proof/Tests/Slice0.lean ====
section
/-!
SUPPORT. Tests: an ill-formed command for each check of WellFormed, the worked examples of the spec, and for each
statement with hypotheses a state and operands that meet them.
-/

namespace Sys2Proof.Tests

open Sys2Proof.Machine

/-! ## Helpers -/

/-- The state an outcome leaves. -/
def after (o : Host.Outcome State Fault Refusal) : State :=
  match o with
  | .next t => t
  | .fault r => nomatch r
  | .refused _ => State.reset

/-- What the supervisor sends, with tag 1. -/
def req (args : List Byte) : Request := { tag := 1, sender := 0, args := args }

/-- A directive stands at the head of the directive queue. -/
def led (d : Directive) (s : State) : State := { s with agent := { s.agent with directives := [d] } }

/-- The state after the row `c` of directive `d`. -/
def ran (c : Instr) (s : State) : State :=
  after (exec c (led ((directiveRow c).getD default) s))

/-- The body of the last frame in the management queue. -/
def answer (s : State) : Option FrameBody := s.port.management.getLast?.map Frame.body

/-- The slot of a role given a value. -/
def probe (role : Nat) (v : Int) (s : State) : State :=
  s.setSlot role { Slot.initial with
    freshness := .fresh, value := v, received := true, staleTimer := .running 10, lostTimer := .running 20 }

/-- The line mode set. -/
def inMode (m : LineMode) (s : State) : State := setMode m s

/-- An outcome reported and not yet taken. -/
def reported (c : Instr) (s : State) : State := { s with handed := s.handed ++ [c] }

/-- A frame that was sent, with the number of the fires and steps in flight below. -/
def seventh : SentFrame := { number := 7, content := [1] }

/-- The talk entries configured: each role at node 20 plus its number. -/
def wired (s : State) : State :=
  { s with signals := { s.signals with talk := (List.range 28).map (fun r => some (20 + r)) } }

/-! ## Ill-formed commands -/

theorem test_illFormed_frameNumber : (Instr.knifeFireOutcome ⟨4294967296, []⟩ .nack).wellFormed = false := by decide
theorem test_illFormed_stepOutcome : (Instr.chainStepOutcome ⟨4294967296, []⟩ .nack).wellFormed = false := by decide
theorem test_illFormed_pressOutcome :
    (Instr.pressCmdOutcome ⟨4294967296, []⟩ true .nack).wellFormed = false := by decide
theorem test_illFormed_frameContent :
    (Instr.zoneCommandOutcome ⟨1, List.replicate 49 0⟩ .nack).wellFormed = false := by decide
theorem test_illFormed_orderSequence : (Instr.stripOrderOutcome ⟨1, []⟩ 16777216 .nack).wellFormed = false := by
  decide
theorem test_illFormed_speed : (Instr.speedArrival 32768 0).wellFormed = false := by decide
theorem test_illFormed_stateValue : (Instr.spreaderStateArrival 32768).wellFormed = false := by decide
theorem test_illFormed_stateValueLow : (Instr.pressStateArrival (-32769)).wellFormed = false := by decide
theorem test_illFormed_emptyGroup : (Instr.knifeCountEvents 0).wellFormed = false := by decide
theorem test_illFormed_bigGroup : (Instr.stripperCountEvents 32768).wellFormed = false := by decide
theorem test_illFormed_sameMode : (Instr.pacerModeChange .safe .safe).wellFormed = false := by decide
theorem test_illFormed_zone : (Instr.airTimerExpiry 12).wellFormed = false := by decide
theorem test_illFormed_role : (Instr.lostTimerExpiry 32).wellFormed = false := by decide
theorem test_illFormed_detail : (Instr.faultRaise .chainSlip 256).wellFormed = false := by decide
theorem test_illFormed_sender : (Instr.readTotals { tag := 0, sender := 64, args := [] }).wellFormed = false := by decide
theorem test_illFormed_longPayload : (Instr.writeTableMeq (req (List.replicate 46 0))).wellFormed = false := by decide
theorem test_illFormed_longMode : (Instr.modeSafe (req (List.replicate 46 0))).wellFormed = false := by decide
theorem test_illFormed_writableTable : (Instr.writeTableUnwritable (req [10])).wellFormed = false := by decide
theorem test_illFormed_knownMode : (Instr.modeUnknownArgument (req [7])).wellFormed = false := by decide
theorem test_illFormed_knownCode : (Instr.unknownDirective 0 [1, 0x14]).wellFormed = false := by decide
theorem test_illFormed_unknownSender : (Instr.unknownDirective 64 [1, 0x15]).wellFormed = false := by decide
theorem test_illFormed_run : (Instr.dominantRun 10).wellFormed = false := by decide
theorem test_illFormed_longRun : (Instr.dominantRun 64).wellFormed = false := by decide
theorem test_wellFormed_boundaries :
    (Instr.speedArrival 32767 0).wellFormed && (Instr.dominantRun 63).wellFormed &&
    (Instr.writeTableUnwritable (req [11])).wellFormed && (Instr.modeUnknownArgument (req [8])).wellFormed &&
    (Instr.lostTimerExpiry 31).wellFormed && (Instr.unknownDirective 63 [1, 0x15]).wellFormed = true := by decide

/-! ## Worked examples of the spec -/

/-- Lot A of the worked changeover and of the worked cut plan (sections 1.8, 6.9). -/
def headerA : LotHeader :=
  { LotHeader.cleared with
    lotNumber := 24031, changeoverClass := 1, hangTarget := 2000, initialMoisture := 3000,
    acceptMax := 1250, pieceLength := 250, topTrim := 60, bottomTrim := 20 }

/-- Lot B of the worked changeover. -/
def headerB : LotHeader := { headerA with lotNumber := 24055, changeoverClass := 2 }

/-- Slot `i` holds a lot with a count of `n`. -/
def lotIn (i : Nat) (life : SlotLife) (h : LotHeader) (stages : List Stage) (n : Nat) (s : State) : State :=
  s.setLot i { life := life, header := h, stages := stages, refCount := n }

/-- Lot A ACTIVE in slot 2 with 412 canes. -/
def lotA (s : State) : State :=
  let t := lotIn 2 .active headerA [] 412 s
  { t with lots := { t.lots with active := some 2 } }

/-- Lot B READY in slot 5 and armed, with GAP[1][2] = 3. -/
def armedB (s : State) : State :=
  let t := lotIn 5 .ready headerB [] 0 s
  { t with lots := { t.lots with armed := some 5, gap := (List.replicate 16 0).set 6 3 } }

/-- A fire in flight. -/
def firing (k : FireKind) (s : State) : State :=
  setPacerState (.firing { kind := k, target := 2000, acknowledged := true, number := 7 }) s

/-- RUNNING with lot A and a HANG fire in flight, at the figures of section 2.12. -/
def cutting : State :=
  let s := firing .hang (inMode .running (lotA State.reset))
  { s with
    lineTime := 1240,
    pacer := { s.pacer with acc := 1999750000, lastSpeed := 9500, correction := 1500 } }

/-- Section 2.12: c becomes 1,438 µm. -/
theorem test_knifeCount_correction : (after (exec (.knifeCountEvents 1) cutting)).pacer.correction = 1438 := by
  decide

/-- Section 2.12: the hung total grows by 1,999,750,000 nm and A is 0. -/
theorem test_knifeCount_hung :
    (after (exec (.knifeCountEvents 1) cutting)).pacer.hung = 1999750000 ∧
    (after (exec (.knifeCountEvents 1) cutting)).pacer.acc = 0 := by decide

/-- Section 1.8 step 1: slot 2 RETIRING with 413, slot 5 ACTIVE, the gap counter 3. -/
theorem test_switch_counts :
    ((after (exec (.knifeCountEvents 1) (armedB cutting))).lotSlot 2).refCount = 413 ∧
    ((after (exec (.knifeCountEvents 1) (armedB cutting))).lotSlot 2).life = .retiring ∧
    (after (exec (.knifeCountEvents 1) (armedB cutting))).lots.active = some 5 ∧
    (after (exec (.knifeCountEvents 1) (armedB cutting))).pacer.gapCounter = 3 := by decide

/-- Section 2.12: the 2,092nd sample fires; the one before does not. -/
def forming (acc : Nat) : State :=
  let s := wired (probe 1 0 (probe 2 1 (inMode .running (lotA State.reset))))
  { s with
    pacer := { s.pacer with
      acc := acc, lastSpeed := 9500, correction := 1500, lastTick := some 100, state := .forming,
      params := { s.pacer.params with knifeLead := 1200 } } }

theorem test_speed_shortOfThreshold :
    (after (exec (.speedArrival 9500 200) (forming 1985500000))).pacer.state = .forming := by decide

theorem test_speed_fires :
    (after (exec (.speedArrival 9500 200) (forming 1986450000))).pacer.fire?.map Fire.target = some 2000 ∧
    (after (exec (.speedArrival 9500 200) (forming 1986450000))).pacer.acc = 1987400000 := by decide

/-- Section 6.9: the cut plan and the disposition. -/
def excursed : Product :=
  { lot := 0, length := 2004350, moisture := 1240, lastUpdate := 0, stage := 0, stageEntry := 0,
    climateUnknown := false, stageOverrun := true, markReject := false, markHold := false,
    excursion := some { zone := 0, time := 0, temperature := 0, humidity := 0, stage := 0 } }

theorem test_cutPlan_long :
    pieceCount headerA 2004350 = 7 ∧ scrapLength headerA 2004350 = 254350 ∧
    dispositionOf headerA excursed 7 = .pack ∧
    dispositionOf { headerA with policy := .divert } excursed 7 = .divert := by decide

theorem test_cutPlan_short :
    pieceCount headerA 300000 = 0 ∧ scrapLength headerA 300000 = 300000 ∧
    dispositionOf headerA { excursed with excursion := none } 0 = .divert := by decide

/-- Section 4.11: 3,000 becomes 2,876 after 300 s, and 2,325 after two hours. -/
theorem test_moisture_update :
    newMoisture 3000 1650 (fraction 1200 (elapsedSeconds 5160 4860)) = 2876 ∧
    newMoisture 3000 1650 (fraction 1200 (elapsedSeconds 12060 4860)) = 2325 ∧
    tempBand Drying.initial 785 = 3 ∧ rhBand 720 = 7 := by decide

/-- Section 5.9: the demands, the outputs of the three forms, and the slew of one sweep. -/
theorem test_climate_demand :
    demandOf 800 40 780 = 50 ∧ demandOf 800 40 805 = -12 ∧ demandOf 650 40 700 = -125 := by decide

theorem test_climate_outputs :
    firstOutput .single 50 = 177 ∧ firstOutput .single (-125) = 2 ∧ secondOutput .divided 20 (-125) = 125 ∧
    secondOutput .biased 20 (-125) = 127 ∧ secondOutput .biased 20 (-12) = 32 ∧
    firstOutput .biased (-12) = 0 := by decide

theorem test_climate_slew : slewed 760 700 20 60 = 740 ∧ slewed 740 700 20 60 = 720 := by decide

/-- Section 5.10: the stagger generator. -/
theorem test_stagger :
    staggerStep 0x9B3D = 0x367A ∧ staggerStep 0x367A = 0x6CF5 ∧ staggerStep 0x6CF5 = 0xD9EA ∧
    staggerStep 0xD9EA = 0xB3D4 ∧ staggerNext 0xD9EA = 0xB3D4 := by decide

/-- Section 5.10: three zones configured at line time 500 expire at 831, 863 and 805. -/
def threeZones (s : State) : State :=
  let z (a b : Nat) : ZoneEntry :=
    { ZoneEntry.zero with first := a, last := b, tMax := 900, rhMax := 850, airBase := 300, airJitter := 120 }
  { s with canes := { s.canes with zones := [z 0 3, z 4 7, z 8 9] ++ List.replicate 9 .zero } }

def zoned : State := ran (.writeTableZoneCount (req [0, 1, 3])) { threeZones State.reset with lineTime := 500 }

theorem test_zoneCount_timers :
    (zoned.zoneState 0).airTimer = .running 831 ∧ (zoned.zoneState 1).airTimer = .running 863 ∧
    (zoned.zoneState 2).airTimer = .running 805 ∧ zoned.canes.pExit = some 9 ∧
    zoned.climate.stagger = staggerNext^[3] 0x9B3D := by decide

theorem test_airTimer_turns :
    ((after (exec (.airTimerExpiry 2) { zoned with lineTime := 805 })).zoneState 2).airTimer = .running 1161 ∧
    ((after (exec (.airTimerExpiry 2) { zoned with lineTime := 805 })).zoneState 2).direction = .reverse := by
  decide

/-- Section 8.7: the steps of the knife count. -/
theorem test_counts :
    eventsOf (some 412) 412 = 0 ∧ eventsOf (some 412) 413 = 1 ∧ eventsOf (some 413) 415 = 2 ∧
    eventsOf none 417 = 0 ∧ countStep 417 3 = 65122 ∧ eventsOf (some 417) 3 = 0 ∧ eventsOf (some 3) 4 = 1 := by
  decide

/-- A SAMPLE from node 21 with one item on channel 2 (R177, R178). -/
def sample (status : Byte) (hi lo : Byte) : List RxChar :=
  let head : List Byte := [0x95, 0x01, 0x3F, 0x04, 0x02, status, hi, lo]
  (head ++ [crc8 head]).map sendChar

/-- A SAMPLE from node 21 with the items of its payload (R177, R178). -/
def samples (payload : List Byte) : List RxChar :=
  let head : List Byte := [0x95, 0x01, 0x3F, BitVec.ofNat 8 payload.length] ++ payload
  (head ++ [crc8 head]).map sendChar

/-- The knife count's listen entry is configured and a reception is open. -/
def listening : State :=
  let s := State.reset
  { s with
    clock := 102000,
    signals := { s.signals with listen := s.signals.listen.set 1 (some { node := 21, channel := 2 }) },
    port := { s.port with reception := .receiving, synced := true } }

set_option maxRecDepth 20000 in
theorem test_sample_setsTheBaseline :
    ((after (exec (.receptionEnd (sample 0 0x01 0x9C) .endMark) listening)).slot 1).baseline = some 412 ∧
    (after (exec (.receptionEnd (sample 0 0x01 0x9C) .endMark) listening)).handed = [] := by decide

set_option maxRecDepth 20000 in
theorem test_sample_badCheckIsCounted :
    (after (exec (.receptionEnd ((sample 0 1 0x9C).set 8 (sendChar 0)) .endMark) listening)).port.counts.check =
      1 := by decide

/-- R156: the CRC-8 with polynomial 07h of the one byte 01h is 07h. -/
theorem test_crc : crc8 [0x01] = 0x07 ∧ crc8 [] = 0 := by decide

/-- Section 9.6: the claims of node 12 at urgencies 3 and 2 are CCh and 8Ch. -/
theorem test_claims :
    (frameBytes 12 { number := 1, dest := 21, body := .knifeFire false }).head? = some 0xCC ∧
    (frameBytes 12 { number := 1, dest := 21, body := .airDir 3 .forward }).head? = some 0x8C := by decide

/-- Section 7.9: a second fault safes the line. -/
theorem test_secondFault :
    (after (exec (.faultRaise .dischargeStall 0)
      (after (exec (.faultRaise .overlength 2) (inMode .running State.reset))))).sequencer.mode = .safe ∧
    (after (exec (.faultRaise .overlength 2) (inMode .running State.reset))).sequencer.mode = .holding := by
  decide

/-- Power-on leaves the state of reset when the straps are those of reset. -/
theorem test_powerOn : after (exec (.powerOnReset 12) State.reset) = State.reset := by decide

/-- The host's one step from the queue. -/
theorem test_step_takesTheFront :
    (after (step { State.reset with pending := [.trunkReset, .lineClockTick] })).pending = [.lineClockTick] := by
  decide

/-! ## Witnesses: what meets the hypotheses of the statements -/

/-- A directive at the head starts in a part with room. -/
theorem starts_led (d : Directive) (s : State) (h1 : s.port.fill .management < 6) (h2 : s.port.silent = false) :
    Starts (led d s) d := ⟨rfl, h1, h2⟩

/-- The reset state starts any directive. -/
theorem starts_reset (d : Directive) : Starts (led d State.reset) d := starts_led d _ (by decide) (by decide)

/-- So does the reset state in another mode. -/
theorem starts_inMode (m : LineMode) (d : Directive) : Starts (led d (inMode m State.reset)) d :=
  starts_led d _ (show State.reset.port.fill .management < 6 by decide)
    (show State.reset.port.silent = false by decide)

/-- A frame with a body. -/
def frame (b : FrameBody) : Frame := { number := 5, dest := 9, body := b }

/-- The port changed. -/
def withPort (f : Port → Port) (s : State) : State := { s with port := f s.port }

/-- A management queue that holds `n` responses. -/
def managementFill (n : Nat) (s : State) : State :=
  withPort (fun p => { p with management := List.replicate n (frame (.response 0 0 .done [])) }) s

/-- An urgent queue that holds its four frames. -/
def urgentFull (s : State) : State :=
  withPort (fun p => { p with urgent := List.replicate 4 (frame (.pressCmd true)) }) s

/-- The part with the node number of a silent listener. -/
def silenced (s : State) : State := withPort (fun p => { p with node := 63 }) s

theorem witness_StepTakesTheFrontCommand :
    ({ State.reset with pending := [.frameDraw] } : State).pending = .frameDraw :: [] := rfl

theorem witness_PowerOnValuesAndTheLineClock :
    (State.reset.lineTime = State.reset.clock / 10000 ∧ State.reset.lineTime + 1 < 4294967296) ∧
    (let s : State := { State.reset with clock := 42949672949999, lineTime := 4294967294 }
     s.lineTime = s.clock / 10000 ∧ s.lineTime + 1 < 4294967296) := by decide

theorem witness_LineConditionsAndResetsSetTheTrunk :
    (State.reset.port.reception = .closed ∧ State.reset.port.trunk ≠ .reset) ∧
    (let s := withPort (fun p => { p with trunk := .reset }) State.reset
     s.port.reception = .closed ∧ s.port.trunk = .reset) ∧
    (listening.port.reception ≠ .closed ∧ listening.port.trunk ≠ .reset) := by decide

/-- R157, R177: an idle gap in a reception counts the frame that it cuts off, once, and closes the reception. -/
theorem test_idleGap_cutsOff :
    let t := after (exec (.idleGap []) listening)
    t.port.counts.length = 1 ∧ t.port.reception = .closed ∧ t.port.trunk = .idle := by decide

/-- A frame of node 5 with the given kind character and no payload, with its check. -/
def bare (kind dest : Byte) : List RxChar :=
  let head : List Byte := [0x45, kind, dest, 0]
  (head ++ [crc8 head]).map sendChar

set_option maxRecDepth 20000 in
theorem witness_DiscardedFramesAreCountedOnce :
    ((frameChars [{ lead := true, data := 0, parity := true }]).any RxChar.parityError = true) ∧
    ((frameChars []).any RxChar.parityError = false ∧ lengthOk ([] : List Byte) = false) ∧
    (let cs := (bare 2 9).set 4 (sendChar 1)
     (frameChars cs).any RxChar.parityError = false ∧ lengthOk (cs.map RxChar.data) = true ∧
     checkOk (cs.map RxChar.data) = false) ∧
    (let cs := bare 6 9
     (frameChars cs).any RxChar.parityError = false ∧ lengthOk (cs.map RxChar.data) = true ∧
     checkOk (cs.map RxChar.data) = true ∧ kindOk (cs.map RxChar.data) = false) ∧
    (discardCause (bare 5 9) true = none ∧ rxKind ((bare 5 9).map RxChar.data) ≠ 1) ∧
    listening.port.reception ≠ .closed := by decide

/-- The slot of the knife count after 412. -/
def counting (baseline : Option Nat) : State :=
  listening.setSlot 1 { (probe 1 412 State.reset).slot 1 with baseline := baseline }

set_option maxRecDepth 20000 in
theorem witness_SampleItemsReachTheirSlot :
    let item (st : Byte) := parseItem (rxPayload ((sample st 1 0x9D).map RxChar.data))
    listening.port.reception ≠ .closed ∧ listening.signals.slots.length = 32 ∧
    discardCause (sample 1 1 0x9D) true = none ∧ rxKind ((sample 1 1 0x9D).map RxChar.data) = 1 ∧
    (rxPayload ((sample 1 1 0x9D).map RxChar.data)).length = 4 ∧
    listening.roleOf (claimNode ((sample 1 1 0x9D).map RxChar.data)) (item 1).channel = some 1 ∧
    (item 1).status ≤ 1 ∧ 2 ≤ (item 2).status ∧ discardCause (sample 2 1 0x9D) true = none ∧
    (listening.slot 1).freshness = .lost ∧ (listening.slot 1).baseline = none ∧
    ((counting (some 412)).slot 1).freshness ≠ .lost ∧ State.reset.roleOf 21 2 = none ∧
    (∀ p ∈ [[], [2, 0, 1], List.replicate 36 0], discardCause (samples p) true = none ∧
      ((rxPayload ((samples p).map RxChar.data)).length = 0 ∨
       (rxPayload ((samples p).map RxChar.data)).length % 4 ≠ 0 ∨
       32 < (rxPayload ((samples p).map RxChar.data)).length)) := by decide

set_option maxRecDepth 20000 in
theorem witness_SampleItemsReachTheirSlot_severalItems :
    let payload (x : List RxChar) := rxPayload (x.map RxChar.data)
    let cs := samples [2, 0, 1, 0x9D, 3, 0, 0, 1]
    let first := samples [2, 0, 1, 0x9D]
    let others := samples [3, 0, 0, 1]
    (∀ x ∈ [cs, first, others], discardCause x true = none ∧ rxKind (x.map RxChar.data) = 1 ∧
       claimNode (x.map RxChar.data) = claimNode (cs.map RxChar.data) ∧
       payload x ≠ [] ∧ (payload x).length % 4 = 0 ∧ (payload x).length ≤ 32) ∧
    payload cs = payload first ++ payload others := by decide

/-- Every role of a listen table listens to its own channel of node 21. -/
def hearing (role : Nat) : State :=
  { listening with signals := { listening.signals with
      listen := (List.replicate 32 none).set role (some { node := 21, channel := 2 }) } }

set_option maxRecDepth 20000 in
/-- R150: a speed is handed to the pacer with its tick, and the first READY of a LOST spreader to it too. -/
theorem test_sample_handsOn :
    (after (exec (.receptionEnd (sample 0 0x01 0x9C) .endMark) (hearing 0))).handed = [.speedArrival 412 102000] ∧
    (after (exec (.receptionEnd (sample 0 0 1) .endMark) (hearing 2))).handed = [.spreaderStateArrival 1] := by
  decide

set_option maxRecDepth 20000 in
theorem witness_RollingCountsDeliverGroups :
    (1, Instr.knifeCountEvents) ∈ ([(1, .knifeCountEvents), (3, .chainCountEvents), (4, .chainIndexEvents),
      (7, .stripperCountEvents)] : List (Nat × (Nat → Instr))) ∧
    ((counting (some 412)).slot 1).freshness ≠ .lost ∧ ((counting (some 412)).slot 1).baseline = some 412 ∧
    (parseItem (rxPayload ((sample 0 1 0x9D).map RxChar.data))).value % 65536 = (412 + 1 : Nat) % 65536 ∧
    (parseItem (rxPayload ((sample 0 1 0x9C).map RxChar.data))).value % 65536 = (412 + 0 : Nat) % 65536 ∧
    (parseItem (rxPayload ((sample 0 0x81 0x9C).map RxChar.data))).value % 65536 =
      (412 + 32768 : Nat) % 65536 ∧
    (parseItem (rxPayload ((sample 0 0x81 0x9B).map RxChar.data))).value % 65536 =
      (412 + 32767 : Nat) % 65536 ∧
    ((counting none).slot 1).baseline = none ∧ ((counting none).slot 1).freshness ≠ .lost ∧
    (listening.slot 1).freshness = .lost ∧ listening.port.silent = false ∧ listening.port.fill .urgent < 4 ∧
    (counting (some 412)).roleOf 21 2 = some 1 ∧ claimNode ((sample 0 1 0x9D).map RxChar.data) = 21 := by
  refine ⟨by simp, ?_⟩
  decide

/-- A directive LOT_SEAL of slot 3 to node 12 from the node of its claim. -/
def sealFrame (sender dest : Byte) : List RxChar :=
  let head : List Byte := [0x40 + sender, 3, dest, 3, 1, 0x0A, 3]
  (head ++ [crc8 head]).map sendChar

set_option maxRecDepth 20000 in
theorem witness_DirectivesAreAcknowledgedAndQueued :
    listening.port.reception = .receiving ∧ listening.port.silent = false ∧
    discardCause (sealFrame 0 12) true = none ∧ rxKind ((sealFrame 0 12).map RxChar.data) = 3 ∧
    rxDest ((sealFrame 0 12).map RxChar.data) = listening.port.node ∧
    claimNode ((sealFrame 0 12).map RxChar.data) = listening.agent.supervisor ∧
    listening.agent.directives.length < 4 ∧
    (discardCause (sealFrame 5 12) true = none ∧
      claimNode ((sealFrame 5 12).map RxChar.data) ≠ listening.agent.supervisor) ∧
    (discardCause (sealFrame 0 13) true = none ∧
      rxDest ((sealFrame 0 13).map RxChar.data) ≠ listening.port.node) ∧
    (silenced listening).port.silent = true ∧ discardCause [] true ≠ none ∧
    State.reset.port.reception ≠ .receiving := by decide

set_option maxRecDepth 20000 in
/-- The directive of the frame is acknowledged and joins the queue. -/
theorem test_directiveAcknowledge :
    (after (exec (.directiveAcknowledge (sealFrame 0 12)) listening)).agent.directives =
      [{ payload := [1, 0x0A, 3], sender := 0 }] := by decide

/-- An idle trunk with frames waiting. -/
def waiting (u r m : List FrameBody) : State :=
  withPort (fun p => { p with
    trunk := .idle, urgent := u.map frame, routine := r.map frame, management := m.map frame }) State.reset

theorem witness_FramesAreDrawnAndEnd :
    ((waiting [.knifeFire false] [] []).port.trunk = .idle ∧
      (waiting [.knifeFire false] [] []).port.contention = none ∧
      (waiting [.knifeFire false] [] []).port.urgent = frame (.knifeFire false) :: []) ∧
    ((waiting [] [.airDir 1 .forward] []).port.routine = frame (.airDir 1 .forward) :: []) ∧
    ((waiting [] [] [.response 0 0 .done []]).port.management = frame (.response 0 0 .done []) :: []) ∧
    (let s := withPort (fun p => { p with contention := some (frame (.airDir 1 .forward)) })
       (waiting [] [.airDir 1 .reverse] [])
     s.port.contention = some (frame (.airDir 1 .forward)) ∧
     zoneKey (frame (.airDir 1 .forward)).body ≠ none ∧
     ∃ g ∈ s.port.routine, zoneKey g.body = zoneKey (frame (.airDir 1 .forward)).body) := by
  refine ⟨⟨rfl, rfl, rfl⟩, rfl, rfl, rfl, by decide, frame (.airDir 1 .reverse), by decide, rfl⟩

theorem witness_ClimateAndManagementOutcomesChangeNothing :
    (let c : Instr := .zoneCommandOutcome seventh .nack
     (reported c State.reset).nextOutcome = some c ∧ isOutcome c = true) ∧
    (let c : Instr := .managementFrameOutcome seventh .neverSent
     (reported c State.reset).nextOutcome = some c ∧ (reported c State.reset).nextOutcome ≠
       some (.zoneCommandOutcome seventh .nack)) := by decide

/-- R164: outcomes come in the order the frames ended, each once. -/
theorem test_outcomes_inOrder :
    let a : Instr := .pressCmdOutcome seventh false .nack
    let b : Instr := .zoneCommandOutcome seventh .nack
    let s := reported b (reported a (State.reset.setSequencer { Sequencer.initial with pressOwed := false }))
    (after (exec b s)).handed = [a, b] ∧ (after (exec b (after (exec a s)))).handed = [] ∧
    (after (exec a (after (exec a s)))) = after (exec a s) := by decide

/-- Section 9.6: the losing zone command is dropped for the newer one, and the claim counted. -/
theorem test_claimLost_superseded :
    let s := withPort (fun p => { p with contention := some (frame (.airDir 1 .forward)) })
      (waiting [] [.airDir 1 .reverse] [])
    (after (exec .claimLost s)).port.routine.length = 1 ∧ (after (exec .claimLost s)).port.counts.claimsLost = 1 ∧
    (after (exec .claimLost s)).handed = [.zoneCommandOutcome (frame (.airDir 1 .forward)).sent .neverSent] := by
  decide

theorem witness_FireOutcomesAreTakenOrMissed :
    (let c : Instr := .knifeFireOutcome seventh .acknowledged
     let s := reported c (setPacerState
       (.firing { kind := .hang, target := 2000, acknowledged := false, number := seventh.number }) State.reset)
     s.nextOutcome = some c ∧
     s.pacer.state = .firing { kind := .hang, target := 2000, acknowledged := false, number := 7 }) ∧
    (let c : Instr := .knifeFireOutcome seventh .nack
     (reported c cutting).nextOutcome = some c ∧ (reported c State.reset).nextOutcome = some c ∧
     (reported c cutting).pacer.state =
       .firing { kind := .hang, target := 2000, acknowledged := true, number := seventh.number } ∧
     LineMode.allowsFires cutting.sequencer.mode = true) ∧
    State.reset.pacer.fire? = none ∧
    (let s : State := cutting.setPacer { cutting.pacer with knifeTimer := .running 0 }
     s.pacer.knifeTimer = .running 0 ∧ 0 ≤ s.clock) := by
  exact ⟨⟨rfl, rfl⟩, ⟨rfl, rfl, rfl, rfl⟩, rfl, rfl, Nat.zero_le _⟩

/-- A third miss asks for KNIFE_FAULT, and the fire is gone. -/
theorem test_miss_third :
    let t := after (exec (.knifeFireOutcome seventh .nack)
      (reported (.knifeFireOutcome seventh .nack) (cutting.setPacer { cutting.pacer with missCount := 2 })))
    .faultRaise .knifeFault 0 ∈ t.handed ∧ t.pacer.state = .blocked := by decide

theorem inService_of_small (s : State) (h : s.pacer.acc ≤ 1099511627775 ∧ s.pacer.extruded < 1000 ∧
    s.pacer.hung < 1000 ∧ s.pacer.waste < 1000) : TotalsInService s := by
  unfold TotalsInService Config.accMax Config.totalModulus
  omega

theorem witness_SpeedArrivalsIntegrateAndCheckTheCurtain :
    (State.reset.pacer.state = .idle ∧ LineMode.allowsFires State.reset.sequencer.mode = false ∧
      State.reset.pacer.lastTick = none) ∧
    (let s : State := State.reset.setPacer { State.reset.pacer with lastTick := some 7, acc := 1099511627775 }
     s.pacer.state = .idle ∧ s.pacer.lastTick = some 7 ∧ TotalsInService s ∧ 7 ≤ 2007 ∧ 2007 - 7 < 4294967296) ∧
    TotalsInService (forming 2099900000) ∧
    (let s := forming 2099900000
     LineMode.allowsFires s.sequencer.mode = true ∧ s.pacer.state = .forming ∧ s.pacer.purgePending = false ∧
     s.pacer.lastTick = some 100 ∧ s.curtainTarget = some 2000 ∧
     (2000 + s.pacer.params.overlengthMargin) * 1000000 < (s.pacer.integrate 100 9500 200).acc) := by
  refine ⟨by decide, ⟨rfl, rfl, inService_of_small _ (by decide), by decide, by decide⟩,
    inService_of_small _ (by decide), by decide⟩

/-- R43: a speed below v_min in PRIMING clears SETTLED and starts the settle timer again. -/
theorem test_speed_unsettles :
    let s := inMode .priming (forming 0)
    let t := after (exec (.speedArrival 1999 200) (s.setPacer { s.pacer with settled := true }))
    t.pacer.settled = false ∧ t.pacer.settleTimer = .running 200000 ∧ t.pacer.acc = 950000 := by decide

/-- The evaluation of a curtain of `acc` nm on READY, in RUNNING with lot A. -/
theorem witness_EvaluationFiresBlocksOrForms :
    (let s := forming 1987099999
     ¬ FireConditionHolds s 2000 ∧ s.pacer.state = .forming ∧ s.lots.active ≠ none) ∧
    (let s := forming 1987100000
     FireConditionHolds s 2000 ∧ InterlocksHold s 20 ∧ s.port.silent = false ∧ s.port.fill .urgent < 4) ∧
    (let s := (forming 1987100000).setChain { Chain.initial with station := some ⟨1, 0, none⟩ }
     FireConditionHolds s 2000 ∧ ∀ dest, ¬ InterlocksHold s dest) ∧
    (let s := urgentFull (forming 1987100000)
     InterlocksHold s 20 ∧ s.port.fill .urgent = 4 ∧ (silenced s).port.silent = true) := by
  refine ⟨⟨?_, rfl, by decide⟩, ⟨?_, ⟨rfl, rfl, rfl, by decide, by decide, by decide⟩, by decide, by decide⟩,
    ⟨?_, fun dest h => ?_⟩, ⟨rfl, rfl, rfl, by decide, by decide, by decide⟩, by decide, rfl⟩
  · unfold FireConditionHolds; decide
  · unfold FireConditionHolds; decide
  · unfold FireConditionHolds; decide
  · exact absurd h.2.1 (by decide)

/-- At the threshold of section 2.12 READY fires, and 1 nm below it does not. -/
theorem test_spreader_threshold :
    (after (exec (.spreaderStateArrival 1) (forming 1987100000))).pacer.fire?.isSome = true ∧
    (after (exec (.spreaderStateArrival 1) (forming 1987099999))).pacer.state = .forming := by decide

/-- R160: with the urgent queue full the fire is in flight and its frame is never sent. -/
theorem test_spreader_refused :
    let t := after (exec (.spreaderStateArrival 1) (urgentFull (forming 1987100000)))
    t.pacer.fire?.map Fire.number = some 1 ∧ t.port.urgent.length = 4 ∧
    t.nextOutcome = some (.knifeFireOutcome { number := 1, content := [0x10, 0] } .neverSent) := by decide

/-- An EMPTY record. -/
def emptyCane (q : Nat) : Cane := { sequence := q, hangTime := 0, product := none }

/-- A PRODUCT record of slot 2. -/
def productCane (q : Nat) : Cane :=
  { sequence := q, hangTime := 0, product := some { excursed with lot := 2, length := 1999750, excursion := none } }

/-- The line with zone 0 covering positions 0 and 1, and records. -/
def onLine (station : Option Cane) (records : List Cane) (s : State) : State :=
  let z : ZoneEntry := { ZoneEntry.zero with first := 0, last := 1, tMax := 900, rhMax := 850 }
  { s with
    chain := { s.chain with station := station },
    canes := { s.canes with
      records := records, zoneCount := 1, pExit := some 1, zones := z :: List.replicate 11 .zero,
      nextSequence := 9 } }

/-- RUNNING with everything a step needs. -/
def stepReady (records : List Cane) : State :=
  onLine (some (productCane 8)) records (wired (probe 3 0 (inMode .running (lotA State.reset))))

/-- DRAINING with an empty station. -/
def draining (timer : LatchTimer) : State :=
  let s := inMode .draining (stepReady [])
  s.setChain { s.chain with station := none, drainTimer := timer }

theorem witness_CutsCompleteByTheirDisposition :
    (∀ k, (firing k cutting).chain.station = none ∧ (firing k cutting).lots.armed = none ∧
      (firing k cutting).lots.active = some 2 ∧ 2 < (firing k cutting).lots.slots.length ∧
      (firing k cutting).chain.step? = none ∧ ∃ f, (firing k cutting).pacer.state = .firing f ∧ f.kind = k) ∧
    TotalsInService cutting ∧
    (let s := inMode .priming (armedB (firing .purge State.reset))
     s.lots.active = none ∧ s.lots.armed = some 5 ∧ s.chain.station = none ∧ s.sequencer.mode ≠ .running) ∧
    (let s := inMode .holding (armedB cutting)
     s.lots.armed = some 5 ∧ s.chain.station = none ∧ s.sequencer.mode ≠ .running) ∧
    (let s := firing .purge (draining .expired)
     s.sequencer.mode = .draining ∧ s.chain.drainTimer = .expired ∧ s.chain.stepState = .idle ∧
     s.chain.station = none) := by
  refine ⟨fun k => ⟨rfl, rfl, rfl, by cases k <;> decide, rfl, _, rfl, rfl⟩, ?_, ⟨rfl, rfl, rfl, by decide⟩,
    ⟨rfl, rfl, by decide⟩, rfl, rfl, rfl, rfl⟩
  unfold TotalsInService; decide

/-- R36, R13: the first PURGE cut of a PRIMING with lot B armed goes to waste and leaves it armed. -/
theorem test_purge_priming :
    let s := inMode .priming (armedB (firing .purge State.reset))
    let t := after (exec (.knifeCountEvents 1) (s.setPacer { s.pacer with acc := 600000000 }))
    t.pacer.waste = 600000000 ∧ t.pacer.state = .forming ∧ t.lots.armed = some 5 ∧ t.chain.station = none := by decide

/-- R67: a PURGE cut in DRAINING with the drain timer expired lets the EMPTY record in. -/
theorem test_purge_draining :
    let t := after (exec (.knifeCountEvents 1) (firing .purge (draining .expired)))
    t.chain.station.map Cane.isProduct = some false ∧ t.chain.drainTimer = .stopped ∧ t.pacer.state = .idle := by
  decide

theorem witness_ArmedLotsSwitchAtACut :
    (∀ k, (armedB (firing k cutting)).chain.station = none ∧ (armedB (firing k cutting)).chain.step? = none ∧
      ∃ f, (armedB (firing k cutting)).pacer.state = .firing f ∧ f.kind = k) ∧
    (armedB cutting).sequencer.mode = .running ∧
    (armedB cutting).lots.active = some 2 ∧ (armedB cutting).lots.armed = some 5 ∧ 2 ≠ 5 ∧
    2 < (armedB cutting).lots.slots.length ∧ 5 < (armedB cutting).lots.slots.length ∧
    TotalsInService (armedB cutting) ∧ (armedB cutting).port.silent = false ∧
    (armedB cutting).port.fill .management < 5 := by
  refine ⟨fun k => ⟨rfl, rfl, _, rfl, rfl⟩, rfl, rfl, rfl, by decide, by decide, by decide, ?_, rfl, by decide⟩
  unfold TotalsInService; decide

/-- Section 1.8: the cane of the switching cut names the old lot, and its error moves c against the old target. -/
theorem test_switch_namesTheOldLot :
    let t := after (exec (.knifeCountEvents 1) (armedB cutting))
    (t.chain.station.bind Cane.product).map Product.lot = some 2 ∧ t.pacer.correction = 1438 := by decide

/-- The second clause of R13 on a lot without canes: it is FREE at once. -/
theorem test_switch_freesAnEmptyLot :
    ((after (exec (.knifeCountEvents 1)
      (armedB (lotIn 2 .active headerA [] 0 (firing .purge cutting))))).lotSlot 2).life = .free ∧
    answer (after (exec (.knifeCountEvents 1) (armedB (lotIn 2 .active headerA [] 0 (firing .purge cutting))))) =
      some (.report 0 1240 (.lotFreed 2 24031)) := by decide

theorem witness_UnexpectedCutsWasteTheCurtain :
    1 ≤ 1 ∧ State.reset.pacer.fire? = none ∧ State.reset.port.silent = false ∧
    (managementFill 4 State.reset).port.fill .management < 5 ∧ TotalsInService State.reset ∧
    (∃ f, cutting.pacer.state = .firing f) ∧ 2 ≤ 2 ∧
    (let u := after (exec (.knifeCountEvents 1) (reported (.knifeCountEvents 1) cutting))
     u.pacer.waste < 18446744073709551616 ∧ u.port.silent = false ∧ u.port.fill .management < 5) ∧
    (managementFill 5 State.reset).port.fill .management = 5 := by
  refine ⟨by decide, rfl, rfl, by decide, ?_, ⟨_, rfl⟩, by decide, by decide, by decide⟩
  unfold TotalsInService; decide

/-- R40: the first event of a group completes the fire, and the second is reported as unexpected. -/
theorem test_cuts_group :
    let t := after (exec (.knifeCountEvents 2) cutting)
    t.pacer.hung = 1999750000 ∧ t.pacer.waste = 0 ∧
    t.port.management.map Frame.body = [.report 0 1240 (.unexpectedCut 1 0 1)] := by decide

theorem test_unexpectedCuts_oneReport :
    answer (after (exec (.knifeCountEvents 2) State.reset)) =
      some (.report 0 0 (.unexpectedCut 2 0 0)) := by decide

theorem witness_PacerFollowsTheModeAndSettles :
    (let s := (inMode .priming State.reset).setPacer { Pacer.initial with settleTimer := .running 0 }
     s.pacer.settleTimer = .running 0 ∧ 0 ≤ s.clock ∧ s.sequencer.mode = .priming ∧ s.pacer.state = .idle ∧
     ¬ FireConditionHolds s s.pacer.params.purgeLength) ∧
    LineMode.allowsFires .draining = false ∧ LineMode.allowsFires .running = true ∧
    (forming 0).pacer.fire? = none ∧ (forming 0).pacer.state = .forming ∧
    (∃ f, cutting.pacer.state = .firing f) := by
  refine ⟨⟨rfl, Nat.zero_le _, rfl, rfl, ?_⟩, rfl, rfl, rfl, rfl, _, rfl⟩
  unfold FireConditionHolds; decide

/-- R28: RUNNING makes an IDLE pacer evaluate. -/
theorem test_pacerMode_running :
    (after (exec (.pacerModeChange .priming .running)
      (setPacerState .idle (inMode .running (lotA State.reset))))).pacer.state = .forming := by decide

theorem test_settle :
    (after (exec (.pacerModeChange .stopped .priming) (inMode .priming State.reset))).pacer.settleTimer =
      .running 200000 := by decide

/-! ### The chain controller -/

/-- A discharge queue of 8 entries. -/
def fullDischarge (s : State) : State :=
  s.setDischarge { s.discharge with
    entries := List.replicate 8
      { sequence := 1, hangTime := 0, product := excursed, disposition := .pack, pieces := 7, scrap := 0,
        late := false } }

/-- The same with a step in flight. -/
def stepping (s : State) : State :=
  s.setChain { s.chain with stepState := .stepping { loaded := true, acknowledged := false, number := 7 } }

theorem noRoom_iff_full : NoRoomAtTheExit (fullDischarge (stepReady [productCane 6, productCane 7])) :=
  ⟨1, productCane 6, rfl, rfl, rfl, rfl, rfl⟩

theorem roomy (records : List Cane) : ¬ NoRoomAtTheExit (stepReady records) := by
  rintro ⟨p, c, -, -, -, -, h⟩
  exact absurd (show 0 = 8 from h) (by decide)

theorem witness_ChainFollowsTheMode :
    (stepReady []).chain.step? = none ∧ (stepReady []).chain.station = some (productCane 8) ∧
    StepAllowedTo (stepReady []) 21 ∧ ¬ NoRoomAtTheExit (stepReady [productCane 6, productCane 7]) ∧
    NoRoomAtTheExit (fullDischarge (stepReady [productCane 6, productCane 7])) ∧
    (stepReady []).port.silent = false ∧ (stepReady []).port.fill .urgent < 4 ∧
    (∀ dest, ¬ StepAllowedTo (inMode .holding (stepReady [])) dest) ∧
    (∃ st, (stepping (stepReady [])).chain.stepState = .stepping st) ∧
    (urgentFull (stepReady [])).port.fill .urgent = 4 := by
  refine ⟨rfl, rfl, ⟨.inr (.inl rfl), by decide, by decide, by decide⟩, roomy _, noRoom_iff_full, rfl, by decide,
    fun dest h => ?_, ⟨_, rfl⟩, by decide⟩
  exact absurd h.1 (by decide)

/-- Section 3.12 steps 1 and 12: a step is sent, and without room the chain waits and the stall timer runs. -/
theorem test_chain_sendsOrWaits :
    (after (exec (.chainModeChange .priming .running) (stepReady []))).chain.step?.map
      StepInFlight.loaded = some true ∧
    (after (exec (.chainModeChange .priming .running)
      (fullDischarge (stepReady [productCane 6, productCane 7])))).discharge.stallTimer = .running 120 := by
  decide

theorem witness_StepsAreCommandedThreeTimesAtMost :
    (stepping (stepReady [])).chain.stepState =
      .stepping { loaded := true, acknowledged := false, number := 7 } ∧
    (stepping (stepReady [])).chain.recommands < 2 ∧ (stepping (stepReady [])).talkNode 1 = some 21 ∧
    (stepping (stepReady [])).chain.station.isSome = true ∧
    (let s := (stepping (stepReady [])).setChain { (stepping (stepReady [])).chain with
       recommands := 2, stepTimer := .running 0 }
     2 ≤ s.chain.recommands ∧ s.chain.stepTimer = .running 0 ∧ 0 ≤ s.clock) ∧
    (let c : Instr := .chainStepOutcome seventh .nack
     (reported c (stepping (stepReady []))).nextOutcome = some c ∧
     (reported c (stepReady [])).nextOutcome = some c ∧ (stepReady []).chain.step? = none ∧
     seventh.number = 7) ∧
    (stepping (onLine (some (productCane 8)) [] State.reset)).talkNode 1 = none ∧
    (urgentFull (stepping (stepReady []))).port.fill .urgent = 4 ∧
    (setPacerState .forming (stepping (stepReady []))).pacer.state = .forming := by decide

theorem test_stepOutcome_thirdRefusal :
    let c : Instr := .chainStepOutcome seventh .nack
    let s := reported c
      ((stepping (stepReady [])).setChain { (stepping (stepReady [])).chain with recommands := 2 })
    (after (exec c s)).chain.stepState = .idle ∧
    (after (exec c s)).handed = [.faultRaise .chainTimeout 1] := by decide

theorem witness_StepDoneAdvancesTheLine :
    (stepping (stepReady [productCane 6, productCane 7])).chain.station = some (productCane 8) ∧
    1 ≤ 1 ∧ (∃ st, (stepping (stepReady [])).chain.stepState = .stepping st) ∧
    (stepReady [productCane 7]).canes.records.length ≤ 1 ∧
    (stepReady [productCane 6, productCane 7]).canes.records = productCane 6 :: [productCane 7] ∧
    (stepReady [productCane 6, productCane 7]).canes.pExit = some [productCane 7].length ∧
    (productCane 6).product ≠ none ∧ (emptyCane 6).product = none ∧
    (setPacerState .blocked (stepping (stepReady []))).pacer.state = .blocked ∧
    (stepping (stepReady [])).pacer.state = .idle ∧
    (let s := stepping ((stepReady [productCane 7]).setLoss 0 .expired false)
     s.lossTimer 0 = .expired ∧ s.lossMark 0 = false ∧ s.sequencer.lossRaised.length = 12 ∧
     s.canes.zoneCount ≤ 12 ∧ s.sequencer.mode ≠ .draining) := by
  refine ⟨rfl, by decide, ⟨_, rfl⟩, by decide, by decide, by decide, by decide, by decide, rfl, rfl, by decide⟩

/-- R137: the step-done that finds product in a zone whose loss has run out raises CLIMATE_LOST. -/
theorem test_stepDone_climateLost :
    (after (exec (.chainCountEvents 1)
      (stepping ((stepReady []).setLoss 0 .expired false)))).sequencer.faults =
      [{ code := .climateLost, time := 0, count := 1, detail := 0 }] := by decide

/-- R27: the step-done that empties the station lets a blocked curtain be cut. -/
theorem test_stepDone_fires :
    let s := onLine (some (productCane 8)) [] (setPacerState .blocked (forming 2100000000))
    (after (exec (.chainCountEvents 1) (stepping s))).pacer.fire?.map Fire.kind = some .hang := by decide

/-- R61 step 5: a step done in DRAINING restarts the drain timer. -/
theorem test_stepDone_draining :
    (after (exec (.chainCountEvents 1) (stepping (inMode .draining (stepReady []))))).chain.drainTimer =
      .running 200000 := by decide

/-- Section 3.12 step 10: the head leaves for the discharge queue, with the cut plan of its length. -/
theorem test_stepDone_departs :
    let t := after (exec (.chainCountEvents 1) (stepping (stepReady [productCane 6, productCane 7])))
    t.canes.records.map Cane.sequence = [7, 8] ∧ t.discharge.entries.map DischargeEntry.pieces = [7] ∧
    t.chain.stepState = .idle := by decide

theorem witness_SlipsAreFoundByCountAndIndex : 1 ≤ 1 ∧ State.reset.chain.step? = none := by decide

/-- R66: a baseline that was set and a wrong count ask for CHAIN_SLIP 3. -/
theorem test_index_slip :
    let s : State := State.reset.setChain { Chain.initial with revBaseline := true, revCount := 11 }
    (after (exec (.chainIndexEvents 1) { s with line := { s.line with stepsPerRev := 12 } })).handed =
      [.faultRaise .chainSlip 3] := by decide

theorem witness_DrainingInsertsEmptiesAndEnds :
    ((draining (.running 0)).chain.drainTimer = .running 0 ∧ 0 ≤ (draining (.running 0)).clock ∧
      (draining (.running 0)).sequencer.mode = .draining ∧ (draining (.running 0)).chain.station = none ∧
      (draining (.running 0)).chain.stepState = .idle ∧ (draining (.running 0)).pacer.fire? = none) ∧
    (let s := stepping (onLine (some (emptyCane 8)) [productCane 6, emptyCane 7] (inMode .draining State.reset))
     s.chain.station = some (emptyCane 8) ∧ s.canes.records = productCane 6 :: [emptyCane 7] ∧
     s.canes.pExit = some [emptyCane 7].length ∧ (productCane 6).isProduct = true ∧
     (∀ r ∈ [emptyCane 7], r.product = none)) := by decide

/-- R57: the expiry evaluates, so a record that waits in the station of an IDLE chain is stepped. -/
theorem test_drain_evaluates :
    let s := (inMode .draining (stepReady []))
    (after (exec .drainTimerExpiry (s.setChain { s.chain with drainTimer := .running 0 }))).chain.step?.map
      StepInFlight.loaded = some true := by decide

theorem test_drain_ends :
    (after (exec (.chainCountEvents 1)
      (stepping (onLine (some (emptyCane 8)) [productCane 6, emptyCane 7]
        (inMode .draining (lotA State.reset)))))).sequencer.mode = .stopped := by decide

theorem test_drain_inserts :
    (after (exec .drainTimerExpiry (draining (.running 0)))).chain.station.map Cane.isProduct = some false := by
  decide

/-! ### The discharge unit -/

/-- A discharge queue with one entry of lot A, RETIRING with `n` references. -/
def exiting (ordered : Bool) (n : Nat) : State :=
  let s := lotIn 2 .retiring headerA [] n (wired State.reset)
  s.setDischarge { s.discharge with
    orderOutstanding := ordered,
    entries := [{ sequence := 4410, hangTime := 0, product := { excursed with lot := 2, excursion := none },
                  disposition := .pack, pieces := 7, scrap := 254350, late := false }] }

theorem witness_StripOrdersGoToTheHead :
    (exiting false 1).discharge.entries ≠ [] ∧ (exiting false 1).discharge.orderOutstanding = false ∧
    (exiting false 1).talkNode 3 = some 23 ∧ (exiting false 1).port.fill .routine < 24 ∧
    (exiting false 1).port.silent = false ∧ (exiting true 1).discharge.orderOutstanding = true ∧
    (exiting true 1).discharge.entries.head?.map DischargeEntry.sequence = some 4410 ∧
    (let c : Instr := .stripOrderOutcome seventh 4410 .nack
     (reported c (exiting true 1)).nextOutcome = some c ∧ (reported c State.reset).nextOutcome = some c) ∧
    State.reset.discharge.entries = [] := by decide

theorem test_stripOrder_carriesTheCutPlan :
    (after (exec (.stripperStateArrival 1) (exiting false 1))).port.routine.map Frame.body =
      [.stripOrder 4410 .pack 7 250 60 254350] := by decide

/-- A full exit with the head's order outstanding: the chain waits for room. -/
def waitingForRoom (m : LineMode) : State :=
  let s := fullDischarge (inMode m (stepReady [productCane 6, productCane 7]))
  { s with chain := { s.chain with stepState := .waitingRoom },
           discharge := { s.discharge with orderOutstanding := true, stallTimer := .running 120 } }

theorem witness_StripCompletionsCountAndRelease :
    (managementFill 4 (exiting false 1)).port.fill .management < 5 ∧
    (managementFill 3 (exiting true 1)).port.fill .management < 4 ∧
    (managementFill 4 (exiting true 1)).port.fill .management = 4 ∧
    (managementFill 5 (exiting true 1)).port.fill .management = 5 ∧
    2 < (exiting true 1).lots.slots.length ∧ (exiting true 1).port.silent = false ∧ 2 ≤ 2 ∧
    (exiting true 1).discharge.orderOutstanding = true ∧ (exiting true 1).discharge.entries ≠ [] ∧
    (exiting true 1).chain.step? = none ∧ (stepping (exiting true 1)).chain.step?.isSome = true ∧
    (waitingForRoom .holding).chain.stepState = .waitingRoom ∧
    (waitingForRoom .holding).discharge.orderOutstanding = true := by decide

/-- R63: the completion makes room; the waiting step is sent in RUNNING and given up in HOLDING, and the stall timer
stops. -/
theorem test_stripCompletion_endsTheWait :
    let ran := after (exec (.stripperCountEvents 1) (waitingForRoom .running))
    let held := after (exec (.stripperCountEvents 1) (waitingForRoom .holding))
    ran.chain.step?.map StepInFlight.loaded = some true ∧ ran.discharge.stallTimer = .stopped ∧
    held.chain.stepState = .idle ∧ held.discharge.stallTimer = .stopped := by decide

/-- Section 6.10 step 8: the last cane frees its lot. -/
theorem test_stripCompletion_freesTheLot :
    let t := after (exec (.stripperCountEvents 1) (exiting true 1))
    (t.lotSlot 2).life = .free ∧ t.discharge.packCount = 1 ∧
    t.port.management.map (fun f => kindOf f.body) = [5, 5] := by decide

/-- R171: with one place left for reports LOT_FREED is dropped, and with none CANE_OUT too. -/
theorem test_stripCompletion_drops :
    (after (exec (.stripperCountEvents 1) (managementFill 4 (exiting true 1)))).agent.missed = 1 ∧
    (after (exec (.stripperCountEvents 1) (managementFill 5 (exiting true 1)))).agent.missed = 2 := by decide

theorem witness_StallAndClimateLossRunOut :
    (let s := State.reset.setDischarge { Discharge.initial with stallTimer := .running 0 }
     0 ≤ s.lineTime ∧ s.discharge.stallTimer = .running 0) ∧
    (let s := (stepReady [productCane 7]).setLoss 0 (.running 0) false
     s.lossTimer 0 = .running 0 ∧ 0 < s.canes.zoneCount ∧ s.sequencer.lossTimers.length = 12 ∧
     s.sequencer.lossRaised.length = 12 ∧ s.productsIn 0 ≠ [] ∧ s.lossMark 0 = false ∧
     s.canes.zoneCount ≤ 12) ∧
    (stepReady []).productsIn 0 = [] := by decide

theorem test_climateLoss_raises :
    (after (exec (.climateLossTimerExpiry 0)
      ((stepReady [productCane 7]).setLoss 0 (.running 0) false))).sequencer.lists .climateLost = true := by
  decide

/-! ### The line sequencer, the zones and the slots -/

theorem witness_PressCommandsAreOwedUntilTaken :
    (wired State.reset).sequencer.pressOwed = true ∧ (wired State.reset).talkNode 2 = some 22 ∧
    (wired State.reset).port.fill .urgent < 4 ∧ (wired State.reset).port.silent = false ∧
    State.reset.talkNode 2 = none ∧ State.reset.sequencer.lists .pressFault = false ∧
    (State.reset.setSequencer { Sequencer.initial with pressOwed := false }).sequencer.pressOwed = false ∧
    (let c : Instr := .pressCmdOutcome seventh false .nack
     (reported c State.reset).nextOutcome = some c) := by decide

theorem test_press_owedCommandIsSent :
    (after (exec (.pressStateArrival 1) (wired State.reset))).port.urgent.map Frame.body = [.pressCmd false] ∧
    (after (exec (.pressStateArrival 1) (wired State.reset))).sequencer.pressOwed = false := by decide

theorem witness_FaultsListOnceAndEscalate :
    (∀ e ∈ State.reset.sequencer.faults, e.code ≠ .chainSlip) ∧
    (∃ e ∈ (after (exec (.faultRaise .chainSlip 1) State.reset)).sequencer.faults, e.code = .chainSlip) ∧
    State.reset.port.silent = false ∧ (managementFill 4 State.reset).port.fill .management < 5 ∧
    (let s := inMode .running (wired State.reset)
     s.sequencer.mode = .running ∧ s.talkNode 2 = some 22 ∧ s.port.fill .urgent < 4 ∧ s.port.silent = false ∧
     (urgentFull s).port.fill .urgent = 4) := by
  refine ⟨by decide, ⟨⟨.chainSlip, 0, 1, 1⟩, by decide, rfl⟩, rfl, by decide, by decide⟩

/-- R128, R129: the HOLDING that a fault enters queues PRESS_CMD hold. -/
theorem test_fault_holdsThePress :
    (after (exec (.faultRaise .chainSlip 1) (inMode .running (wired State.reset)))).port.urgent.map Frame.body =
      [.pressCmd false] := by decide

theorem test_fault_countsAgain :
    (after (exec (.faultRaise .chainSlip 2) (after (exec (.faultRaise .chainSlip 1) State.reset)))).sequencer.faults =
      [{ code := .chainSlip, time := 0, count := 2, detail := 1 }] := by decide

/-- Zone 0 with the figures of section 5.9. -/
def zone59 : State :=
  let z : ZoneEntry :=
    { ZoneEntry.zero with
      last := 3, ramp := 20, tMin := 500, tMax := 900, rhMin := 550, rhMax := 850, form := .biased, gain := 40,
      vMin := 20, idleT := 700, idleRh := 800 }
  let s := probe 20 780 (probe 8 760 (wired (inMode .running State.reset)))
  let t : State := { s with canes := { s.canes with zoneCount := 1, zones := z :: List.replicate 11 .zero } }
  t.setZone 0 { ZoneState.initial with tempSetpoint := 760, rhSetpoint := 800, airTimer := .running 0 }

/-- A routine queue full of strip orders. -/
def routineFull (s : State) : State :=
  withPort (fun p => { p with routine := List.replicate 24 (frame (.stripOrder 1 .pack 1 1 0 0)) }) s

theorem witness_ZonesAnswerArrivalsAndAlternate :
    0 < zone59.canes.zoneCount ∧ 0 < zone59.climate.zones.length ∧ zone59.talkNode (4 + 0) = some 24 ∧
    zone59.talkNode (16 + 0) = some 36 ∧ State.reset.talkNode 4 = none ∧
    (∀ f ∈ zone59.port.routine, zoneKey f.body ≠ some (.climate, 0)) ∧ zone59.port.fill .routine < 24 ∧
    zone59.port.silent = false ∧ (zone59.zoneState 0).airTimer = .running 0 ∧ 0 ≤ zone59.lineTime ∧
    zone59.canes.zoneCount ≤ 1 ∧ 24 ≤ (routineFull zone59).port.fill .routine ∧
    (∀ f ∈ (routineFull zone59).port.routine, zoneKey f.body = none) ∧
    (∃ f ∈ (after (exec (.zoneRhArrival 0) zone59)).port.routine, zoneKey f.body = some (.climate, 0)) ∧
    (∃ f ∈ (after (exec (.airTimerExpiry 0) zone59)).port.routine, zoneKey f.body = some (.air, 0)) := by
  refine ⟨by decide, by decide, by decide, by decide, by decide, by decide, by decide, by decide, by decide,
    by decide, by decide, by decide, by decide, ?_, ?_⟩
  · exact ⟨{ number := 1, dest := 24, body := .zoneClimate 0 .biased 760 50 20 }, by decide, rfl⟩
  · exact ⟨{ number := 1, dest := 36, body := .airDir 0 .reverse }, by decide, rfl⟩

/-- R104: a full routine queue takes no command, and the direction and the demand change all the same; a queued
AIR_DIR is replaced in place. -/
theorem test_zoneCommands_fullOrReplaced :
    let full := routineFull zone59
    (after (exec (.airTimerExpiry 0) full)).port = full.port ∧
    ((after (exec (.airTimerExpiry 0) full)).zoneState 0).direction = .reverse ∧
    (after (exec (.zoneRhArrival 0) full)).port = full.port ∧
    ((after (exec (.zoneRhArrival 0) full)).zoneState 0).demand = 50 ∧
    (after (exec (.airTimerExpiry 0)
      ((after (exec (.airTimerExpiry 0) zone59)).setZone 0 { zone59.zoneState 0 with direction := .reverse }))
      ).port.routine.map Frame.body = [.airDir 0 .forward] := by decide

/-- Section 5.9: the demand 50 goes out as steam 50 and vent 20; a later arrival takes its place. -/
theorem test_zoneRh_replaces :
    (after (exec (.zoneRhArrival 0) (after (exec (.zoneRhArrival 0) zone59)))).port.routine.map Frame.body =
      [.zoneClimate 0 .biased 760 50 20] := by decide

/-- Section 5.9 at 30,060: an empty zone's idle climate 700, 800 is reached by one slew step. -/
def sweeping (w : Sweep) (s : State) : State := s.setDrying { s.drying with sweep := some w }

def ended : Sweep := { time := 0, first := none, last := none, next := none, updated := 1, unknown := 2, skipped := 3 }

theorem test_sweepEnd_slews :
    ((after (exec .sweepEnd (sweeping ended zone59))).zoneState 0).tempSetpoint = 740 ∧
    ((after (exec .sweepEnd (sweeping ended zone59))).zoneState 0).rhSetpoint = 800 ∧
    (after (exec .sweepEnd (sweeping ended zone59))).port.routine.map Frame.body =
      [.zoneClimate 0 .biased 740 50 20] := by decide

theorem witness_SlotsGrowStaleAndAreLost :
    ((probe 0 0 { State.reset with clock := 20 }).slot 0).staleTimer = .running 10 ∧
    ((probe 0 0 { State.reset with clock := 20 }).slot 0).lostTimer = .running 20 ∧
    ((probe 0 0 State.reset).slot 0).freshness = .fresh ∧ State.reset.signals.slots.length = 32 ∧
    zone59.lossTimer 0 = .stopped ∧ zone59.sequencer.lossTimers.length = 12 ∧
    zone59.sequencer.lossRaised.length = 12 ∧ 0 < zone59.canes.zoneCount ∧ zone59.isLost 20 = false ∧
    zone59.isLost 8 = false ∧ zone59.talkNode 4 = some 24 ∧
    LineMode.allowsFires State.reset.sequencer.mode = false ∧ LineMode.allowsFires .priming = true ∧
    (zone59.setLoss 0 .expired true).lossTimer 0 ≠ .stopped ∧
    (probe 31 0 State.reset).slot 31 ≠ Slot.initial := by decide

/-- R102: the loss of a zone's humidity slot sends the neutral outputs of form B. -/
theorem test_lost_humidity :
    let t := after (exec (.lostTimerExpiry 20) { zone59 with clock := 1000000 })
    t.port.routine.map Frame.body = [.zoneClimate 0 .biased 760 0 20] ∧ t.lossTimer 0 = .running 300 := by decide

theorem test_lost_speed :
    (after (exec (.lostTimerExpiry 0)
      (probe 0 0 { inMode .priming State.reset with clock := 20 }))).sequencer.lists .speedLost = true := by
  decide

theorem test_stale :
    ((after (exec (.staleTimerExpiry 31) (probe 31 5 { State.reset with clock := 10 }))).slot 31).freshness =
      .stale := by decide

/-! ### The drying model -/

theorem witness_SweepsStartAndEnd :
    (State.reset.lineTime < State.reset.drying.nextExpiry) ∧
    (let s : State := { stepReady [productCane 6, productCane 7] with lineTime := 60 }
     s.drying.nextExpiry ≤ s.lineTime ∧ s.drying.sweep = none ∧
     s.canes.records = productCane 6 :: [productCane 7] ∧
     (productCane 6 :: [productCane 7]).getLast? = some (productCane 7)) ∧
    ((sweeping ended State.reset).drying.sweep = some ended ∧ ended.next = none ∧
      (sweeping ended State.reset).drying.sweepPending = false ∧
      { ended with next := some 5 }.next = some 5) ∧
    (let s := sweeping ended (stepReady [productCane 6, productCane 7])
     let owed := s.setDrying { s.drying with sweepPending := true }
     owed.drying.sweep = some ended ∧ owed.drying.sweepPending = true ∧
     owed.canes.records = productCane 6 :: [productCane 7]) ∧
    (State.reset.drying.sweep = none ∧ { State.reset with lineTime := 60 }.canes.records = [] ∧
      { State.reset with lineTime := 60 }.drying.nextExpiry ≤ 60) := by decide

/-- Lot A of section 4.11 in slot 0 with stage 0, a cane at position 0 of zone 0, and the probes. -/
def visiting : State :=
  let g : Stage :=
    { temperature := 700, humidity := 700, exitMoisture := 2400, tLow := 650, tHigh := 760, maxDwell := 180 }
  let s := probe 20 720 (probe 8 785 (lotIn 0 .active headerA [g, { g with exitMoisture := 1000 }] 1 State.reset))
  let p : Product :=
    { excursed with
      moisture := 3000, lastUpdate := 4860, stageEntry := 4860, stageOverrun := false, climateUnknown := true,
      excursion := none }
  let t := onLine none [{ sequence := 6, hangTime := 4860, product := some p }] s
  sweeping { time := 5160, first := some 6, last := some 6, next := some 6, updated := 0, unknown := 0, skipped := 0 }
    (t.setDrying { t.drying with meq := t.drying.meq.set 37 1650, kd := t.drying.kd.set 3 1200 })

theorem witness_SweepEndDerivesTheSetpoints :
    ((sweeping ended zone59).drying.sweep = some ended ∧ ended.next = none ∧
      (sweeping ended zone59).drying.sweepPending = false ∧ 0 < zone59.canes.zoneCount ∧
      zone59.canes.zoneCount ≤ 12 ∧ zone59.climate.zones.length = 12 ∧ zone59.isLost 8 = false ∧
      zone59.isLost 20 = false ∧ zone59.productsIn 0 = [] ∧ zone59.sequencer.mode ≠ .safe) ∧
    (zone59.talkNode 4 = some 24 ∧ zone59.port.silent = false ∧ zone59.port.fill .routine + 1 ≤ 24 ∧
      zone59.canes.records = [] ∧ zone59.drying.sweep = none ∧
      { zone59 with lineTime := 60 }.drying.nextExpiry ≤ 60 ∧ zone59.sequencer.lossRaised.length = 12) ∧
    ((inMode .safe zone59).sequencer.mode = .safe ∧ (onLine none [] State.reset).isLost 8 = true ∧
      (onLine none [] State.reset).sequencer.mode ≠ .safe) ∧
    (visiting.isLost 8 = false ∧ visiting.isLost 20 = false ∧
      ∃ p ∈ visiting.productsIn 0, ∀ r ∈ visiting.productsIn 0,
        (visiting.stageOf p.lot p.stage).temperature ≤ (visiting.stageOf r.lot r.stage).temperature ∧
        (visiting.stageOf r.lot r.stage).humidity ≤ (visiting.stageOf p.lot p.stage).humidity) := by
  refine ⟨by decide, by decide, by decide, by decide, by decide, ?_⟩
  refine ⟨_, List.mem_of_getElem? (show (visiting.productsIn 0)[0]? = some _ from rfl), ?_⟩
  decide

theorem witness_VisitsDryTheRecords :
    visiting.drying.sweep.map Sweep.next = some (some 6) ∧ visiting.canes.positionOf 6 = some 0 ∧
    (visiting.canes.at? 0).map Cane.isProduct = some true ∧ visiting.zoneAt 0 = some 0 ∧
    visiting.reading 8 = some 785 ∧ visiting.reading 20 = some 720 ∧
    (sweeping { ended with next := some 5 } visiting).canes.positionOf 5 = none ∧
    (onLine none [emptyCane 6] State.reset).canes.positionOf 6 = some 0 ∧
    (onLine none [emptyCane 6] State.reset).canes.at? 0 = some (emptyCane 6) ∧
    (stepReady [productCane 6]).isLost 8 = true ∧ (stepReady [productCane 6]).zoneAt 0 = some 0 := by decide

/-- Section 4.11: the estimate 2,876 and the excursion of zone 0. -/
theorem test_visit_dries :
    ((after (exec .caneVisit visiting)).canes.records.map (fun c => c.product.map Product.moisture)) =
      [some 2876] ∧
    ((after (exec .caneVisit visiting)).canes.records.map
      (fun c => (c.product.bind Product.excursion).map Excursion.temperature)) = [some 785] := by decide

theorem witness_TheSixBlocksTakeTheTrunkReset :
    State.reset.signals.slots.length = 32 ∧ State.reset.pacer.fire? = none ∧
    (∃ f, cutting.pacer.state = .firing f) ∧ LineMode.allowsSteps cutting.sequencer.mode = true ∧
    LineMode.allowsSteps State.reset.sequencer.mode = false ∧
    (probe 0 0 zone59).isLost 0 = false ∧ zone59.isLost 0 = true ∧
    (zone59.climate.zones.length = 12 ∧ zone59.canes.zoneCount = 1 ∧ zone59.isLost 20 = false ∧
      zone59.talkNode 4 = some 24 ∧ zone59.port.fill .routine + 1 ≤ 24) ∧
    (zone59.sequencer.lossTimers.length = 12 ∧ zone59.sequencer.lossRaised.length = 12 ∧
      zone59.lossTimer 0 = .stopped) ∧
    (wired cutting).talkNode 2 = some 22 ∧ (wired cutting).port.fill .urgent < 4 := by
  exact ⟨by decide, rfl, ⟨_, rfl⟩, rfl, rfl, by decide, by decide, by decide, by decide, by decide, by decide⟩

set_option maxRecDepth 20000 in
/-- R138, R102, R137: taken in RUNNING, the losses list SPEED_LOST, neutralise the zone and start its loss timer. -/
theorem test_signalTrunkReset :
    let t := after (exec .signalUnitTrunkReset (probe 0 0 zone59))
    t.sequencer.lists .speedLost = true ∧ t.sequencer.mode = .holding ∧ t.lossTimer 0 = .running 300 ∧
    t.port.routine.map Frame.body = [.zoneClimate 0 .biased 760 0 20] := by decide

/-- R45: the fire is gone, and the pacer has evaluated. -/
theorem test_pacerTrunkReset_discards :
    (after (exec .pacerTrunkReset cutting)).pacer.state = .blocked := by decide

theorem test_trunkReset_holds :
    (after (exec .lineSequencerTrunkReset cutting)).sequencer.mode = .holding ∧
    (after (exec .pacerTrunkReset cutting)).pacer.missCount = 0 ∧
    (after (exec .pacerTrunkReset cutting)).pacer.acc = 1999750000 := by decide

/-! ### The directives -/

theorem witness_EveryDirectiveWaitsOrIsAnsweredOnce :
    (∃ d, directiveRow (.lotSeal (req [3])) = some d ∧ Starts (led d State.reset) d) ∧
    (∃ d, directiveRow (.writeTableKd (req [])) = some d ∧ Starts (led d State.reset) d ∧
      State.reset.drying.sweep = none) ∧
    (∃ d, directiveRow (.lotSeal (req [3])) = some d ∧
      (led d (managementFill 6 State.reset)).agent.directives.head? = some d ∧
      6 ≤ (led d (managementFill 6 State.reset)).port.fill .management) ∧
    (heldForSweep (.writeTableKd (req [])) = true ∧ (sweeping ended State.reset).drying.sweep ≠ none) := by
  exact ⟨⟨_, rfl, starts_reset _⟩, ⟨_, rfl, starts_reset _, rfl⟩, ⟨_, rfl, rfl, by decide⟩, rfl, by decide⟩

theorem test_directive_waits :
    (ran (.lotSeal (req [3])) (managementFill 6 State.reset)).agent.directives.length = 1 ∧
    (ran (.lotSeal (req [3])) (managementFill 5 State.reset)).agent.directives.length = 0 := by decide

theorem witness_ModesTablesAndCodesAreCheckedFirst :
    ((Instr.modePrime, (0 : Byte), [LineMode.stopped]) ∈ ([(.modePrime, 0, [.stopped]), (.modeRun, 1, [.priming]),
      (.modeHold, 2, [.priming, .running, .draining]), (.modeResume, 3, [.holding]),
      (.modeDrain, 4, [.running, .holding]), (.modeStop, 5, [.holding, .draining, .safe]),
      (.modeSafe, 6, [.stopped, .priming, .running, .holding, .draining, .safe]),
      (.modeLeaveSafe, 7, [.safe])] : List ((Request → Instr) × Byte × List LineMode))) ∧
    Starts (led (directiveOf 0x10 [0] (req [])) (inMode .safe State.reset)) (directiveOf 0x10 [0] (req [])) ∧
    (inMode .safe State.reset).sequencer.mode ∉ [LineMode.stopped] ∧
    ((req [0]).args = 0 :: [] ∧ (0 : Byte).toNat = 0) ∧ ((req [11]).args = 11 :: [] ∧ 10 < (11 : Byte).toNat) ∧
    ((req [8]).args = [8] ∧ 7 < (8 : Byte).toNat) ∧
    (0x15 ∉ ([0x01, 0x02, 0x03, 0x04, 0x05, 0x08, 0x09, 0x0A, 0x0B, 0x0C, 0x10, 0x11, 0x12, 0x13, 0x14] :
      List Byte)) ∧
    ((Instr.readCane, (0x03 : Byte), 4) ∈ ([(.readCane, 0x03, 4), (.markCanes, 0x04, 7), (.clearLine, 0x05, 0),
      (.lotOpen, 0x08, 19), (.lotStage, 0x09, 13), (.lotSeal, 0x0A, 1), (.lotDiscard, 0x0B, 1),
      (.lotArm, 0x0C, 1), (.ackFault, 0x11, 1), (.readStatus, 0x12, 1), (.readTotals, 0x13, 0),
      (.clearTotals, 0x14, 0)] : List ((Request → Instr) × Byte × Nat)) ∧ (req [0, 0, 0]).args.length ≠ 4) ∧
    ((Instr.writeTableZoneCount, (4 : Byte), 1) ∈ ([(.writeTableListen, 1, 3), (.writeTableTalk, 2, 2),
      (.writeTableZone, 3, 29), (.writeTableZoneCount, 4, 1), (.writeTableMeq, 5, 2), (.writeTableKd, 6, 2),
      (.writeTableModel, 7, 6), (.writeTableGap, 8, 1), (.writeTablePacer, 9, 18), (.writeTableLine, 10, 35)] :
      List ((Request → Instr) × Byte × Nat)) ∧ (req [0]).args.length < 2 ∧
      ([] : List Byte).length ≠ (1 : Byte).toNat * 1 ∧
      ([3, 3] : List Byte).length = (2 : Byte).toNat * 1 ∧ (2 : Byte) ≠ 1) ∧
    State.reset.drying.sweep = none := by
  refine ⟨List.mem_cons_self, starts_inMode _ _, by decide, by decide, by decide, by decide, by decide,
    ⟨List.mem_cons_self, by decide⟩, ⟨?_, by decide, by decide, by decide, by decide⟩, rfl⟩
  exact .tail _ (.tail _ (.tail _ (.head _)))

/-- R169, R173: a slot number too many, a table write without its entry, and ZONE_COUNT at index 1. -/
theorem test_lengths :
    answer (ran (.lotSeal (req [3, 3])) State.reset) = some (.response 1 0x0A .badForm []) ∧
    answer (ran (.writeTableGap (req [0, 1])) State.reset) = some (.response 1 2 .badForm []) ∧
    answer (ran (.writeTableZoneCount (req [1, 1, 3])) State.reset) = some (.response 1 2 .badIndex []) := by decide

theorem test_refusals :
    answer (ran (.writeTableUnwritable (req [11])) State.reset) = some (.response 1 2 .badTable []) ∧
    answer (ran (.modeUnknownArgument (req [8])) State.reset) = some (.response 1 0x10 .badValue []) ∧
    answer (ran (.unknownDirective 0 [9, 0x15]) State.reset) = some (.response 9 0x15 .badForm []) ∧
    answer (ran (.modePrime (req [])) (inMode .safe State.reset)) = some (.response 1 0x10 .wrongMode []) := by
  decide

/-- The stage record of the read example. -/
def sealed0 : Stage :=
  { temperature := 700, humidity := 700, exitMoisture := 2400, tLow := 650, tHigh := 760, maxDwell := 180 }

/-- Lot A ACTIVE in slot 2 with one stage. -/
def loadedA : State := lotIn 2 .active headerA [sealed0] 412 (lotA State.reset)

theorem witness_ReadTableReturnsTheEntries :
    Starts (led (directiveOf 0x01 [] (req [5, 0, 20])) State.reset) (directiveOf 0x01 [] (req [5, 0, 20])) ∧
    (let s := State.reset
     ((0x01 : Byte), 32, 3, s.signals.listen.map listenBytes) ∈ ([(0x01, 32, 3, s.signals.listen.map listenBytes),
       (0x02, 28, 2, s.signals.talk.map talkBytes), (0x03, 12, 29, s.canes.zones.map zoneBytes),
       (0x04, 1, 1, [be 1 s.canes.zoneCount]), (0x05, 80, 2, s.drying.meq.map (be 2)),
       (0x06, 8, 2, s.drying.kd.map (be 2)),
       (0x07, 1, 6, [beInt 2 s.drying.tBase ++ be 2 s.drying.tStep ++ be 2 s.drying.interval]),
       (0x08, 16, 1, s.lots.gap.map (be 1)), (0x09, 1, 18, [pacerBytes s.pacer]),
       (0x0A, 1, 35, [lineBytes s.line s.agent.supervisor])] : List (Byte × Nat × Nat × List (List Byte)))) ∧
    (1 ≤ (20 : Byte).toNat ∧ (12 : Byte).toNat + (20 : Byte).toNat ≤ 32) ∧
    ¬ (1 ≤ (2 : Byte).toNat ∧ (31 : Byte).toNat + (2 : Byte).toNat ≤ 32) ∧
    11 < (12 : Byte).toNat ∧ (15 : Byte).toNat < 16 ∧ (11 : Byte).toNat < 12 ∧
    ([0, 20] : List Byte).length = 2 ∧ ([0, 1, 0] : List Byte).length = 3 ∧
    (loadedA.lotSlot 2).stages[0]? = some sealed0 ∧ (loadedA.lotSlot 2).stages.length ≤ 1 := by
  exact ⟨starts_reset _, List.mem_cons_self, by decide, by decide, by decide, by decide, by decide, rfl, rfl, rfl,
    by decide⟩

/-- R172, R181: an unknown table at a length of 4, a length of 4 for MEQ, and a length of 3 for LOT. -/
theorem test_readTable_lengths :
    answer (ran (.readTable (req [12, 0, 1, 0])) State.reset) = some (.response 1 1 .badTable []) ∧
    answer (ran (.readTable (req [5, 0, 1, 0])) State.reset) = some (.response 1 1 .badForm []) ∧
    answer (ran (.readTable (req [11, 0, 1])) State.reset) = some (.response 1 1 .badForm []) := by decide

/-- Section 11.5: slot 2, ACTIVE with 412 canes, from stage 0. -/
theorem test_readTable_lot :
    answer (ran (.readTable (req [11, 2, 1, 0])) loadedA) = some (.response 1 1 .done
      [11, 2, 0, 1, 3, 2, 1, 156, 0, 0, 93, 223, 1, 7, 208, 11, 184, 4, 226, 0, 250, 0, 60, 0, 20, 0, 1,
       2, 188, 2, 188, 9, 96, 2, 138, 2, 248, 0, 180]) := by decide

theorem test_readTable_zoneCount :
    answer (ran (.readTable (req [4, 0, 1])) (onLine none [] State.reset)) =
      some (.response 1 1 .done [4, 0, 1, 1]) ∧
    answer (ran (.readTable (req [5, 79, 2])) State.reset) = some (.response 1 1 .badIndex []) := by decide

/-- Two listen entries. -/
def twoListens (a b : Nat) : List (Option ListenEntry) :=
  [some { node := 21, channel := a }, some { node := 21, channel := b }]

theorem witness_ListenWritesLoseTheirSlots :
    let r := req ((30 : Byte) :: be 1 2 ++ ((twoListens 1 2).map listenBytes).flatten)
    r.args = (30 : Byte) :: be 1 (twoListens 1 2).length ++ ((twoListens 1 2).map listenBytes).flatten ∧
    Starts (led (directiveOf 0x02 [1] r) State.reset) (directiveOf 0x02 [1] r) ∧
    (∀ e ∈ twoListens 1 2, listenEntryOk e) ∧ ¬ listenEntryOk (some { node := 63, channel := 255 }) ∧
    State.reset.sequencer.mode = .stopped ∧
    (30 : Byte).toNat + (twoListens 1 2).length ≤ 32 ∧ State.reset.signals.listen.length = 32 ∧
    (32 < (31 : Byte).toNat + (twoListens 1 2).length) ∧
    (let table := State.reset.signals.listen.take 30 ++ twoListens 1 1 ++ State.reset.signals.listen.drop 32
     table[30]? = some (some { node := 21, channel := 1 }) ∧
     table[31]? = some (some { node := 21, channel := 1 })) := by
  refine ⟨rfl, starts_reset _, fun e he => ?_, fun h => absurd h.1 (by decide), rfl, by decide, by decide, by decide,
    by decide⟩
  simp only [twoListens, List.mem_cons, List.not_mem_nil, or_false] at he
  rcases he with rfl | rfl <;> simp [listenEntryOk]

theorem test_writeListen :
    (ran (.writeTableListen (req ([30, 2] ++ ((twoListens 1 2).map listenBytes).flatten))) State.reset).signals.listen.drop
      30 = twoListens 1 2 ∧
    answer (ran (.writeTableListen (req ([30, 2] ++ ((twoListens 1 1).map listenBytes).flatten))) State.reset) =
      some (.response 1 2 .badValue []) := by decide

set_option maxRecDepth 20000 in
/-- R142, R148, R102: a rewired humidity slot is LOST, and its zone's demand is neutral. -/
theorem test_writeListen_losses :
    let t := ran (.writeTableListen (req [20, 1, 1, 40, 3])) (inMode .holding zone59)
    t.isLost 20 = true ∧ t.lossTimer 0 = .running 300 ∧
    t.port.routine.map Frame.body = [.zoneClimate 0 .biased 760 0 20] := by decide

theorem witness_TalkWritesReplaceDestinations :
    let r := req ((26 : Byte) :: be 1 2 ++ (([some 62, none] : List (Option Nat)).map talkBytes).flatten)
    Starts (led (directiveOf 0x02 [2] r) State.reset) (directiveOf 0x02 [2] r) ∧
    r.args = (26 : Byte) :: be 1 ([some 62, none] : List (Option Nat)).length ++
      (([some 62, none] : List (Option Nat)).map talkBytes).flatten ∧
    (∀ e ∈ ([some 62, none] : List (Option Nat)), talkEntryOk State.reset.port.node e) ∧
    ¬ talkEntryOk State.reset.port.node (some 63) ∧ ¬ talkEntryOk State.reset.port.node (some 12) ∧
    (26 : Byte).toNat + 2 ≤ 28 ∧ 2 ≤ (26 : Byte).toNat ∧ 28 < (27 : Byte).toNat + 2 ∧
    ((0 : Byte).toNat = 0 ∧ (setPacerState .blocked State.reset).pacer.state = .blocked) ∧
    ((1 : Byte).toNat ≤ 1 ∧ 1 < (1 : Byte).toNat + 2 ∧ State.reset.chain.step? = none) := by
  refine ⟨starts_reset _, rfl, fun e he => ?_, fun h => absurd h.1 (by decide), fun h => absurd rfl h.2, by decide,
    by decide, by decide, ⟨by decide, rfl⟩, by decide, by decide, rfl⟩
  simp only [List.mem_cons, List.not_mem_nil, or_false] at he
  rcases he with rfl | rfl
  · exact ⟨by decide, by decide⟩
  · trivial

theorem test_writeTalk :
    (ran (.writeTableTalk (req [26, 2, 1, 62, 0, 0])) State.reset).talkNode 26 = some 62 ∧
    answer (ran (.writeTableTalk (req [26, 1, 1, 12])) State.reset) = some (.response 1 2 .badValue []) ∧
    answer (ran (.writeTableTalk (req [26, 1, 1, 63])) State.reset) = some (.response 1 2 .badValue []) := by
  decide

theorem witness_ZoneCountConfiguresTheZones :
    Starts (led (directiveOf 0x02 [4] (req [0, 1, 3])) (threeZones State.reset))
      (directiveOf 0x02 [4] (req [0, 1, 3])) ∧
    (threeZones State.reset).canes.zones.length = 12 ∧ (threeZones State.reset).climate.zones.length = 12 ∧
    (threeZones State.reset).chain.station = none ∧ (threeZones State.reset).canes.records = [] ∧
    (threeZones State.reset).discharge.entries = [] ∧ (threeZones State.reset).sequencer.mode = .stopped ∧
    (∀ k, k < 3 → ((threeZones State.reset).zoneEntry k).first ≤ ((threeZones State.reset).zoneEntry k).last ∧
      ((threeZones State.reset).zoneEntry k).first =
        (if k = 0 then 0 else ((threeZones State.reset).zoneEntry (k - 1)).last + 1)) ∧
    ¬ ((threeZones State.reset).zoneEntry 3).first = ((threeZones State.reset).zoneEntry 2).last + 1 ∧
    (onLine (some (emptyCane 8)) [] State.reset).chain.station ≠ none ∧
    ((threeZones State.reset).zoneEntry 0).airBase ≠ 0 ∧ ((threeZones State.reset).zoneEntry 3).airBase = 0 ∧
    (threeZones (wired State.reset)).talkNode 4 = some 24 ∧
    (threeZones (wired State.reset)).talkNode 16 = some 36 ∧
    (threeZones (wired State.reset)).port.fill .routine + 2 * 3 ≤ 24 ∧
    (threeZones State.reset).chain.step? = none := by
  refine ⟨⟨rfl, by decide, by decide⟩, by decide, by decide, rfl, rfl, rfl, rfl, by decide, by decide, by decide,
    by decide, by decide, by decide, by decide, by decide, rfl⟩

/-- R97 steps 3 and 4: a configuration queues ZONE_CLIMATE and AIR_DIR FORWARD for each zone. -/
theorem test_zoneCount_commands :
    (ran (.writeTableZoneCount (req [0, 1, 2])) (threeZones (wired State.reset))).port.routine.map Frame.body =
      [.zoneClimate 0 .single 0 127 0, .airDir 0 .forward, .zoneClimate 1 .single 0 127 0, .airDir 1 .forward] := by
  decide

theorem test_zoneCount_order :
    answer (ran (.writeTableZoneCount (req [0, 1, 13])) (inMode .running State.reset)) =
      some (.response 1 2 .wrongMode []) ∧
    answer (ran (.writeTableZoneCount (req [0, 1, 4])) (threeZones State.reset)) =
      some (.response 1 2 .badValue []) := by decide

theorem witness_ModelTablesAreWrittenBetweenSweeps :
    let r := req ((79 : Byte) :: be 1 1 ++ (([9999] : List Nat).map (be 2)).flatten)
    StartsBetweenSweeps (led (directiveOf 0x02 [5] r) State.reset) (directiveOf 0x02 [5] r) ∧
    r.args = (79 : Byte) :: be 1 ([9999] : List Nat).length ++ (([9999] : List Nat).map (be 2)).flatten ∧
    (79 : Byte).toNat + 1 ≤ 80 ∧ 80 < (80 : Byte).toNat + 1 ∧ (7 : Byte).toNat + 1 ≤ 8 ∧
    (∃ m ∈ ([10000] : List Nat), 9999 < m ∧ m ≤ 65535) ∧
    (10 ≤ 10 ∧ 500 ≤ 500 ∧ 10 ≤ 600 ∧ ¬ (10 ≤ 9)) := by
  exact ⟨⟨starts_reset _, rfl⟩, rfl, by decide, by decide, by decide, ⟨10000, by decide⟩, by decide⟩

theorem test_writeMeq :
    (ran (.writeTableMeq (req [79, 1, 0x27, 0x0F])) State.reset).drying.meq.getD 79 0 = 9999 ∧
    answer (ran (.writeTableMeq (req [79, 1, 0x27, 0x10])) State.reset) = some (.response 1 2 .badValue []) ∧
    answer (ran (.writeTableKd (req [8, 1, 0, 0])) State.reset) = some (.response 1 2 .badIndex []) := by decide

theorem test_writeModel :
    (ran (.writeTableModel (req [0, 1, 0xFF, 0x9C, 1, 0xF4, 0, 10])) State.reset).drying.tBase = -100 ∧
    (ran (.writeTableModel (req [0, 1, 0xFF, 0x9C, 1, 0xF4, 0, 10])) State.reset).drying.tStep = 500 := by decide

theorem witness_ParameterTablesAreWritten :
    (let r := req ((15 : Byte) :: be 1 1 ++ (([3] : List Nat).map (be 1)).flatten)
     Starts (led (directiveOf 0x02 [8] r) State.reset) (directiveOf 0x02 [8] r) ∧ (15 : Byte).toNat + 1 ≤ 16) ∧
    (let r := req (([0, 1] : List Byte) ++ be 2 5000 ++ be 2 100 ++ be 2 1000 ++ be 2 50 ++ be 2 0 ++ be 2 32767 ++
       be 2 600 ++ [1, 2, 3, 4])
     Starts (led (directiveOf 0x02 [9] r) State.reset) (directiveOf 0x02 [9] r) ∧
     ([1, 2, 3, 4] : List Byte).length = 4) ∧
    (let r := req ([0, 1] ++ lineBytes LineParams.initial 62)
     Starts (led (directiveOf 0x02 [10] r) State.reset) (directiveOf 0x02 [10] r) ∧
     LineParams.initial.ranged ∧ LineParams.initial.fits ∧
     ¬ { LineParams.initial with stepTimeout := 499 }.ranged ∧
     { LineParams.initial with stepTimeout := 499 }.fits ∧ 62 ≠ State.reset.port.node ∧
     12 = State.reset.port.node) ∧
    (let r := req ((11 : Byte) :: 1 :: zoneBytes ZoneEntry.zero)
     Starts (led (directiveOf 0x02 [3] r) State.reset) (directiveOf 0x02 [3] r) ∧
     ZoneEntry.zero.carried ∧ ZoneEntry.zero.ranged ∧ { ZoneEntry.zero with airBase := 59 }.carried ∧
     ¬ { ZoneEntry.zero with airBase := 59 }.ranged ∧ State.reset.canes.zoneCount = 0 ∧ (11 : Byte).toNat < 12 ∧
     zone59.canes.zoneCount ≠ 0) ∧
    (let r := req ((11 : Byte) :: 1 :: List.replicate 22 0 ++ [3] ++ List.replicate 6 0)
     Starts (led (directiveOf 0x02 [3] r) State.reset) (directiveOf 0x02 [3] r) ∧ 2 < (3 : Byte).toNat) ∧
    (let r := req [11, 0]
     r.args = [11, 0] ∧ Starts (led (directiveOf 0x02 [3] r) State.reset) (directiveOf 0x02 [3] r)) := by
  refine ⟨⟨starts_reset _, by decide⟩, ⟨starts_reset _, rfl⟩,
    ⟨starts_reset _, ?_, ?_, ?_, ?_, by decide, by decide⟩, ⟨starts_reset _, ?_, ?_, ?_, ?_, by decide, by decide,
    by decide⟩, ⟨starts_reset _, by decide⟩, rfl, starts_reset _⟩
  · unfold LineParams.ranged; decide
  · unfold LineParams.fits; decide
  · unfold LineParams.ranged; decide
  · unfold LineParams.fits; decide
  · unfold ZoneEntry.carried; decide
  · unfold ZoneEntry.ranged; decide
  · unfold ZoneEntry.carried; decide
  · unfold ZoneEntry.ranged; decide

theorem test_writeGapAndLine :
    (ran (.writeTableGap (req [6, 1, 3])) State.reset).gapEntry 1 2 = 3 ∧
    (ran (.writeTableLine (req ([0, 1] ++ lineBytes LineParams.initial 62))) State.reset).agent.supervisor = 62 ∧
    answer (ran (.writeTableLine (req ([0, 1] ++ lineBytes LineParams.initial 12))) State.reset) =
      some (.response 1 2 .badValue []) := by decide

theorem test_writePacer :
    (ran (.writeTablePacer (req ([0, 1] ++ pacerBytes { Pacer.initial with
      params := { PacerParams.initial with knifeLead := 1200 } }))) State.reset).pacer.params.knifeLead = 1200 := by
  decide

theorem test_writeZone :
    (ran (.writeTableZone (req ([11, 1] ++ zoneBytes (zone59.zoneEntry 0)))) State.reset).zoneEntry 11 =
      zone59.zoneEntry 0 ∧
    answer (ran (.writeTableZone (req ([11, 1] ++ zoneBytes ZoneEntry.zero))) zone59) =
      some (.response 1 2 .wrongState []) := by decide

theorem test_writeZone_outOfRange :
    answer (ran (.writeTableZone (req ([11, 1] ++ zoneBytes { ZoneEntry.zero with airBase := 59 }))) State.reset) =
      some (.response 1 2 .badValue []) ∧
    answer (ran (.writeTableZone (req ((11 : Byte) :: 1 :: List.replicate 22 0 ++ [3] ++ List.replicate 6 0)))
      State.reset) = some (.response 1 2 .badValue []) := by decide

/-- A stage record that is accepted. -/
def stage0 : Stage :=
  { temperature := 700, humidity := 700, exitMoisture := 2400, tLow := 650, tHigh := 760, maxDwell := 180 }

theorem witness_LotsAreOpenedStagedAndSealed :
    (headerA.fits ∧ State.reset.lotSlot 15 = .cleared ∧
      Starts (led (directiveOf 0x08 [] (req (15 :: headerBytes headerA))) State.reset)
        (directiveOf 0x08 [] (req (15 :: headerBytes headerA)))) ∧
    (List.replicate 17 (0 : Byte)).length = 17 ∧ 1 < (2 : Byte).toNat ∧
    (stage0.fits ∧ ((lotIn 15 .loading headerA [] 0 State.reset).lotSlot 15).life = .loading) ∧
    (12 ≤ ((lotIn 15 .loading headerA (List.replicate 12 stage0) 0 State.reset).lotSlot 15).stages.length) ∧
    (let l := (lotIn 15 .loading headerA [stage0] 0 State.reset).lotSlot 15
     l.stages ≠ [] ∧ (∀ x ∈ l.stages, x.tLow ≤ x.tHigh ∧ x.exitMoisture < l.header.initialMoisture) ∧
     300 ≤ l.header.hangTarget ∧ l.header.hangTarget ≤ 3000 ∧ 0 < l.header.pieceLength) ∧
    15 < (16 : Byte).toNat := by
  refine ⟨⟨?_, by decide, starts_reset _⟩, by decide, by decide, ⟨?_, by decide⟩, by decide, by decide, by decide⟩
  · unfold LotHeader.fits; decide
  · unfold Stage.fits; decide

/-- A lot opened, staged and sealed. -/
def loaded : State :=
  ran (.lotStage (req (3 :: stageBytes stage0))) (ran (.lotOpen (req (3 :: headerBytes headerA))) State.reset)

theorem test_lot_loads :
    answer loaded = some (.response 1 9 .done [0]) ∧ (loaded.lotSlot 3).header = headerA ∧
    ((ran (.lotSeal (req [3])) loaded).lotSlot 3).life = .ready := by decide

theorem witness_LotDiscardFreesUnarmedLots :
    (req [3]).args = [3] ∧ (3 : Byte).toNat ≤ 15 ∧
    Starts (led (directiveOf 0x0B [] (req [3])) State.reset) (directiveOf 0x0B [] (req [3])) ∧
    (loaded.lotSlot 3).life = .loading ∧ (State.reset.lotSlot 3).life = .free ∧
    ((armedB State.reset).lotSlot 5).life = .ready ∧ (armedB State.reset).lots.armed = some 5 ∧
    15 < (16 : Byte).toNat := by
  exact ⟨rfl, by decide, starts_reset _, by decide, by decide, by decide, by decide, by decide⟩

theorem test_lotDiscard_armed :
    answer (ran (.lotDiscard (req [5])) (armedB State.reset)) = some (.response 1 0x0B .wrongState []) ∧
    ((ran (.lotDiscard (req [3])) loaded).lotSlot 3).life = .free := by decide

theorem witness_LotArmTakesReadySlots :
    (req [0xFF]).args = [0xFF] ∧
    Starts (led (directiveOf 0x0C [] (req [0xFF])) State.reset) (directiveOf 0x0C [] (req [0xFF])) ∧
    State.reset.sequencer.mode ≠ .safe ∧ (inMode .safe State.reset).sequencer.mode = .safe ∧
    ((armedB State.reset).lotSlot 5).life = .ready ∧ (State.reset.lotSlot 15).life ≠ .ready ∧
    (5 : Byte).toNat ≤ 15 ∧ 15 < (254 : Byte).toNat ∧ (254 : Byte) ≠ 0xFF := by
  exact ⟨rfl, starts_reset _, by decide, by decide, by decide, by decide, by decide, by decide, by decide⟩

theorem test_lotArm :
    (ran (.lotArm (req [0xFF])) (armedB State.reset)).lots.armed = none ∧
    answer (ran (.lotArm (req [0xFF])) (inMode .safe State.reset)) = some (.response 1 0x0C .wrongMode []) ∧
    answer (ran (.lotArm (req [16])) State.reset) = some (.response 1 0x0C .badIndex []) := by decide

theorem witness_ReadingsAnswerAndTotalsClear :
    (Starts (led (directiveOf 0x03 [] (req [0, 0, 0, 8])) (stepReady []))
      (directiveOf 0x03 [] (req [0, 0, 0, 8]))) ∧
    (req [0, 0, 0, 8]).args = 0 :: be 3 8 ∧ (stepReady []).chain.station = some (productCane 8) ∧
    (productCane 8).sequence = 8 ∧
    ((stepReady [productCane 7]).canes.at? 0 = some (productCane 7) ∧ (stepReady []).zoneAt 0 = some 0) ∧
    (CaneLaw State.reset ∧ ∀ c ∈ State.reset.chain.station.toList ++ State.reset.canes.records, c.sequence ≠ 8) ∧
    ((2047 < 2048) ∧ State.reset.canes.records.length ≤ 2047) ∧
    17 < (18 : Byte).toNat := by
  refine ⟨⟨rfl, by decide, by decide⟩, by decide, rfl, rfl, by decide, ⟨?_, by decide⟩, by decide, by decide⟩
  exact ⟨by decide, by decide, trivial, by intro p h; simp [State.reset, State.powerOn, CaneQueue.initial] at h,
    fun _ => rfl, by intro h; simp [State.reset, State.powerOn, Chain.initial, Chain.step?] at h⟩

/-- The line of two canes and a filled station, with a head in the discharge queue. -/
def readable : State := onLine (some (productCane 8)) [emptyCane 6, productCane 7] (exiting true 1)

theorem witness_ReadingsAnswerAndTotalsClear_bySequence :
    CaneLaw readable ∧ ZoneMapLaw readable ∧
    (readable.canes.at? 0 = some (productCane 7) ∧ readable.zoneAt 0 = some 0) ∧
    (∀ c ∈ readable.chain.station.toList ++ readable.canes.records, c.sequence ≠ 4410) ∧
    readable.discharge.entries[0]?.map DischargeEntry.sequence = some 4410 := by
  refine ⟨⟨by decide, by decide, ⟨rfl, rfl, rfl⟩, fun p h => ?_, (nomatch ·), (nomatch ·)⟩,
    ⟨by decide, by decide, by decide, by decide, rfl⟩, by decide, by decide, by decide⟩
  obtain rfl : 1 = p := Option.some.inj h
  decide

theorem test_readCane_bySequence :
    answer (ran (.readCane (req [0, 0, 0, 6])) readable) =
      some (.response 1 3 .done ([1, 0, 1, 0] ++ caneBytes (emptyCane 6))) ∧
    answer (ran (.readCane (req [0, 0, 0, 9])) readable) = some (.response 1 3 .notFound []) := by decide

theorem test_readCane_byPosition :
    answer (ran (.readCane (req [1, 0, 0, 1])) (onLine none [emptyCane 6, emptyCane 7] State.reset)) =
      some (.response 1 3 .done [1, 0, 1, 0, 0, 0, 6, 0, 0, 0, 0, 0]) := by decide

theorem test_readStatus :
    answer (ran (.readStatus (req [3])) cutting) =
      some (.response 1 0x12 .done [3, 3, 0, 0, 0, 0, 0x05, 0xDC, 0xFF, 2]) ∧
    answer (ran (.readStatus (req [18])) cutting) = some (.response 1 0x12 .badIndex []) := by decide

theorem test_totals :
    answer (ran (.readTotals (req [])) cutting) = some (.response 1 0x13 .done (be 8 0 ++ be 8 0 ++ be 8 0 ++
      [0x00, 0x77, 0x31, 0xC3, 0x70])) ∧
    (ran (.clearTotals (req [])) (after (exec (.knifeCountEvents 1) cutting))).pacer.hung = 0 := by decide

theorem witness_MarksReachEveryRecordInRange :
    Starts (led (directiveOf 0x04 [] (req (be 3 16777215 ++ be 3 0 ++ [1]))) State.reset)
      (directiveOf 0x04 [] (req (be 3 16777215 ++ be 3 0 ++ [1]))) ∧
    16777215 < 16777216 ∧ (1 : Byte).toNat ≤ 1 ∧ 2 ≤ (2 : Byte).toNat := by
  exact ⟨starts_reset _, by decide, by decide, by decide⟩

/-- Section 6.10 step 3, with the order of the head still outstanding: counted late and not decided again. -/
theorem test_marks :
    answer (ran (.markCanes (req (be 3 4410 ++ be 3 4412 ++ [1]))) (exiting true 1)) =
      some (.response 1 4 .done [0, 1, 1, 1]) ∧
    (ran (.markCanes (req (be 3 4410 ++ be 3 4412 ++ [1]))) (exiting false 1)).discharge.entries.map
      DischargeEntry.disposition = [.setAside] ∧
    (ran (.markCanes (req (be 3 4411 ++ be 3 4409 ++ [1]))) (exiting false 1)).discharge.entries.map
      DischargeEntry.disposition = [.pack] := by decide

theorem witness_ClearLineEmptiesTheLine :
    Starts (led (directiveOf 0x05 [] (req [])) State.reset) (directiveOf 0x05 [] (req [])) ∧
    State.reset.sequencer.mode = .stopped ∧ State.reset.chain.step? = none ∧
    State.reset.lots.slots.length = 16 ∧ cutting.sequencer.mode ≠ .stopped ∧
    (stepping State.reset).chain.step?.isSome = true ∧
    (setPacerState .forming State.reset).pacer.state = .forming ∧
    (let s := managementFill 4 (exiting true 1)
     s.port.fill .management +
       ((List.range 16).filter (fun i => decide ((s.lotSlot i).life = .retiring))).length = 5) := by
  exact ⟨starts_reset _, rfl, rfl, by decide, by decide, rfl, rfl, by decide⟩

set_option maxRecDepth 20000 in
theorem test_clearLine :
    let t := ran (.clearLine (req [])) (onLine (some (productCane 8)) [productCane 6, emptyCane 7] (exiting true 412))
    answer t = some (.response 1 5 .done [1, 1, 0, 2, 0, 1, 1, 1]) ∧ (t.lotSlot 2).life = .free ∧
    t.canes.records = [] := by decide

/-- Everything R127 asks for, with one zone. -/
def configured (m : LineMode) : State :=
  let s := onLine none [] (probe 0 0 (wired (inMode m State.reset)))
  { s with signals := { s.signals with
      listen := (List.range 32).map (fun r => some { node := 21, channel := r }) } }

theorem configured_complete (m : LineMode) : ConfigurationComplete (configured m) := by
  refine ⟨by cases m <;> decide, by cases m <;> decide, by cases m <;> decide, fun k hk => ?_⟩
  obtain rfl : k = 0 := by simpa [configured, onLine] using hk
  cases m <;> decide

theorem witness_PrimeResumeAndRunEnterTheirModes :
    (Starts (led (directiveOf 0x10 [0] (req [])) (configured .stopped)) (directiveOf 0x10 [0] (req [])) ∧
      (configured .stopped).sequencer.mode = .stopped ∧ (configured .stopped).sequencer.faults = [] ∧
      ConfigurationComplete (configured .stopped) ∧ (configured .stopped).isLost 0 = false ∧
      ¬ ConfigurationComplete State.reset) ∧
    (let s := (configured .holding).setSlot 0 ((configured .holding).slot 0).madeLost
     s.isLost 0 = true ∧ ConfigurationComplete s ∧ s.sequencer.mode = .holding ∧ s.sequencer.faults = []) ∧
    (let s := (lotA (configured .priming)).setPacer { Pacer.initial with settled := true }
     s.sequencer.mode = .priming ∧ s.lots.active ≠ none ∧ s.pacer.settled = true) ∧
    ((configured .priming).lots.active = none ∧ (configured .priming).lots.armed = none) ∧
    ((armedB State.reset).lots.active = none ∧ (armedB State.reset).lots.armed = some 5) := by
  refine ⟨⟨⟨rfl, by decide, by decide⟩, rfl, rfl, configured_complete _, by decide, fun h => h.1 rfl⟩,
    ⟨by decide, configured_complete .holding, rfl, rfl⟩,
    ⟨rfl, by decide, rfl⟩, by decide, by decide⟩

theorem test_prime :
    (ran (.modePrime (req [])) (configured .stopped)).sequencer.mode = .priming ∧
    (ran (.modePrime (req [])) (configured .stopped)).port.urgent.map Frame.body = [.pressCmd true] ∧
    answer (ran (.modePrime (req [])) State.reset) = some (.response 1 0x10 .notConfigured []) := by decide

theorem test_run :
    let s := (armedB (configured .priming)).setPacer { Pacer.initial with settled := true }
    (ran (.modeRun (req [])) s).lots.active = some 5 ∧ (ran (.modeRun (req [])) s).pacer.purgePending = true ∧
    answer (ran (.modeRun (req [])) (armedB (configured .priming))) =
      some (.response 1 0x10 .notSettled []) := by decide

theorem witness_HoldDrainStopAndSafeEnterTheirModes :
    (Starts (led (directiveOf 0x10 [2] (req [])) (inMode .running State.reset)) (directiveOf 0x10 [2] (req []))) ∧
    ProductOnTheLine (stepReady []) ∧ ¬ ProductOnTheLine State.reset ∧
    (inMode .safe State.reset).sequencer.faults.length ≤ 1 ∧
    (let t := after (exec (.faultRaise .overlength 0) (after (exec (.faultRaise .chainSlip 1) State.reset)))
     2 ≤ t.sequencer.faults.length ∧ t.sequencer.mode = .safe) := by
  refine ⟨starts_inMode _ _, ⟨productCane 8, by decide, by decide⟩, ?_, by decide, by decide⟩
  rintro ⟨c, h, -⟩
  exact absurd h (List.not_mem_nil (a := c))

theorem test_drain_empty :
    (ran (.modeDrain (req [])) (inMode .holding State.reset)).sequencer.mode = .stopped ∧
    (ran (.modeDrain (req [])) (inMode .holding (stepReady []))).sequencer.mode = .draining ∧
    answer (ran (.modeStop (req [])) (inMode .holding (stepReady []))) =
      some (.response 1 0x10 .wrongState []) := by decide

theorem witness_AcknowledgedFaultsLeaveTheList :
    (req [4]).args = [4] ∧
    Starts (led (directiveOf 0x11 [] (req [4])) State.reset) (directiveOf 0x11 [] (req [4])) ∧
    8 < (9 : Byte).toNat ∧ faultByte .chainSlip = 4 ∧
    (after (exec (.faultRaise .chainSlip 1) State.reset)).sequencer.faults =
      [] ++ { code := .chainSlip, time := 0, count := 1, detail := 1 } :: [] := by
  exact ⟨rfl, starts_reset _, by decide, rfl, by decide⟩

theorem test_ackFault :
    answer (ran (.ackFault (req [4])) (after (exec (.faultRaise .chainSlip 3) State.reset))) =
      some (.response 1 0x11 .done [0, 0, 0, 0, 1, 3]) ∧
    answer (ran (.ackFault (req [5])) State.reset) = some (.response 1 0x11 .notFound []) := by decide

/-! ### The laws and the encodings -/

theorem reset_keepsLaws :
    FaultListLaw State.reset ∧ CorrectionLaw State.reset ∧ FireStepLaw State.reset ∧ PayloadLaw State.reset ∧
    MoistureLaw State.reset ∧ StepTimerLaw State.reset ∧
    SequenceOrderLaw State.reset ∧ step State.reset = .next State.reset := by
  refine ⟨⟨by decide, by decide, by decide⟩, by unfold CorrectionLaw; decide, ⟨by decide, by decide⟩,
    by unfold PayloadLaw; decide, ⟨by decide, by decide, by decide⟩, by unfold StepTimerLaw; decide, ?_, rfl⟩
  intro first _
  exact List.pairwise_singleton _ _

theorem inv_slot_initial : Slot.initial.timed := by unfold Slot.timed; decide

theorem reset_keepsSlotQueueAndZoneLaws :
    SlotLaw State.reset ∧ ZoneMapLaw State.reset ∧ QueueLaw State.reset ∧ CaneLaw State.reset ∧
    DischargeLaw State.reset ∧ ClimateLaw State.reset := by
  refine ⟨⟨by decide, fun x hx => ?_⟩, ⟨by decide, by decide, by decide, by decide, rfl⟩,
    ⟨?_, ?_, by decide⟩, ⟨by decide, by decide, trivial, fun p h => ?_, fun _ => rfl, by decide⟩,
    ⟨by decide, fun _ => rfl, by decide⟩, ⟨by decide, by decide, fun k h => ?_, fun k _ => ?_⟩⟩
  · have : x = Slot.initial := List.eq_of_mem_replicate hx
    rw [this]; exact inv_slot_initial
  · intro q f hf; cases q <;> exact absurd hf (List.not_mem_nil (a := f))
  · intro q; cases q <;> decide
  · exact absurd h (by simp [State.reset, State.powerOn, CaneQueue.initial])
  · exact absurd h (Nat.not_lt_zero k)
  · show ((List.replicate 12 ZoneState.initial).getD k .initial).airTimer = .stopped
    by_cases h : k < 12
    · interval_cases k <;> rfl
    · simp [List.getD, h, ZoneState.initial]

theorem reset_keepsReferenceAndPointerLaws : ReferenceLaw State.reset ∧ PointerLaw State.reset := by
  refine ⟨⟨by decide, by decide, by decide, by decide, by decide⟩, ⟨by decide, by decide, ?_, ?_⟩⟩
  · intro i h; simp [State.reset, State.powerOn, LotTable.initial] at h
  · intro i h; simp [State.reset, State.powerOn, LotTable.initial] at h

/-- The reset state with a command in front. -/
def queued : State := { State.reset with pending := [.trunkReset] }

theorem witness_FaultListAndSlotLawsAreKept : FaultListLaw queued ∧ SlotLaw queued ∧ ∃ t, step queued = .next t :=
  ⟨reset_keepsLaws.1, reset_keepsSlotQueueAndZoneLaws.1, _, rfl⟩

theorem witness_TransmitQueueLawIsKept : QueueLaw queued ∧ PayloadLaw queued ∧ ∃ t, step queued = .next t :=
  ⟨reset_keepsSlotQueueAndZoneLaws.2.2.1, reset_keepsLaws.2.2.2.1, _, rfl⟩

theorem witness_FireAndStepLawIsKept :
    FireStepLaw queued ∧ KnifeTimerLaw queued ∧ StepTimerLaw queued ∧ ∃ t, step queued = .next t := by
  refine ⟨reset_keepsLaws.2.2.1, ⟨fun h => absurd rfl h, ?_⟩, reset_keepsLaws.2.2.2.2.2.1, _, rfl⟩
  rintro ⟨f, h, -⟩
  exact absurd h (by simp [queued, State.reset, State.powerOn, Pacer.initial])

theorem witness_ZoneMapCaneAndDischargeLawsAreKept :
    FireStepLaw queued ∧ ZoneMapLaw queued ∧ CaneLaw queued ∧ DischargeLaw queued ∧ SequenceOrderLaw queued ∧
    ∃ t, step queued = .next t ∧
      ∀ e, t.discharge.entries.head? = some e → seqDistance e.sequence t.canes.nextSequence ≠ 0 :=
  ⟨reset_keepsLaws.2.2.1, reset_keepsSlotQueueAndZoneLaws.2.1, reset_keepsSlotQueueAndZoneLaws.2.2.2.1,
    reset_keepsSlotQueueAndZoneLaws.2.2.2.2.1, reset_keepsLaws.2.2.2.2.2.2.1, _, rfl, fun _ h => nomatch h⟩

theorem witness_ReferenceAndPointerLawsAreKept :
    FireStepLaw queued ∧ ReferenceLaw queued ∧ PointerLaw queued ∧ ∃ t, step queued = .next t :=
  ⟨reset_keepsLaws.2.2.1, reset_keepsReferenceAndPointerLaws.1, reset_keepsReferenceAndPointerLaws.2, _, rfl⟩

theorem witness_MoistureAndCorrectionLawsAreKept :
    MoistureLaw queued ∧ CorrectionLaw queued ∧ ∃ t, step queued = .next t :=
  ⟨reset_keepsLaws.2.2.2.2.1, reset_keepsLaws.2.1, _, rfl⟩

theorem witness_ClimateLawIsKept : ZoneMapLaw queued ∧ ClimateLaw queued ∧ ∃ t, step queued = .next t :=
  ⟨reset_keepsSlotQueueAndZoneLaws.2.1, reset_keepsSlotQueueAndZoneLaws.2.2.2.2.2, _, rfl⟩

theorem witness_TotalsLawIsKept :
    (∀ r, Instr.knifeCountEvents 1 ≠ .clearTotals r) ∧ (∀ x, Instr.knifeCountEvents 1 ≠ .powerOnReset x) ∧
    TotalsInService cutting ∧
    exec (.knifeCountEvents 1) cutting = .next (after (exec (.knifeCountEvents 1) cutting)) := by
  refine ⟨nofun, nofun, ?_, rfl⟩
  unfold TotalsInService; decide

theorem witness_TableEntriesReadBackFromTheirBytes :
    headerA.fits ∧ stage0.fits ∧ listenEntryOk (some { node := 62, channel := 255 }) ∧
    talkEntryOk 12 (some 62) ∧ (zone59.zoneEntry 0).fits ∧ Pacer.initial.params.inRange = true ∧
    LineParams.initial.inRange = true := by
  refine ⟨by unfold LotHeader.fits; decide, by unfold Stage.fits; decide, ⟨by decide, by decide⟩,
    ⟨by decide, by decide⟩, by unfold ZoneEntry.fits; decide, by decide, by decide⟩

theorem witness_FramesPassTheReceiverAndFlippedBitsDoNot :
    12 < 64 ∧ (frame (.knifeFire true)).dest < 64 ∧ (payloadOf (frame (.knifeFire true)).body).length ≤ 48 ∧
    (frameBytes 12 (frame (.knifeFire true)))[3]? = some 2 := by decide

set_option maxRecDepth 20000 in
theorem test_frame_passes :
    discardCause ((frameBytes 12 (frame (.knifeFire true))).map sendChar) true = none := by decide

end Sys2Proof.Tests
end

section
/-!
SUPPORT. Power-on and the line clock: the command's next state as an equation, what the lists of equal entries that
power-on leaves answer at every index, and the whole seconds of one more tick.
-/

namespace Sys2Proof.Machine

/-! ## Entries of the blocks at their power-on values -/

section Entries

variable {s : State}

/-- Every lot slot is FREE and cleared (R2). -/
theorem lotSlot_of_lots_initial (h : s.lots = .initial) (i : Nat) : s.lotSlot i = .cleared := by
  rw [State.lotSlot, h]
  exact List.getElem?_getD_replicate_default_eq _ 16 i

/-- Every zone state is at its start (R95). -/
theorem zoneState_of_climate_initial (h : s.climate = .initial) (k : Nat) : s.zoneState k = .initial := by
  rw [State.zoneState, h]
  exact List.getElem?_getD_replicate_default_eq _ 12 k

/-- No climate loss timer runs and no mark is raised (R125). -/
theorem loss_of_sequencer_initial (h : s.sequencer = .initial) (k : Nat) :
    s.lossTimer k = .stopped ∧ s.lossMark k = false := by
  rw [State.lossTimer, State.lossMark, h]
  exact ⟨List.getElem?_getD_replicate_default_eq _ 12 k, List.getElem?_getD_replicate_default_eq _ 12 k⟩

/-- Every listen entry is unused and every slot is LOST and without a value (R141, R146). -/
theorem listen_of_signals_initial (h : s.signals = .initial) (r : Nat) :
    s.listenEntry r = none ∧ s.slot r = .initial := by
  rw [State.listenEntry, State.slot, h]
  exact ⟨List.getElem?_getD_replicate_default_eq _ 32 r, List.getElem?_getD_replicate_default_eq _ 32 r⟩

/-- No talk role has a destination (R152). -/
theorem talkNode_of_signals_initial (h : s.signals = .initial) (r : Nat) : s.talkNode r = none := by
  rw [State.talkNode, h]
  exact List.getElem?_getD_replicate_default_eq _ 28 r

end Entries

/-! ## The two commands -/

/-- Power-on leaves every block at its power-on values, whatever came before (R165). -/
theorem exec_powerOnReset (straps : BitVec 6) (s : State) :
    exec (.powerOnReset straps) s = .next { State.powerOn straps with pending := s.pending } := rfl

/-- The next whole second of a line time within its 32 bits (section 0.5). -/
theorem nextSecond_of_lt {clock lineTime : Nat} (h : lineTime + 1 < Config.roll32) :
    nextSecond clock lineTime = lineTime + 1 := if_pos h

/-- A tick takes line time from the whole seconds of the ticks so far to those of one tick more (R1): a second is
added just when the new count is a multiple of the ticks in a second. -/
theorem exec_lineClockTick {s : State} (hs : s.lineTime = s.clock / Config.ticksPerSecond)
    (hr : s.lineTime + 1 < Config.roll32) :
    exec .lineClockTick s =
      .next { s with clock := s.clock + 1, lineTime := (s.clock + 1) / Config.ticksPerSecond } := by
  change execLineClockTick s = _
  simp only [execLineClockTick, nextSecond_of_lt hr, Nat.succ_div, ← hs, Nat.dvd_iff_mod_eq_zero]
  split <;> rfl

/-! ## The obligation -/

/-- Settles O3: the power-on values block by block, then the tick. -/
theorem powerOnValuesAndTheLineClock : Obligations.PowerOnValuesAndTheLineClock := by
  constructor
  · intro straps s
    refine ⟨_, exec_powerOnReset straps s, ?_⟩
    refine ⟨
      -- the trunk port (R155, R160, R165) and line time (R1)
      rfl, rfl, rfl, rfl, rfl, rfl, rfl, rfl,
      -- lots (R2, R11, R18)
      fun i _ => lotSlot_of_lots_initial rfl i, rfl, rfl, rfl,
      -- the strand pacer (R22) and the PACER and LINE defaults (R23, R174)
      rfl, rfl, rfl, rfl, rfl, rfl, rfl, rfl, rfl, rfl, rfl, rfl, rfl, rfl, rfl, rfl,
      -- the cane queue and the zone map (R48, R50, R52)
      rfl, rfl, rfl, rfl, rfl,
      -- the chain controller (R49, R55)
      rfl, rfl, rfl, rfl, rfl, rfl, rfl,
      -- the drying model (R73)
      rfl, rfl, rfl, rfl, rfl, rfl, rfl, rfl, rfl, rfl,
      -- the zone climate unit (R95)
      fun k _ => zoneState_of_climate_initial rfl k, rfl,
      -- the discharge unit (R112)
      rfl, rfl, rfl, rfl, rfl, rfl,
      -- the line sequencer (R125)
      rfl, rfl, rfl, fun k _ => loss_of_sequencer_initial rfl k,
      -- the signal unit (R141, R146, R152)
      fun r _ => listen_of_signals_initial rfl r, fun r _ => talkNode_of_signals_initial rfl r,
      -- the management agent (R167)
      rfl, rfl, rfl⟩
  · exact fun s hs hr => exec_lineClockTick hs hr

end Sys2Proof.Machine
end

section
/-!
SUPPORT. The lot table as its rules read it: a slot after a write, after a release and after a switch (R13, R15, R17),
and the laws of R11 and R15 said slot by slot over the lots that records name.
-/

namespace Sys2Proof.Machine

/-! ## A slot after a write (R2, R15, R17) -/

/-- A slot that is written reads back. -/
theorem lotSlot_setLot_self {s : State} {i : Nat} (l : LotSlot) (h : i < s.lots.slots.length) :
    (s.setLot i l).lotSlot i = l := by
  simp [State.lotSlot, State.setLot, h]

/-- A write leaves the other slots alone. -/
theorem lotSlot_setLot_ne {s : State} {i j : Nat} (l : LotSlot) (h : j ≠ i) :
    (s.setLot i l).lotSlot j = s.lotSlot j := by
  simp [State.lotSlot, State.setLot, List.getElem?_set_ne h.symm]

/-- Past the table's end a slot reads as a cleared one. -/
theorem lotSlot_of_length_le {s : State} {i : Nat} (h : s.lots.slots.length ≤ i) : s.lotSlot i = .cleared := by
  simp [State.lotSlot, h]

/-- A slot that is not FREE stands in the table. -/
theorem lt_length_of_life_ne_free {s : State} {i : Nat} (h : (s.lotSlot i).life ≠ .free) :
    i < s.lots.slots.length := by
  by_contra hi
  exact h (by rw [lotSlot_of_length_le (Nat.not_lt.mp hi)]; rfl)

/-- Slots are read from the lot table alone. -/
theorem lotSlot_congr {s t : State} (h : t.lots.slots = s.lots.slots) (i : Nat) : t.lotSlot i = s.lotSlot i := by
  rw [State.lotSlot, State.lotSlot, h]

/-- Freeing a slot clears it and touches nothing else of the table (R17). -/
theorem freeLot_lots (i : Nat) (s : State) : (freeLot i s).lots = (s.setLot i .cleared).lots := by
  simp [freeLot]

/-- A test for freeing clears the slot when it is RETIRING with a count of 0 (R17). -/
theorem lotSlot_freeIfRetired_self (i : Nat) (s : State) :
    (freeIfRetired i s).lotSlot i =
      if (s.lotSlot i).life = .retiring ∧ (s.lotSlot i).refCount = 0 then .cleared else s.lotSlot i := by
  rcases freeIfRetired_cases i s with ⟨hl, hr, h⟩ | ⟨hn, h⟩
  · have hi : i < s.lots.slots.length := lt_length_of_life_ne_free (by simp [hl])
    rw [h, if_pos ⟨hl, hr⟩, lotSlot_congr (congrArg LotTable.slots (freeLot_lots i s)), lotSlot_setLot_self _ hi]
  · rw [h, if_neg hn]

/-- A test for freeing leaves the other slots alone. -/
theorem lotSlot_freeIfRetired_ne {i j : Nat} (s : State) (h : j ≠ i) :
    (freeIfRetired i s).lotSlot j = s.lotSlot j := by
  rcases freeIfRetired_cases i s with ⟨-, -, hf⟩ | ⟨-, hf⟩ <;> rw [hf]
  rw [lotSlot_congr (congrArg LotTable.slots (freeLot_lots i s)), lotSlot_setLot_ne _ h]

/-- A test for freeing keeps the size of the table, its pointers and the gap table. -/
theorem freeIfRetired_table (i : Nat) (s : State) :
    (freeIfRetired i s).lots.slots.length = s.lots.slots.length ∧ (freeIfRetired i s).lots.armed = s.lots.armed ∧
    (freeIfRetired i s).lots.active = s.lots.active ∧ (freeIfRetired i s).lots.gap = s.lots.gap := by
  rcases freeIfRetired_cases i s with ⟨-, -, hf⟩ | ⟨-, hf⟩ <;> simp [hf, freeLot_lots]

/-- The count of a slot after it rises (R15). -/
theorem lotSlot_raiseRef_self {s : State} {i : Nat} (h : i < s.lots.slots.length) :
    (raiseRef i s).lotSlot i = { s.lotSlot i with refCount := (s.lotSlot i).refCount + 1 } :=
  lotSlot_setLot_self _ h

/-- The slot of a released record: counted down, or freed by R17. -/
theorem lotSlot_releaseRef_self {s : State} {i : Nat} (h : i < s.lots.slots.length) :
    (releaseRef i s).lotSlot i =
      if (s.lotSlot i).life = .retiring ∧ (s.lotSlot i).refCount ≤ 1 then .cleared
      else { s.lotSlot i with refCount := (s.lotSlot i).refCount - 1 } := by
  rw [releaseRef, lotSlot_freeIfRetired_self, lotSlot_setLot_self _ h]
  simp [Nat.sub_eq_zero_iff_le]

/-- A release leaves the other slots alone. -/
theorem lotSlot_releaseRef_ne {s : State} {i j : Nat} (h : j ≠ i) :
    (releaseRef i s).lotSlot j = s.lotSlot j := by
  rw [releaseRef, lotSlot_freeIfRetired_ne _ h, lotSlot_setLot_ne _ h]

/-- A release keeps the size of the table, its pointers and the gap table. -/
theorem releaseRef_table (i : Nat) (s : State) :
    (releaseRef i s).lots.slots.length = s.lots.slots.length ∧ (releaseRef i s).lots.armed = s.lots.armed ∧
    (releaseRef i s).lots.active = s.lots.active ∧ (releaseRef i s).lots.gap = s.lots.gap := by
  simpa [releaseRef] using
    freeIfRetired_table i (s.setLot i { s.lotSlot i with refCount := (s.lotSlot i).refCount - 1 })

/-! ## The switch of lots (R13, R19) -/

section Switch

variable {s : State} {old new : Nat}

/-- The switch moves the pointers and leaves the gap table and the size of the table (R13). -/
theorem switchLots_table (old new : Nat) (s : State) :
    (switchLots old new s).lots.slots.length = s.lots.slots.length ∧
    (switchLots old new s).lots.armed = none ∧ (switchLots old new s).lots.active = some new ∧
    (switchLots old new s).lots.gap = s.lots.gap := by
  obtain ⟨hlen, -, -, hgap⟩ := freeIfRetired_table old (s.setLot old { s.lotSlot old with life := .retiring })
  exact ⟨by simpa [switchLots] using hlen, rfl, rfl, by simpa [switchLots] using hgap⟩

/-- The old slot retires, or is freed at once without a reference (R13, R17). -/
theorem lotSlot_switchLots_old (hne : old ≠ new) (ho : old < s.lots.slots.length) :
    (switchLots old new s).lotSlot old =
      if (s.lotSlot old).refCount = 0 then .cleared else { s.lotSlot old with life := .retiring } := by
  change (State.setLot _ new _).lotSlot old = _
  rw [lotSlot_setLot_ne _ hne, lotSlot_freeIfRetired_self, lotSlot_setLot_self _ ho]
  simp

/-- The new slot becomes ACTIVE (R13). -/
theorem lotSlot_switchLots_new (hne : old ≠ new) (hn : new < s.lots.slots.length) :
    (switchLots old new s).lotSlot new = { s.lotSlot new with life := .active } := by
  change (State.setLot _ new _).lotSlot new = _
  rw [lotSlot_setLot_self _ (by rw [(freeIfRetired_table _ _).1]; simpa using hn),
    lotSlot_freeIfRetired_ne _ hne.symm, lotSlot_setLot_ne _ hne.symm]

/-- The switch leaves the other slots alone. -/
theorem lotSlot_switchLots_ne {i : Nat} (ho : i ≠ old) (hn : i ≠ new) :
    (switchLots old new s).lotSlot i = s.lotSlot i := by
  change (State.setLot _ new _).lotSlot i = _
  rw [lotSlot_setLot_ne _ hn, lotSlot_freeIfRetired_ne _ ho, lotSlot_setLot_ne _ ho]

end Switch

/-! ## The lots that records name (R15) -/

/-- The lot a record names; none for an EMPTY record (R46). -/
def Cane.lot? (c : Cane) : Option Nat := c.product.map Product.lot

/-- The lots that the PRODUCT records of the three places name, each as often as records name it (R15). -/
def State.lotsNamed (s : State) : Multiset Nat :=
  ↑((s.chain.station.toList ++ s.canes.records).filterMap Cane.lot? ++
    s.discharge.entries.map (fun e => e.product.lot))

/-- All that the laws of R11 and R15 read of a state. -/
def State.lotView (s : State) : LotTable × Multiset Nat := (s.lots, s.lotsNamed)

/-- The lots named are those of the part's PRODUCT records. -/
theorem lotsNamed_eq_products (s : State) : s.lotsNamed = ↑(s.products.map Product.lot) := by
  simp [State.lotsNamed, State.products, List.map_filterMap, Function.comp_def]
  rfl

/-- A naming count is a multiplicity. -/
theorem namingCount_eq_count (s : State) (i : Nat) : s.namingCount i = s.lotsNamed.count i := by
  rw [lotsNamed_eq_products, Multiset.coe_count, List.count_eq_countP, List.countP_map, State.namingCount]
  congr 1

/-- A state with the same lots and the same records in the three places gives the laws the same to read. -/
theorem lotView_congr {s t : State} (hl : t.lots = s.lots) (hst : t.chain.station = s.chain.station)
    (hr : t.canes.records = s.canes.records) (he : t.discharge.entries = s.discharge.entries) :
    t.lotView = s.lotView := by
  rw [State.lotView, State.lotView, State.lotsNamed, State.lotsNamed, hl, hst, hr, he]

/-! ## The two laws slot by slot (R11, R15) -/

/-- What R11 and R15 ask of one slot that `names` records name, given whether the active and the armed pointer name
it. -/
structure LotSlot.Lawful (l : LotSlot) (names : Nat) (active armed : Prop) : Prop where
  counted : l.refCount = names
  unused : l.life = .free ∨ l.life = .loading ∨ l.life = .ready → l.refCount = 0
  retiring : l.life = .retiring → 0 < l.refCount
  active_iff : l.life = .active ↔ active
  ready_of_armed : armed → l.life = .ready

/-- The reference law and the pointer law together. -/
def LotLaws (s : State) : Prop := ReferenceLaw s ∧ PointerLaw s

/-- The two laws hold when every slot is lawful and names and pointers stay within the table. -/
theorem lotLaws_iff (s : State) :
    LotLaws s ↔ s.lots.slots.length = 16 ∧
      (∀ i, i < 16 → (s.lotSlot i).Lawful (s.lotsNamed.count i) (s.lots.active = some i) (s.lots.armed = some i)) ∧
      (∀ n ∈ s.lotsNamed, n < 16) ∧ (∀ i, s.lots.active = some i → i < 16) ∧
      (∀ i, s.lots.armed = some i → i < 16) := by
  have hnames : (∀ n ∈ s.lotsNamed, n < 16) ↔ ∀ p ∈ s.products, p.lot < 16 := by
    simp [lotsNamed_eq_products]
  constructor
  · rintro ⟨⟨hlen, hcount, hlots, hunused, hret⟩, -, hact, hactlt, harm⟩
    exact ⟨hlen, fun i hi => ⟨by rw [hcount i hi, namingCount_eq_count], hunused i hi, hret i hi, hact i hi,
      fun h => (harm i h).2⟩, hnames.2 hlots, hactlt, fun i h => (harm i h).1⟩
  · rintro ⟨hlen, hslot, hlots, hactlt, harm⟩
    exact ⟨⟨hlen, fun i hi => by rw [(hslot i hi).counted, namingCount_eq_count], hnames.1 hlots,
        fun i hi => (hslot i hi).unused, fun i hi => (hslot i hi).retiring⟩,
      hlen, fun i hi => (hslot i hi).active_iff, hactlt, fun i h => ⟨harm i h, (hslot i (harm i h)).ready_of_armed h⟩⟩

/-- The laws read a state through its lot view only. -/
theorem lotLaws_congr {s t : State} (h : t.lotView = s.lotView) : LotLaws s → LotLaws t := by
  obtain ⟨hl, hn⟩ := Prod.mk.inj h
  have hs : ∀ i, t.lotSlot i = s.lotSlot i := lotSlot_congr (congrArg LotTable.slots hl)
  rw [lotLaws_iff, lotLaws_iff, hl, hn]
  simp only [hs, imp_self]

end Sys2Proof.Machine
end

section
/-!
SUPPORT. What each shared operation leaves of the lot view: the lot table and the lots that records name. All but
those on the lots themselves leave it whole.
-/

namespace Sys2Proof.Machine

/-! ## Reports and frames -/

@[simp] theorem handFrame_lotView (dest : Nat) (body : FrameBody) (s : State) :
    (handFrame dest body s).lotView = s.lotView := lotView_congr (by simp) (by simp) (by simp) (by simp)

@[simp] theorem queueReport_lotView (r : Report) (s : State) : (queueReport r s).lotView = s.lotView :=
  lotView_congr (by simp) (by simp) (by simp) (by simp)

@[simp] theorem State.hand_lotView (s : State) (e : Instr) : (s.hand e).lotView = s.lotView := rfl

@[simp] theorem State.took_lotView (s : State) (e : Instr) : (s.took e).lotView = s.lotView := rfl

/-! ## The chain controller and the loading station -/

@[simp] theorem setStepState_lotView (st : StepState) (s : State) : (setStepState st s).lotView = s.lotView := rfl

/-- Sending a step keeps the station's record. -/
@[simp] theorem sendStep_station (c : Cane) (dest : Nat) (s : State) :
    (sendStep c dest s).chain.station = s.chain.station := by
  simp [sendStep, setStepState]

/-- Sending a step keeps the discharge queue. -/
@[simp] theorem sendStep_entries (c : Cane) (dest : Nat) (s : State) :
    (sendStep c dest s).discharge.entries = s.discharge.entries := by
  simp [sendStep, setStepState]

/-- An evaluation of the chain controller does nothing, changes the step state, or sends a step. -/
theorem evaluateChain_form (s : State) :
    evaluateChain s = s ∨ (∃ st, evaluateChain s = setStepState st s) ∨
    ∃ c dest, evaluateChain s = sendStep c dest s := by
  rcases evaluateChain_cases s with ⟨-, h⟩ | ⟨-, ⟨-, h⟩ | ⟨c, -, ⟨-, h⟩ | ⟨-, -, h⟩ | ⟨-, -, dest, -, h⟩⟩⟩
  · exact .inl h
  · exact .inr (.inl ⟨_, h⟩)
  · exact .inr (.inl ⟨_, h⟩)
  · exact .inr (.inl ⟨_, h⟩)
  · exact .inr (.inr ⟨c, dest, h⟩)

/-- An evaluation of the chain controller keeps the station's record and the discharge queue. -/
theorem evaluateChain_places (s : State) :
    (evaluateChain s).chain.station = s.chain.station ∧
    (evaluateChain s).discharge.entries = s.discharge.entries := by
  rcases evaluateChain_form s with h | ⟨st, h⟩ | ⟨c, dest, h⟩ <;> simp [h, setStepState]

@[simp] theorem evaluateChain_lotView (s : State) : (evaluateChain s).lotView = s.lotView :=
  lotView_congr (by simp) (evaluateChain_places s).1 (by simp) (evaluateChain_places s).2

/-- A record placed in the empty station names its lot once more (R15, R36). -/
theorem placeRecord_lotsNamed {s : State} (p : Product) (h : s.chain.station = none) :
    (placeRecord (some p) s).lotsNamed = p.lot ::ₘ s.lotsNamed := by
  simp only [placeRecord]
  rw [(Prod.mk.inj (evaluateChain_lotView _)).2]
  simp [State.lotsNamed, h, Cane.lot?]

/-- An EMPTY record placed in the empty station names no lot (R36, R67). -/
theorem placeRecord_none_lotView {s : State} (h : s.chain.station = none) :
    (placeRecord none s).lotView = s.lotView := by
  simp only [placeRecord, evaluateChain_lotView]
  simp [State.lotView, State.lotsNamed, h, Cane.lot?, List.filterMap_cons]

@[simp] theorem tryInsertion_lotView (s : State) : (tryInsertion s).lotView = s.lotView := by
  rcases tryInsertion_cases s with ⟨hd, h⟩ | ⟨-, h⟩
  · simp only [State.insertionDue, Bool.and_eq_true, Option.isNone_iff_eq_none] at hd
    rw [h]
    exact placeRecord_none_lotView hd.1.1.2
  · rw [h]

/-! ## The pacer's evaluation -/

@[simp] theorem setPacerState_lotView (st : PacerState) (s : State) : (setPacerState st s).lotView = s.lotView := rfl

@[simp] theorem State.setPacer_lotView (s : State) (p : Pacer) : (s.setPacer p).lotView = s.lotView := rfl

@[simp] theorem evaluateFire_lotView (s : State) : (evaluateFire s).lotView = s.lotView :=
  lotView_congr (by simp) (by simp) (by simp) (by simp)

@[simp] theorem afterFireEnd_lotView (s : State) : (afterFireEnd s).lotView = s.lotView := by
  simp [afterFireEnd]

/-! ## The line sequencer and the modes -/

@[simp] theorem queuePressCommand_lotView (s : State) : (queuePressCommand s).lotView = s.lotView :=
  lotView_congr (by simp) (by simp) (by simp) (by simp)

@[simp] theorem enterModeCore_lotView (m : LineMode) (r : ModeReason) (c : Option FaultCode) (s : State) :
    (enterModeCore m r c s).lotView = s.lotView := lotView_congr (by simp) (by simp) (by simp) (by simp)

@[simp] theorem raiseFault_lotView (c : FaultCode) (d : Nat) (s : State) : (raiseFault c d s).lotView = s.lotView :=
  lotView_congr (by simp) (by simp) (by simp) (by simp)

@[simp] theorem speedLostTest_lotView (s : State) : (speedLostTest s).lotView = s.lotView :=
  lotView_congr (by simp) (by simp) (by simp) (by simp)

/-- Entering a mode other than RUNNING leaves the lots (R12). -/
theorem enterMode_lotView {m : LineMode} (hm : m ≠ .running) (r : ModeReason) (s : State) :
    (enterMode m r s).lotView = s.lotView := by
  cases m <;> simp [enterMode] at hm ⊢

/-! ## Zones, slots and the climate loss -/

@[simp] theorem refreshDemand_lotView (k : Nat) (s : State) : (refreshDemand k s).lotView = s.lotView :=
  lotView_congr (by simp) (by simp) (by simp) (by simp)

@[simp] theorem queueAirDir_lotView (k : Nat) (s : State) : (queueAirDir k s).lotView = s.lotView :=
  lotView_congr (by simp) (by simp) (by simp) (by simp)

@[simp] theorem startAirTimer_lotView (k : Nat) (s : State) : (startAirTimer k s).lotView = s.lotView :=
  lotView_congr (by simp) (by simp) (by simp) (by simp)

@[simp] theorem State.setZone_lotView (s : State) (k : Nat) (z : ZoneState) : (s.setZone k z).lotView = s.lotView :=
  rfl

@[simp] theorem State.setLoss_lotView (s : State) (k : Nat) (t : LatchTimer) (m : Bool) :
    (s.setLoss k t m).lotView = s.lotView := rfl

@[simp] theorem State.setSlot_lotView (s : State) (r : Nat) (x : Slot) : (s.setSlot r x).lotView = s.lotView := rfl

@[simp] theorem climateSlotLost_lotView (k : Nat) (s : State) : (climateSlotLost k s).lotView = s.lotView :=
  lotView_congr (by simp) (by simp) (by simp) (by simp)

@[simp] theorem climateSlotBack_lotView (k : Nat) (s : State) : (climateSlotBack k s).lotView = s.lotView :=
  lotView_congr (by simp) (by simp) (by simp) (by simp)

@[simp] theorem climateCheck_lotView (s : State) : (climateCheck s).lotView = s.lotView :=
  lotView_congr (by simp) (by simp) (by simp) (by simp)

@[simp] theorem reportLoss_lotView (role : Nat) (s : State) : (reportLoss role s).lotView = s.lotView := by
  simp only [reportLoss]
  split
  · simp; rfl
  split
  · rfl
  split
  · simp
  split
  · split <;> simp
  · rfl

@[simp] theorem reportGain_lotView (role : Nat) (s : State) : (reportGain role s).lotView = s.lotView := by
  simp only [reportGain]; (repeat' split) <;> simp

@[simp] theorem makeLost_lotView (role : Nat) (s : State) : (makeLost role s).lotView = s.lotView := by
  rcases makeLost_cases role s with ⟨-, h⟩ | ⟨-, h⟩ <;> simp [h]

/-! ## Sample items (R143 to R150) -/

/-- What every pass of a fold over the state keeps, the fold keeps. -/
theorem foldl_keeps {α β : Type} (g : State → α) (f : State → β → State) (h : ∀ u b, g (f u b) = g u) (bs : List β)
    (s : State) : g (bs.foldl f s) = g s := by
  induction bs generalizing s with
  | nil => rfl
  | cons b bs ih => rw [List.foldl_cons, ih, h]

@[simp] theorem acceptItem_lotView (role : Nat) (v : Int) (st : SampleStatus) (tick : Nat) (s : State) :
    (acceptItem role v st tick s).lotView = s.lotView := by
  rw [acceptItem, foldl_keeps State.lotView State.hand State.hand_lotView]
  split <;> simp

@[simp] theorem takeItem_lotView (source tick : Nat) (i : SampleItem) (s : State) :
    (takeItem source tick i s).lotView = s.lotView := by
  simp only [takeItem]; (repeat' split) <;> simp

@[simp] theorem takeSample_lotView (source : Nat) (payload : List Byte) (s : State) :
    (takeSample source payload s).lotView = s.lotView := by
  rw [takeSample]
  split
  · exact foldl_keeps State.lotView _ (fun u i => takeItem_lotView source s.clock i u) _ s
  · rfl

end Sys2Proof.Machine
end

section
/-!
SUPPORT. The lot view through every row that moves, visits or marks records: a record may change its place and its
figures, never its lot (R15, R61, R68, R85).
-/

namespace Sys2Proof.Machine

/-! ## The chain controller's rows -/

/-- The station's record is named before and after it joins the queue (R61). -/
@[simp] theorem stationJoins_lotView (s : State) : (stationJoins s).lotView = s.lotView := by
  cases hc : s.chain.station with
  | none => simp [stationJoins, hc]
  | some c =>
    simp only [stationJoins, hc, State.lotView, State.lotsNamed, Prod.mk.injEq, true_and, Multiset.coe_eq_coe,
      Option.toList_none, Option.toList_some, List.nil_append]
    exact (List.perm_append_comm.filterMap _).append_right _

/-- A head that leaves takes its lot to the discharge queue; an EMPTY one names none (R62, R113). -/
theorem departHead_lotView {s : State} {c : Cane} (h : s.canes.records.head? = some c) :
    (departHead c s).lotView = s.lotView := by
  obtain ⟨cs, hcs⟩ : ∃ cs, s.canes.records = c :: cs := by
    cases hr : s.canes.records with
    | nil => simp [hr] at h
    | cons x xs => exact ⟨xs, by rw [hr, List.head?_cons] at h; rw [Option.some.inj h]⟩
  cases hp : c.product with
  | none => simp [departHead, hp, State.lotView, State.lotsNamed, hcs, Cane.lot?]
  | some p =>
    have hlot : c.lot? = some p.lot := by rw [Cane.lot?, hp]; rfl
    simp only [departHead, hp, enterDischarge, State.setDischarge, State.lotView, State.lotsNamed, hcs,
      List.tail_cons, List.filterMap_append, List.filterMap_cons, hlot, List.map_append, List.map_cons, List.map_nil,
      newEntry, ← Multiset.coe_add, ← Multiset.cons_coe, Multiset.coe_nil]
    congr 1
    simp only [Multiset.add_cons, Multiset.cons_add, add_zero]

/-- The end of a step moves no record (R61). -/
@[simp] theorem endStep_lotView (s : State) : (endStep s).lotView = s.lotView := by
  rw [endStep]
  split <;> rfl

/-- The end of a drain enters STOPPED, which leaves the lots (R131). -/
@[simp] theorem reportDeparture_lotView (d : Option Cane) (s : State) : (reportDeparture d s).lotView = s.lotView := by
  cases d with
  | none => rfl
  | some c =>
    rw [reportDeparture]
    split
    · exact enterMode_lotView (by decide) _ s
    · rfl

/-- A step-done moves records between their places, and every record goes on naming its lot (R61, R62). -/
@[simp] theorem stepDone_lotView (s : State) : (stepDone s).lotView = s.lotView := by
  simp only [stepDone, afterStepEnd, climateCheck_lotView, reportDeparture_lotView, tryInsertion_lotView,
    evaluateFire_lotView, endStep_lotView]
  split
  case h_1 c hc =>
    refine (departHead_lotView ?_).trans (stationJoins_lotView s)
    revert hc
    rw [departingHead]
    split
    · split
      · exact id
      · nofun
    · nofun
  case h_2 => exact stationJoins_lotView s

@[simp] theorem failStep_lotView (d : Nat) (s : State) : (failStep d s).lotView = s.lotView := by
  simp [failStep, afterStepEnd]
  rfl

@[simp] theorem takeStepOutcome_lotView (n : Nat) (o : FrameOutcome) (s : State) :
    (takeStepOutcome n o s).lotView = s.lotView := by
  have recommand (st : StepInFlight) : (recommandStep st s).lotView = s.lotView := by
    rw [recommandStep]
    split
    · simp; rfl
    · rfl
  have timer (u : State) : (startStepTimer u).lotView = u.lotView := rfl
  rw [takeStepOutcome]
  (repeat' split) <;> simp [recommand, timer]

@[simp] theorem takeChainCount_lotView (n : Nat) (s : State) : (takeChainCount n s).lotView = s.lotView := by
  rw [takeChainCount]
  (repeat' split) <;> simp

@[simp] theorem indexEvent_lotView (s : State) : (indexEvent s).lotView = s.lotView := by
  rw [indexEvent]
  split <;> rfl

@[simp] theorem drainModeChange_lotView (old new : LineMode) (s : State) :
    (drainModeChange old new s).lotView = s.lotView := by
  rw [drainModeChange]
  (repeat' split) <;> rfl

/-! ## The pacer's rows without a cut -/

@[simp] theorem settleWatch_lotView (v : Nat) (s : State) : (settleWatch v s).lotView = s.lotView := by
  rw [settleWatch]
  split <;> rfl

@[simp] theorem overlengthCheck_lotView (s : State) : (overlengthCheck s).lotView = s.lotView := by
  rw [overlengthCheck]
  split <;> rfl

@[simp] theorem takeSpeed_lotView (v tick : Nat) (s : State) : (takeSpeed v tick s).lotView = s.lotView := by
  rw [takeSpeed]
  split <;> simp

@[simp] theorem miss_lotView (s : State) : (miss s).lotView = s.lotView := by
  simp only [miss, afterFireEnd_lotView]
  split <;> rfl

@[simp] theorem takeFireOutcome_lotView (n : Nat) (o : FrameOutcome) (s : State) :
    (takeFireOutcome n o s).lotView = s.lotView := by
  rw [takeFireOutcome]
  (repeat' split) <;> simp [acknowledgeFire]

@[simp] theorem pacerFollowsMode_lotView (new : LineMode) (s : State) :
    (pacerFollowsMode new s).lotView = s.lotView := by
  rw [pacerFollowsMode]
  split
  · rw [evaluateFire_lotView]; split <;> rfl
  · split <;> rfl

@[simp] theorem settleModeChange_lotView (old new : LineMode) (s : State) :
    (settleModeChange old new s).lotView = s.lotView := by
  rw [settleModeChange]
  (repeat' split) <;> rfl

@[simp] theorem cancelFire_lotView (s : State) : (cancelFire s).lotView = s.lotView := by
  rw [cancelFire]
  split <;> simp

/-! ## The discharge unit's orders -/

@[simp] theorem orderHead_lotView (s : State) : (orderHead s).lotView = s.lotView := by
  rw [orderHead]
  split
  · split
    · exact handFrame_lotView _ _ s
    · rfl
  · rfl

/-- A withdrawn order decides its entry again and keeps its record (R118). -/
@[simp] theorem takeOrderOutcome_lotView (q : Nat) (o : FrameOutcome) (s : State) :
    (takeOrderOutcome q o s).lotView = s.lotView := by
  rw [takeOrderOutcome]
  split
  case h_1 e rest he =>
    split
    · simp [withdrawOrder, State.setDischarge, State.lotView, State.lotsNamed, he, DischargeEntry.redecided]
    · rfl
  case h_2 => rfl

/-- Stray events queue a report (R120). -/
@[simp] theorem strayEvents_lotView (n : Nat) (s : State) : (strayEvents n s).lotView = s.lotView :=
  queueReport_lotView _ s

/-! ## Visits and marks -/

/-- A record replaced by one of the same lot leaves the lots named. -/
theorem filterMap_lot_set {cs : List Cane} {k : Nat} {c d : Cane} (hk : cs[k]? = some c) (hl : d.lot? = c.lot?) :
    (cs.set k d).filterMap Cane.lot? = cs.filterMap Cane.lot? := by
  induction cs generalizing k with
  | nil => simp at hk
  | cons x xs ih =>
    cases k with
    | zero =>
      obtain rfl : x = c := by simpa using hk
      simp [List.filterMap_cons, hl]
    | succ k => simp [List.filterMap_cons, ih (by simpa using hk)]

/-- A visited record is replaced in its place by one of its own lot. -/
theorem setProduct_lotView {s : State} {pos : Nat} {c : Cane} {p q : Product} (hc : s.canes.at? pos = some c)
    (hp : c.product = some p) (hq : q.lot = p.lot) : (s.setProduct pos c q).lotView = s.lotView := by
  rw [CaneQueue.at?] at hc
  split at hc
  case isTrue hpos =>
    have hl : ({ c with product := some q } : Cane).lot? = c.lot? := by simp [Cane.lot?, hp, hq]
    simp only [State.setProduct, CaneQueue.setAt, hpos, if_true, State.lotView, State.lotsNamed,
      List.filterMap_append, filterMap_lot_set hc hl]
  case isFalse => cases hc

@[simp] theorem overrunTest_lot (time : Nat) (g : Stage) (p : Product) : (overrunTest time g p).lot = p.lot := by
  rw [overrunTest]; split <;> rfl

@[simp] theorem advanceTest_lot (time : Nat) (gs : List Stage) (p : Product) :
    (advanceTest time gs p).lot = p.lot := by
  rw [advanceTest]; split <;> rfl

@[simp] theorem excursionTest_lot (x : Excursion) (g : Stage) (p : Product) : (excursionTest x g p).lot = p.lot := by
  rw [excursionTest]; split <;> rfl

/-- A visit in a known climate keeps the record's lot (R85 to R89). -/
theorem knownVisit_lot (s : State) (time k : Nat) (temp rh : Int) (p : Product) :
    (knownVisit s time k temp rh p).lot = p.lot := by
  simp [knownVisit, dried]

/-- A visit without a climate keeps the record's lot (R84). -/
theorem unknownVisit_lot (s : State) (time : Nat) (p : Product) : (unknownVisit s time p).lot = p.lot := by
  simp [unknownVisit]

@[simp] theorem reportExcursion_lotView (p q : Product) (n : Nat) (s : State) :
    (reportExcursion p q n s).lotView = s.lotView := by
  rw [reportExcursion]
  split <;> simp

@[simp] theorem State.setDrying_lotView (s : State) (d : Drying) : (s.setDrying d).lotView = s.lotView := rfl

/-- A number taken by the sweep leaves every record in its place with its lot (R80). -/
@[simp] theorem takeNumber_lotView (w : Sweep) (n : Nat) (s : State) : (takeNumber w n s).lotView = s.lotView := by
  simp only [takeNumber]
  split
  case h_1 => rfl
  case h_2 pos _ =>
    split
    case h_1 => rfl
    case h_2 c hc =>
      split
      case h_1 => rfl
      case h_2 p hp =>
        rw [visitProduct]
        split
        · rw [reportExcursion_lotView, State.setDrying_lotView]
          exact setProduct_lotView hc hp (knownVisit_lot s _ _ _ _ p)
        · rw [State.setDrying_lotView]
          exact setProduct_lotView hc hp (unknownVisit_lot s _ p)

/-- A mark keeps a record's lot (R68). -/
theorem marked_lot (c : Cane) (m : CaneMark) (first last : Nat) : (c.marked m first last).lot? = c.lot? := by
  rw [Cane.marked]
  split
  · cases m <;> simp [Cane.lot?, Product.marked, Function.comp_def]
  · rfl

/-- A mark keeps the lots of the discharge queue (R116). -/
theorem markEntries_lots (s : State) (m : CaneMark) (first last : Nat) (ordered : Bool) (es : List DischargeEntry) :
    (markEntries s m first last ordered es).map (fun e => e.product.lot) = es.map (fun e => e.product.lot) := by
  induction es generalizing ordered with
  | nil => rfl
  | cons e es ih =>
    simp only [markEntries, List.map_cons, ih]
    congr 1
    split
    · rw [DischargeEntry.marked]
      cases ordered <;> cases m <;> rfl
    · rfl

@[simp] theorem markRecords_lotView (m : CaneMark) (first last : Nat) (s : State) :
    (markRecords m first last s).lotView = s.lotView := by
  have hlots (cs : List Cane) :
      (cs.map (fun c => c.marked m first last)).filterMap Cane.lot? = cs.filterMap Cane.lot? := by
    simp [List.filterMap_map, marked_lot]
  have hst : (s.chain.station.map (fun c => c.marked m first last)).toList =
      s.chain.station.toList.map (fun c => c.marked m first last) := by cases s.chain.station <;> rfl
  simp only [markRecords, State.lotView, State.lotsNamed, markEntries_lots, hst, List.filterMap_append, hlots]

/-! ## Sweeps and the zones -/

@[simp] theorem deriveClimate_lotView (s : State) : (deriveClimate s).lotView = s.lotView :=
  forEach_keeps _ _ (fun k t => by simp [deriveZone, State.setSetpoints]) _ s

@[simp] theorem closeSweep_lotView (w : Sweep) (s : State) : (closeSweep w s).lotView = s.lotView := by
  simp [closeSweep]

@[simp] theorem startSweep_lotView (s : State) : (startSweep s).lotView = s.lotView := rfl

@[simp] theorem finishSweep_lotView (w : Sweep) (s : State) : (finishSweep w s).lotView = s.lotView := by
  simp only [finishSweep, startAndCloseEmpty]
  (repeat' split) <;> simp

@[simp] theorem onSweepExpiry_lotView (s : State) : (onSweepExpiry s).lotView = s.lotView := by
  simp only [onSweepExpiry]
  (repeat' split) <;> simp

@[simp] theorem configureZones_lotView (n : Nat) (s : State) : (configureZones n s).lotView = s.lotView := by
  rw [configureZones, stopAirTimersFrom, forEach_keeps State.lotView, forEach_keeps State.lotView]
  · intro k t
    simp only [configureZone]
    split <;> simp [State.setSetpoints]
  · intro k t
    split <;> rfl

@[simp] theorem restartLossTimers_lotView (n : Nat) (s : State) : (restartLossTimers n s).lotView = s.lotView := by
  rw [restartLossTimers]
  split
  · exact forEach_keeps State.lotView _ (fun k t => State.setLoss_lotView t k _ _) _ s
  · exact forEach_keeps State.lotView _ (fun k t => by split <;> rfl) _ s

/-! ## The trunk's rows -/

@[simp] theorem State.setPort_lotView (s : State) (p : Port) : (s.setPort p).lotView = s.lotView := rfl

@[simp] theorem cutOffReception_lotView (cs : List RxChar) (s : State) :
    (cutOffReception cs s).lotView = s.lotView := by
  rw [cutOffReception]
  (repeat' split) <;> rfl

@[simp] theorem endReception_lotView (cs : List RxChar) (e : ReceptionEnding) (s : State) :
    (endReception cs e s).lotView = s.lotView := by
  simp only [endReception, takeFrame]
  (repeat' split) <;> simp [setTrunk, discardFrame]

@[simp] theorem endFrame_lotView (o : FrameOutcome) (s : State) : (endFrame o s).lotView = s.lotView := by
  rw [endFrame]
  split <;> rfl

/-- An outcome row keeps the lot view when its action does. -/
theorem takeOutcome_lotView {act : State → State} (e : Instr) (h : ∀ u, (act u).lotView = u.lotView) (s : State) :
    (takeOutcome e act s).lotView = s.lotView := by
  rcases takeOutcome_cases e act s with ⟨-, ht⟩ | ⟨-, ht⟩ <;> simp [ht, h]

end Sys2Proof.Machine
end

section
/-!
SUPPORT. The rows that change the lots, each against the laws of R11 and R15: the lot directives, the activation, the
cut that counts and switches, the release, and the clearing of the line.
-/

namespace Sys2Proof.Machine

/-! ## Slots without references (R6 to R10, R12) -/

/-- A slot that is FREE, LOADING or READY may be rewritten as another such slot with a count of 0, the armed one as a
READY one (R6 to R9). -/
theorem lotLaws_setLot {s : State} {i : Nat} {l : LotSlot} (h : LotLaws s) (hi : i < 16)
    (hold : (s.lotSlot i).life = .free ∨ (s.lotSlot i).life = .loading ∨ (s.lotSlot i).life = .ready)
    (hnew : l.life = .free ∨ l.life = .loading ∨ l.life = .ready) (hr : l.refCount = 0)
    (harm : s.lots.armed = some i → l.life = .ready) : LotLaws (s.setLot i l) := by
  rw [lotLaws_iff] at h ⊢
  obtain ⟨hlen, hslot, hnames, hact, harmed⟩ := h
  refine ⟨by simpa using hlen, fun j hj => ?_, hnames, hact, harmed⟩
  by_cases hji : j = i
  · subst hji
    rw [lotSlot_setLot_self l (hlen ▸ hi)]
    have hs := hslot j hi
    exact {
      counted := by rw [hr, ← hs.unused hold]; exact hs.counted
      unused := fun _ => hr
      retiring := fun hl => by simp [hl] at hnew
      active_iff := by
        have hna : ¬ s.lots.active = some j := fun ha => by simp [hs.active_iff.2 ha] at hold
        exact ⟨fun hl => by simp [hl] at hnew, fun ha => absurd ha hna⟩
      ready_of_armed := harm }
  · rw [lotSlot_setLot_ne l hji]
    exact hslot j hj

/-- The armed pointer may be cleared, or set to a READY slot (R10). -/
theorem lotLaws_setArmed {s : State} {a : Option Nat} (h : LotLaws s)
    (ha : ∀ i, a = some i → i < 16 ∧ (s.lotSlot i).life = .ready) : LotLaws (setArmed a s) := by
  obtain ⟨href, hlen, hact, hactlt, -⟩ := h
  exact ⟨href, hlen, hact, hactlt, ha⟩

/-- The activation makes the armed READY slot the ACTIVE one (R12). -/
theorem lotLaws_activateArmed {s : State} (h : LotLaws s) : LotLaws (activateArmed s) := by
  rw [activateArmed]
  split
  case h_2 => exact h
  case h_1 a hnone harm =>
    rw [lotLaws_iff] at h ⊢
    obtain ⟨hlen, hslot, hnames, -, harmed⟩ := h
    have ha := harmed a harm
    have hready := (hslot a ha).ready_of_armed harm
    refine ⟨by simpa using hlen, fun j hj => ?_, hnames, fun j hj => Option.some.inj hj ▸ ha, nofun⟩
    change ((s.setLot a _).lotSlot j).Lawful (s.lotsNamed.count j) (some a = some j) (none = some j)
    by_cases hja : j = a
    · subst hja
      rw [lotSlot_setLot_self _ (hlen ▸ ha)]
      exact ⟨(hslot j ha).counted, nofun, nofun, by simp, nofun⟩
    · rw [lotSlot_setLot_ne _ hja]
      have hs := hslot j hj
      exact { hs with
        active_iff := by rw [hs.active_iff, hnone]; simp [Ne.symm hja]
        ready_of_armed := nofun }

/-! ## The cut (R13, R15, R36) -/

/-- A HANG cut counts the record that it places in the empty station (R15, R36). -/
theorem lotLaws_hangCane {s : State} (length : Nat) (h : LotLaws s) (hst : s.chain.station = none) :
    LotLaws (hangCane length s) := by
  rw [hangCane]
  split
  case h_2 => exact h
  case h_1 a hact =>
    have hst' : (raiseRef a s).chain.station = none := hst
    rw [lotLaws_iff] at h ⊢
    obtain ⟨hlen, hslot, hnames, hactlt, harmed⟩ := h
    have ha := hactlt a hact
    have hlive := (hslot a ha).active_iff.2 hact
    rw [placeRecord_lotsNamed _ hst', placeRecord_lots]
    refine ⟨by simpa [raiseRef] using hlen, fun j hj => ?_, ?_, hactlt, harmed⟩
    · rw [lotSlot_congr (congrArg LotTable.slots (placeRecord_lots _ (raiseRef a s)))]
      change ((raiseRef a s).lotSlot j).Lawful ((a ::ₘ s.lotsNamed).count j) _ _
      by_cases hja : j = a
      · subst hja
        rw [lotSlot_raiseRef_self (hlen ▸ ha), Multiset.count_cons_self]
        have hs := hslot j ha
        exact {
          counted := congrArg (· + 1) hs.counted
          unused := fun hl => by simp [hlive] at hl
          retiring := fun _ => Nat.succ_pos _
          active_iff := hs.active_iff
          ready_of_armed := hs.ready_of_armed }
      · rw [raiseRef, lotSlot_setLot_ne _ hja, Multiset.count_cons_of_ne hja]
        exact hslot j hj
    · intro n hn
      rcases Multiset.mem_cons.1 hn with rfl | hn
      · exact ha
      · exact hnames n hn

/-- A cut handed over by its disposition keeps the laws (R36, R37). -/
theorem lotLaws_handOverCut {s : State} (f : Fire) (length : Nat) (h : LotLaws s) (hst : s.chain.station = none) :
    LotLaws (handOverCut f length s) := by
  rw [handOverCut]
  split
  · exact lotLaws_congr (State.setPacer_lotView _ _) (lotLaws_hangCane length h hst)
  · exact lotLaws_congr (placeRecord_none_lotView hst) h
  · exact lotLaws_congr (State.setPacer_lotView _ _) h

/-- The switch names no record: only the lot table changes. -/
theorem switchLots_lotsNamed (old new : Nat) (s : State) : (switchLots old new s).lotsNamed = s.lotsNamed := by
  simp [switchLots, State.lotsNamed]

/-- The switch retires the ACTIVE slot or frees it, and makes the armed one ACTIVE (R13, R17). -/
theorem lotLaws_switchLots {s : State} {old new : Nat} (h : LotLaws s) (hact : s.lots.active = some old)
    (harm : s.lots.armed = some new) (hne : old ≠ new) : LotLaws (switchLots old new s) := by
  rw [lotLaws_iff] at h ⊢
  obtain ⟨hlen, hslot, hnames, hactlt, harmed⟩ := h
  have ho := hactlt old hact
  have hn := harmed new harm
  obtain ⟨hlen', harm', hact', -⟩ := switchLots_table old new s
  rw [switchLots_lotsNamed, hlen', harm', hact']
  refine ⟨hlen, fun j hj => ?_, hnames, fun j hj => Option.some.inj hj ▸ hn, nofun⟩
  have hs := hslot j hj
  by_cases hjo : j = old
  · subst hjo
    rw [lotSlot_switchLots_old hne (hlen ▸ ho)]
    split
    case isTrue h0 =>
      exact ⟨by rw [← hs.counted, h0]; rfl, fun _ => rfl, nofun, by simp [LotSlot.cleared, hne.symm], nofun⟩
    case isFalse h0 => exact ⟨hs.counted, nofun, fun _ => Nat.pos_of_ne_zero h0, by simp [hne.symm], nofun⟩
  · by_cases hjn : j = new
    · subst hjn
      rw [lotSlot_switchLots_new hne (hlen ▸ hn)]
      exact ⟨hs.counted, nofun, nofun, by simp, nofun⟩
    · rw [lotSlot_switchLots_ne hjo hjn]
      exact { hs with
        active_iff := by rw [hs.active_iff, hact]; simp [Ne.symm hjo, Ne.symm hjn]
        ready_of_armed := nofun }

/-- The switch test keeps the laws (R13). -/
theorem lotLaws_switchTest {s : State} (h : LotLaws s) : LotLaws (switchTest s) := by
  rw [switchTest]
  split
  case h_1 new old harm hact =>
    split
    case isTrue hc => exact lotLaws_switchLots h hact harm hc.2.symm
    case isFalse => exact h
  case h_2 => exact h

/-- A completed cut keeps the laws: the station is empty while a fire is in flight (R29). -/
theorem lotLaws_completeCut {s : State} (f : Fire) (h : LotLaws s) (hst : s.chain.station = none) :
    LotLaws (completeCut f s) := by
  have hcut := lotLaws_handOverCut f (roundedLength s.pacer.acc)
    (lotLaws_congr (State.setPacer_lotView s (s.pacer.closeCurtain f.kind)) h) hst
  exact lotLaws_congr (afterFireEnd_lotView _)
    (lotLaws_switchTest (lotLaws_congr (State.setPacer_lotView _ _) hcut))

@[simp] theorem unexpectedCuts_lotView (n : Nat) (s : State) : (unexpectedCuts n s).lotView = s.lotView := by
  simp [unexpectedCuts]

/-- A group of knife-count events keeps the laws (R35, R39, R40). -/
theorem lotLaws_takeKnifeCount {s : State} (n : Nat) (h : LotLaws s) (hfs : FireStepLaw s) :
    LotLaws (takeKnifeCount n s) := by
  rw [takeKnifeCount]
  split
  · exact h
  split
  case h_1 f hf =>
    have hcut := lotLaws_completeCut f h (hfs.1 (by rw [hf]; rfl)).1
    split
    · exact hcut
    · exact lotLaws_congr (unexpectedCuts_lotView _ _) hcut
  case h_2 => exact lotLaws_congr (unexpectedCuts_lotView _ _) h

/-! ## The release and the clearing of the line (R15, R16, R17) -/

/-- A release names no record: only the lot table changes. -/
theorem releaseRef_lotsNamed (i : Nat) (s : State) : (releaseRef i s).lotsNamed = s.lotsNamed := by
  simp [State.lotsNamed]

/-- A slot released for a record that has just gone keeps the laws (R15, R17). -/
theorem lotLaws_releaseRef {s u : State} {a : Nat} (h : LotLaws s) (hl : u.lots = s.lots)
    (hn : s.lotsNamed = a ::ₘ u.lotsNamed) : LotLaws (releaseRef a u) := by
  rw [lotLaws_iff, hn, ← hl] at h
  obtain ⟨hlen, hslot, hnames, hact, harmed⟩ := h
  have ha : a < 16 := hnames a (Multiset.mem_cons_self a _)
  obtain ⟨hlen', harm', hact', -⟩ := releaseRef_table a u
  rw [lotLaws_iff, releaseRef_lotsNamed, hlen', harm', hact']
  refine ⟨hlen, fun j hj => ?_, fun n hn => hnames n (Multiset.mem_cons_of_mem hn), hact, harmed⟩
  have hs := hslot j hj
  rw [← lotSlot_congr (congrArg LotTable.slots hl)] at hs
  by_cases hja : j = a
  · subst hja
    rw [lotSlot_releaseRef_self (hlen ▸ ha)]
    have hc := hs.counted
    rw [Multiset.count_cons_self] at hc
    have hused : ¬ ((u.lotSlot j).life = .free ∨ (u.lotSlot j).life = .loading ∨ (u.lotSlot j).life = .ready) :=
      fun hl => by rw [hs.unused hl] at hc; cases hc
    have hnarm : ¬ u.lots.armed = some j := fun e => hused (.inr (.inr (hs.ready_of_armed e)))
    split
    case isTrue hfree =>
      have hnact : ¬ u.lots.active = some j := fun e => by simp [hs.active_iff.2 e] at hfree
      exact ⟨by simp only [LotSlot.cleared]; omega, fun _ => rfl, nofun, by simp [LotSlot.cleared, hnact],
        fun e => absurd e hnarm⟩
    case isFalse hkept =>
      exact ⟨by simp only; omega, fun hl => absurd hl hused,
        fun hl => Nat.sub_pos_of_lt (Nat.lt_of_not_le fun hle => hkept ⟨hl, hle⟩), hs.active_iff,
        fun e => absurd e hnarm⟩
  · rw [lotSlot_releaseRef_ne hja]
    rwa [Multiset.count_cons_of_ne hja] at hs

/-- A strip completion takes a record from the discharge queue and releases its lot (R119). -/
theorem lotLaws_completeHead {s : State} {e : DischargeEntry} {rest : List DischargeEntry} (h : LotLaws s)
    (he : s.discharge.entries = e :: rest) : LotLaws (completeHead e rest s) := by
  have entries (d : Discharge) (x : Disposition) : (d.counted x).entries = d.entries := by cases x <;> rfl
  refine lotLaws_congr (evaluateChain_lotView _) (lotLaws_releaseRef h (by simp [State.setDischarge]) ?_)
  simp only [State.lotsNamed, State.setDischarge, entries, queueReport_chain, queueReport_canes, he, List.map_cons,
    ← Multiset.coe_add, ← Multiset.cons_coe, Multiset.add_cons]

/-- A group of STRIPPER_COUNT events keeps the laws (R119, R120). -/
theorem lotLaws_takeStripperCount {s : State} (n : Nat) (h : LotLaws s) : LotLaws (takeStripperCount n s) := by
  rw [takeStripperCount]
  split
  · exact h
  split
  case h_1 e rest he =>
    split
    · split
      · exact lotLaws_completeHead h he
      · exact lotLaws_congr (strayEvents_lotView _ _) (lotLaws_completeHead h he)
    · exact lotLaws_congr (strayEvents_lotView _ _) h
  case h_2 => exact lotLaws_congr (strayEvents_lotView _ _) h

/-- One more pass of `forEach` comes after the passes before it. -/
theorem forEach_succ (n : Nat) (f : Nat → State → State) (s : State) : forEach (n + 1) f s = f n (forEach n f s) := by
  simp [forEach, List.range_succ]

/-- A run over the slots 0 to n − 1 frees just those of them that are RETIRING with a count of 0 (R16, R17). -/
theorem lotSlot_forEach_free (n i : Nat) (s : State) :
    (forEach n freeIfRetired s).lotSlot i =
      if i < n ∧ (s.lotSlot i).life = .retiring ∧ (s.lotSlot i).refCount = 0 then .cleared else s.lotSlot i := by
  induction n with
  | zero => simp [forEach]
  | succ n ih =>
    rw [forEach_succ]
    by_cases hi : i = n
    · subst hi
      rw [lotSlot_freeIfRetired_self, ih]
      simp
    · rw [lotSlot_freeIfRetired_ne _ hi, ih]
      simp only [Nat.lt_succ_iff_lt_or_eq, hi, or_false]

/-- The run keeps the size of the table, its pointers and the gap table. -/
theorem freeRetired_table (s : State) :
    (freeRetired s).lots.slots.length = s.lots.slots.length ∧ (freeRetired s).lots.armed = s.lots.armed ∧
    (freeRetired s).lots.active = s.lots.active ∧ (freeRetired s).lots.gap = s.lots.gap := by
  rw [freeRetired]
  generalize 16 = n
  induction n with
  | zero => exact ⟨rfl, rfl, rfl, rfl⟩
  | succ n ih =>
    obtain ⟨hlen, harm, hact, hgap⟩ := freeIfRetired_table n (forEach n freeIfRetired s)
    rw [forEach_succ, hlen, harm, hact, hgap]
    exact ih

/-- The run moves no record. -/
theorem freeRetired_places (s : State) :
    (freeRetired s).chain = s.chain ∧ (freeRetired s).canes = s.canes ∧ (freeRetired s).discharge = s.discharge :=
  ⟨forEach_keeps State.chain _ (fun _ _ => freeIfRetired_chain _ _) 16 s,
   forEach_keeps State.canes _ (fun _ _ => freeIfRetired_canes _ _) 16 s,
   forEach_keeps State.discharge _ (fun _ _ => freeIfRetired_discharge _ _) 16 s⟩

/-- A slot with its count cleared (R16). -/
theorem lotSlot_clearRefs (i : Nat) (s : State) :
    (clearRefs s).lotSlot i = { s.lotSlot i with refCount := 0 } := by
  simp only [State.lotSlot, clearRefs, List.getD_eq_getElem?_getD, List.getElem?_map]
  cases s.lots.slots[i]? <;> rfl

/-- A slot after the clearing of the line: freed when it was RETIRING, and with a count of 0 (R16, R17). -/
theorem lotSlot_cleared_line {i : Nat} (hi : i < 16) (s : State) :
    (freeRetired (clearRefs (emptyPlaces s))).lotSlot i =
      if (s.lotSlot i).life = .retiring then .cleared else { s.lotSlot i with refCount := 0 } := by
  rw [freeRetired, lotSlot_forEach_free, lotSlot_clearRefs, lotSlot_congr (s := s) (t := emptyPlaces s) rfl]
  simp [hi]

/-- A line that is cleared keeps the laws: no record is left, and no slot RETIRING (R16, R17, R70). -/
theorem lotLaws_clearLine {s : State} (h : LotLaws s) : LotLaws (clearLine s) := by
  refine lotLaws_congr (s := freeRetired (clearRefs (emptyPlaces s))) (by simp [clearLine]) ?_
  rw [lotLaws_iff] at h ⊢
  obtain ⟨hlen, hslot, -, hact, harmed⟩ := h
  obtain ⟨hlen', harm', hact', -⟩ := freeRetired_table (clearRefs (emptyPlaces s))
  have hnames : (freeRetired (clearRefs (emptyPlaces s))).lotsNamed = 0 := by
    obtain ⟨hc, hq, hd⟩ := freeRetired_places (clearRefs (emptyPlaces s))
    rw [State.lotsNamed, hc, hq, hd]
    rfl
  rw [hnames, hlen', harm', hact']
  refine ⟨by simpa [clearRefs, emptyPlaces] using hlen, fun j hj => ?_, nofun, hact, harmed⟩
  change LotSlot.Lawful _ _ (s.lots.active = some j) (s.lots.armed = some j)
  have hs := hslot j hj
  rw [lotSlot_cleared_line hj]
  split
  case isTrue hret =>
    have hnact : ¬ s.lots.active = some j := fun e => by simp [hs.active_iff.2 e] at hret
    exact ⟨rfl, fun _ => rfl, nofun, by simp [LotSlot.cleared, hnact],
      fun e => by simp [hs.ready_of_armed e] at hret⟩
  case isFalse hkept =>
    exact ⟨rfl, fun _ => rfl, fun hl => absurd hl hkept, hs.active_iff, hs.ready_of_armed⟩

end Sys2Proof.Machine
end

section
/-!
SUPPORT. The laws of R11 and R15 through every row: the directives by what their checks can answer, then the rows one
by one; and every law at reset.
-/

namespace Sys2Proof.Machine

/-! ## Directives -/

/-- Whatever the execution answers, it keeps the two laws. -/
def KeepsLots (act : List Byte → State → Answer) : Prop := ∀ args u, LotLaws u → LotLaws (act args u).state

/-- The same for a table write, given its first index and its entries. -/
def WriteKeepsLots (act : Nat → List (List Byte) → State → Answer) : Prop :=
  ∀ first es u, LotLaws u → LotLaws (act first es u).state

/-- A refusal leaves the state (R169). -/
@[simp] theorem refuse_state (o : OutcomeCode) (s : State) : (refuse o s).state = s := rfl

/-- A directive that is taken leaves the state its effects made (R170). -/
@[simp] theorem doneWith_state (body : List Byte) (s : State) : (doneWith body s).state = s := rfl

/-- A directive keeps the laws, started or waiting, when its execution does: the queue and the response hold no lot
(R168, R170). -/
theorem lotLaws_runDirective {s : State} {d : Directive} {gap : Bool} {act : List Byte → State → Answer}
    (hk : KeepsLots act) (h : LotLaws s) : LotLaws (runDirective d gap act s) := by
  rcases runDirective_cases d gap act s with ⟨-, hr⟩ | ⟨-, hr⟩ <;> rw [hr]
  · exact lotLaws_congr (handFrame_lotView _ _ _) (hk _ _ (lotLaws_congr (s := s) rfl h))
  · exact h

theorem keepsLots_withLength {n : Nat} {act : List Byte → State → Answer} (hk : KeepsLots act) :
    KeepsLots (withLength n act) := by
  intro args u h
  rw [withLength]
  split
  · exact hk args u h
  · exact h

/-- A lot directive acts on a slot of the table only (R5). -/
theorem keepsLots_withSlot {act : List Byte → Nat → State → Answer}
    (hk : ∀ args i u, i < 16 → LotLaws u → LotLaws (act args i u).state) :
    KeepsLots (fun args => withSlot (act args) args) := by
  intro args u h
  change LotLaws (withSlot (act args) args u).state
  rw [withSlot]
  split
  case isTrue hi => exact hk args _ u (Nat.lt_succ_of_le hi) h
  case isFalse => exact h

theorem keepsLots_modeFrom {taken : LineMode → Bool} {act : State → Answer}
    (hk : ∀ u, LotLaws u → LotLaws (act u).state) : KeepsLots (modeFrom taken act) := by
  intro args u h
  rw [modeFrom]
  split
  · exact h
  split
  · exact hk u h
  · exact h

theorem keepsLots_withEntries {t : TableId} {act : Nat → List (List Byte) → State → Answer}
    (hk : WriteKeepsLots act) : KeepsLots (withEntries t act) := by
  intro args u h
  rw [withEntries]
  split
  · exact hk _ _ u h
  · exact h

theorem writeKeepsLots_withRange {t : TableId} {act : Nat → List (List Byte) → State → Answer}
    (hk : WriteKeepsLots act) : WriteKeepsLots (withRange t act) := by
  intro first es u h
  rw [withRange]
  split
  · exact hk first es u h
  · exact h

theorem writeKeepsLots_withModes {act : Nat → List (List Byte) → State → Answer} (hk : WriteKeepsLots act) :
    WriteKeepsLots (withModes act) := by
  intro first es u h
  rw [withModes]
  split
  · exact hk first es u h
  · exact h

theorem writeKeepsLots_withZoneCountZero {act : Nat → List (List Byte) → State → Answer}
    (hk : WriteKeepsLots act) : WriteKeepsLots (withZoneCountZero act) := by
  intro first es u h
  rw [withZoneCountZero]
  split
  · exact hk first es u h
  · exact h

/-! ## The table writes -/

theorem writeKeepsLots_listen : WriteKeepsLots writeListen := by
  intro first es u h
  rw [writeListen]
  split
  · exact h
  split
  · exact lotLaws_congr (forEach_keeps State.lotView _ (fun k t => makeLost_lotView _ t) _ _) h
  · exact h

theorem writeKeepsLots_talk : WriteKeepsLots writeTalk := by
  intro first es u h
  rw [writeTalk]
  split
  · exact h
  · refine lotLaws_congr ?_ h
    simp only [doneWith_state, storeTalk, apply_ite State.lotView, evaluateChain_lotView, evaluateFire_lotView,
      ite_self]
    rfl

theorem writeKeepsLots_zone : WriteKeepsLots writeZone := by
  intro first es u h
  unfold writeZone
  cases parseAll parseZone es <;> exact h

/-- ZONE_COUNT configures zones and moves no record (R53, R97). -/
theorem lotLaws_writeZoneCount (n : Nat) {u : State} (h : LotLaws u) : LotLaws (writeZoneCount n u).state := by
  rw [writeZoneCount]
  split
  · exact h
  split
  · exact h
  split
  · exact h
  split
  · refine lotLaws_congr ?_ h
    simp only [doneWith_state, storeZoneCount, evaluateChain_lotView, restartLossTimers_lotView,
      configureZones_lotView]
    rfl
  · exact h

theorem writeKeepsLots_meq : WriteKeepsLots writeMeq := by
  intro first es u h
  unfold writeMeq
  cases parseAll parseMeq es <;> exact h

theorem lotLaws_writeModel (entry : List Byte) {u : State} (h : LotLaws u) : LotLaws (writeModel entry u).state := by
  unfold writeModel
  cases parseModel entry <;> exact h

theorem lotLaws_writePacer (entry : List Byte) {u : State} (h : LotLaws u) : LotLaws (writePacer entry u).state := by
  unfold writePacer
  cases parsePacer entry <;> exact h

theorem lotLaws_writeLine (entry : List Byte) {u : State} (h : LotLaws u) : LotLaws (writeLine entry u).state := by
  unfold writeLine
  cases parseLine u.port.node entry <;> exact h

/-! ## The lot directives (R6 to R10) -/

theorem lotLaws_openLot {u : State} (header : Option LotHeader) (i : Nat) (hi : i < 16) (h : LotLaws u) :
    LotLaws (openLot header i u).state := by
  unfold openLot
  split
  · exact h
  case isFalse hfree =>
    have hfree := not_not.1 hfree
    split
    · exact h
    split
    · refine lotLaws_setLot h hi (.inl hfree) (.inr (.inl rfl)) rfl fun ha => ?_
      have := (h.2.2.2.2 i ha).2
      simp [hfree] at this
    · exact h

/-- A LOADING slot has no references and is not armed (R11, R15). -/
theorem loading_unreferenced {u : State} {i : Nat} (hi : i < 16) (h : LotLaws u)
    (hl : (u.lotSlot i).life = .loading) : (u.lotSlot i).refCount = 0 ∧ u.lots.armed ≠ some i := by
  refine ⟨h.1.2.2.2.1 i hi (.inr (.inl hl)), fun ha => ?_⟩
  have := (h.2.2.2.2 i ha).2
  simp [hl] at this

theorem lotLaws_appendStage {u : State} (g : Stage) (i : Nat) (hi : i < 16) (h : LotLaws u) :
    LotLaws (appendStage g i u).state := by
  rw [appendStage]
  split
  · exact h
  case isFalse hl =>
    have hl := not_not.1 hl
    obtain ⟨hr, ha⟩ := loading_unreferenced hi h hl
    split
    · exact h
    split
    · exact h
    · exact lotLaws_setLot h hi (.inr (.inl hl)) (.inr (.inl hl)) hr fun e => absurd e ha

theorem lotLaws_sealLot {u : State} (i : Nat) (hi : i < 16) (h : LotLaws u) : LotLaws (sealLot i u).state := by
  rw [sealLot]
  split
  · exact h
  case isFalse hl =>
    have hl := not_not.1 hl
    obtain ⟨hr, -⟩ := loading_unreferenced hi h hl
    split
    · exact lotLaws_setLot h hi (.inr (.inl hl)) (.inr (.inr rfl)) hr fun _ => rfl
    · exact h

theorem lotLaws_discardLot {u : State} (i : Nat) (hi : i < 16) (h : LotLaws u) :
    LotLaws (discardLot i u).state := by
  rw [discardLot]
  split
  case isFalse => exact h
  case isTrue hc =>
    refine lotLaws_setLot h hi (.inr (hc.imp_right And.left)) (.inl rfl) rfl fun ha => ?_
    rcases hc with hl | ⟨-, hn⟩
    · exact absurd ha (loading_unreferenced hi h hl).2
    · exact absurd ha hn

theorem keepsLots_armLot : KeepsLots (fun args => armLot (field args 0 1)) := by
  intro args u h
  change LotLaws (armLot (field args 0 1) u).state
  rw [armLot]
  generalize field args 0 1 = b
  split
  · exact h
  case isFalse hb =>
    split
    · exact h
    split
    · exact lotLaws_setArmed h nofun
    case isFalse hne =>
      split
      case isTrue hready =>
        refine lotLaws_setArmed h fun i hi => ?_
        cases hi
        exact ⟨by omega, hready⟩
      case isFalse => exact h

/-! ## The other directives -/

theorem keepsLots_readTable : KeepsLots readTableAnswer := by
  intro args u h
  simp only [readTableAnswer, readKnownTable, readLot]
  (repeat' split) <;> exact h

theorem keepsLots_readCane : KeepsLots readCaneAnswer := by
  intro args u h
  simp only [readCaneAnswer, readBySequence, readByPosition]
  (repeat' split) <;> exact h

theorem keepsLots_readStatus : KeepsLots readStatusAnswer := by
  intro args u h
  rw [readStatusAnswer]
  split <;> exact h

theorem keepsLots_markCanes : KeepsLots markCanesAnswer := by
  intro args u h
  simp only [markCanesAnswer]
  split
  · exact h
  · exact lotLaws_congr (markRecords_lotView _ _ _ u) h

theorem keepsLots_clearLine : KeepsLots clearLineAnswer := by
  intro args u h
  rw [clearLineAnswer]
  split
  · exact h
  split
  · exact h
  · rw [doneWith_state]
    exact lotLaws_clearLine h

theorem keepsLots_ackFault : KeepsLots (fun args => ackFaultCode (field args 0 1)) := by
  intro args u h
  simp only [ackFaultCode]
  (repeat' split) <;> exact h

theorem keepsLots_refuseTable : KeepsLots refuseTable := by
  intro args u h
  rw [refuseTable]
  split <;> exact h

theorem keepsLots_refuseMode : KeepsLots refuseMode := by
  intro args u h
  rw [refuseMode]
  split <;> exact h

/-! ## The modes -/

/-- Only an entry to RUNNING touches the lots, by the activation (R12, R128). -/
theorem lotLaws_enterMode (m : LineMode) (r : ModeReason) {u : State} (h : LotLaws u) : LotLaws (enterMode m r u) := by
  by_cases hm : m = .running
  · subst hm
    exact lotLaws_congr (s := activateArmed (enterModeCore .running r none u)) rfl
      (lotLaws_activateArmed (lotLaws_congr (enterModeCore_lotView _ _ _ u) h))
  · exact lotLaws_congr (enterMode_lotView hm r u) h

theorem lotLaws_enterPriming {u : State} (h : LotLaws u) : LotLaws (enterPriming u).state := by
  rw [enterPriming]
  split
  · exact h
  split
  · exact h
  · exact lotLaws_enterMode _ _ h

theorem lotLaws_enterRunning {u : State} (h : LotLaws u) : LotLaws (enterRunning u).state := by
  rw [enterRunning]
  split
  · exact h
  split
  · exact h
  · exact lotLaws_enterMode _ _ h

theorem lotLaws_enterDraining {u : State} (h : LotLaws u) : LotLaws (enterDraining u).state := by
  simp only [enterDraining, doneWith_state]
  split
  · exact lotLaws_enterMode _ _ h
  · exact lotLaws_enterMode _ _ (lotLaws_enterMode _ _ h)

theorem lotLaws_enterStopped {u : State} (h : LotLaws u) : LotLaws (enterStopped u).state := by
  rw [enterStopped]
  split
  · split
    · exact lotLaws_enterMode _ _ h
    · exact h
  split
  · exact h
  · exact lotLaws_enterMode _ _ h

theorem lotLaws_enterSafe {u : State} (h : LotLaws u) : LotLaws (enterSafe u).state := by
  rw [enterSafe]
  split
  · exact h
  · exact lotLaws_enterMode _ _ h

theorem lotLaws_leaveSafe {u : State} (h : LotLaws u) : LotLaws (leaveSafe u).state := by
  rw [leaveSafe]
  split
  · exact h
  · exact lotLaws_enterMode _ _ h

/-! ## Power-on -/

/-- After power-on every slot is FREE and no record names one (R2, R165). -/
theorem lotLaws_powerOn (straps : BitVec 6) : LotLaws (State.powerOn straps) := by
  rw [lotLaws_iff]
  refine ⟨rfl, fun i _ => ?_, nofun, nofun, nofun⟩
  rw [lotSlot_of_lots_initial rfl i]
  exact ⟨rfl, fun _ => rfl, nofun, ⟨nofun, nofun⟩, nofun⟩

/-! ## Every row -/

/-- A law of the state that a row leaves is a law of its outcome. -/
theorem of_next {P : State → Prop} {u t : State} (h : (.next u : Host.Outcome State Fault Refusal) = .next t)
    (hu : P u) : P t := by
  cases h
  exact hu

/-- Every row keeps the two laws; only a cut leans on the empty station of R29. -/
theorem lotLaws_exec {c : Instr} {s t : State} (hfs : FireStepLaw s) (h : LotLaws s) (ht : exec c s = .next t) :
    LotLaws t := by
  -- a row that leaves the lot view
  have same {u : State} (hu : (.next u : Host.Outcome State Fault Refusal) = .next t) (hv : u.lotView = s.lotView) :
      LotLaws t := of_next hu (lotLaws_congr hv h)
  -- a directive row
  have dir {d : Directive} {gap : Bool} {act : List Byte → State → Answer}
      (hu : (.next (runDirective d gap act s) : Host.Outcome State Fault Refusal) = .next t) (hk : KeepsLots act) :
      LotLaws t := of_next hu (lotLaws_runDirective hk h)
  have took (e : Instr) : LotLaws (s.took e) := lotLaws_congr (State.took_lotView s e) h
  cases c with
  | powerOnReset straps => exact of_next ht (lotLaws_congr (s := State.powerOn straps) rfl (lotLaws_powerOn straps))
  | trunkReset =>
    refine same ht ?_
    split
    · rfl
    · exact (foldl_keeps State.lotView State.hand State.hand_lotView _ _).trans (State.setPort_lotView s _)
  | signalUnitTrunkReset => exact same ht (forEach_keeps State.lotView _ (fun _ _ => makeLost_lotView _ _) 32 _)
  | pacerTrunkReset => exact same ht (cancelFire_lotView _)
  | chainTrunkReset => exact same ht (by (repeat' split) <;> rfl)
  | dischargeTrunkReset => exact same ht rfl
  | lineSequencerTrunkReset =>
    refine of_next ht (lotLaws_congr rfl ?_)
    split
    · exact lotLaws_enterMode _ _ (took _)
    · exact took .lineSequencerTrunkReset
  | agentTrunkReset => exact same ht rfl
  | idleGap received =>
    refine same ht ?_
    split
    · rfl
    · exact cutOffReception_lotView received s
  | receptionEnd received ending => exact same ht (endReception_lotView received ending s)
  | directiveAcknowledge received => exact same ht (by (repeat' split) <;> rfl)
  | frameDraw => exact same ht (by split <;> rfl)
  | claimLost => exact same ht (by (repeat' split) <;> rfl)
  | transmissionBroken => exact same ht (endFrame_lotView _ s)
  | acknowledgeSlotOutcome dominant => exact same ht (endFrame_lotView _ s)
  | knifeFireOutcome f o => exact same ht (takeOutcome_lotView _ (takeFireOutcome_lotView _ o) s)
  | chainStepOutcome f o => exact same ht (takeOutcome_lotView _ (takeStepOutcome_lotView _ o) s)
  | pressCmdOutcome f run o =>
    exact same ht (takeOutcome_lotView _ (fun u => by rw [takePressOutcome]; split <;> rfl) s)
  | zoneCommandOutcome f o => exact same ht (takeOutcome_lotView _ (fun _ => rfl) s)
  | stripOrderOutcome f q o => exact same ht (takeOutcome_lotView _ (takeOrderOutcome_lotView q o) s)
  | managementFrameOutcome f o => exact same ht (takeOutcome_lotView _ (fun _ => rfl) s)
  | speedArrival v tick => exact same ht (takeSpeed_lotView v tick _)
  | spreaderStateArrival v => exact same ht (by split <;> simp)
  | knifeCountEvents n => exact of_next ht (lotLaws_takeKnifeCount n (took _) hfs)
  | knifeTimerExpiry => exact same ht (by split <;> simp)
  | settleTimerExpiry => exact same ht (by split <;> rfl)
  | pacerModeChange old new => exact same ht (by simp)
  | chainModeChange old new => exact same ht (by split <;> simp)
  | chainCountEvents n => exact same ht (takeChainCount_lotView n _)
  | chainIndexEvents n => exact same ht (forEach_keeps State.lotView _ (fun _ => indexEvent_lotView) n _)
  | stepTimerExpiry => exact same ht (by split <;> simp)
  | drainTimerExpiry => exact same ht (by split <;> simp; rfl)
  | stripperStateArrival v => exact same ht (by split <;> simp)
  | stripperCountEvents n => exact of_next ht (lotLaws_takeStripperCount n (took _))
  | stallTimerExpiry => exact same ht (by split <;> rfl)
  | pressStateArrival v =>
    refine same ht ?_
    rw [sendOwedCommand]
    (repeat' split) <;> simp
  | zoneRhArrival k => exact same ht (by split <;> simp)
  | staleTimerExpiry role => exact same ht (by rw [staleExpiry]; split <;> rfl)
  | lostTimerExpiry role => exact same ht (by rw [lostExpiry]; split <;> simp)
  | climateLossTimerExpiry k => exact same ht (by split <;> simp)
  | airTimerExpiry k => exact same ht (by split <;> simp [alternateAir])
  | sweepTimerExpiry => exact same ht (by split <;> simp)
  | caneVisit => exact same ht (by (repeat' split) <;> simp)
  | sweepEnd => exact same ht (by (repeat' split) <;> simp)
  | faultRaise code d => exact same ht (raiseFault_lotView code d _)
  | readTable r => exact dir ht keepsLots_readTable
  | writeTableListen r =>
    exact dir ht (keepsLots_withEntries (writeKeepsLots_withModes (writeKeepsLots_withRange writeKeepsLots_listen)))
  | writeTableTalk r =>
    exact dir ht (keepsLots_withEntries (writeKeepsLots_withModes (writeKeepsLots_withRange writeKeepsLots_talk)))
  | writeTableZone r =>
    exact dir ht (keepsLots_withEntries
      (writeKeepsLots_withZoneCountZero (writeKeepsLots_withRange writeKeepsLots_zone)))
  | writeTableZoneCount r =>
    exact dir ht (keepsLots_withEntries (writeKeepsLots_withRange fun _ _ _ => lotLaws_writeZoneCount _))
  | writeTableMeq r => exact dir ht (keepsLots_withEntries (writeKeepsLots_withRange writeKeepsLots_meq))
  | writeTableKd r => exact dir ht (keepsLots_withEntries (writeKeepsLots_withRange fun _ _ _ hu => hu))
  | writeTableModel r =>
    exact dir ht (keepsLots_withEntries (writeKeepsLots_withRange fun _ _ _ => lotLaws_writeModel _))
  | writeTableGap r => exact dir ht (keepsLots_withEntries (writeKeepsLots_withRange fun _ _ _ hu => hu))
  | writeTablePacer r =>
    exact dir ht (keepsLots_withEntries (writeKeepsLots_withRange fun _ _ _ => lotLaws_writePacer _))
  | writeTableLine r =>
    exact dir ht (keepsLots_withEntries (writeKeepsLots_withRange fun _ _ _ => lotLaws_writeLine _))
  | writeTableUnwritable r =>
    refine of_next ht ?_
    split
    · exact h
    · exact lotLaws_runDirective keepsLots_refuseTable h
  | readCane r => exact dir ht (keepsLots_withLength keepsLots_readCane)
  | markCanes r => exact dir ht (keepsLots_withLength keepsLots_markCanes)
  | clearLine r => exact dir ht (keepsLots_withLength keepsLots_clearLine)
  | lotOpen r => exact dir ht (keepsLots_withLength (keepsLots_withSlot fun _ i _ => lotLaws_openLot _ i))
  | lotStage r => exact dir ht (keepsLots_withLength (keepsLots_withSlot fun _ i _ => lotLaws_appendStage _ i))
  | lotSeal r => exact dir ht (keepsLots_withLength (keepsLots_withSlot fun _ i _ => lotLaws_sealLot i))
  | lotDiscard r => exact dir ht (keepsLots_withLength (keepsLots_withSlot fun _ i _ => lotLaws_discardLot i))
  | lotArm r => exact dir ht (keepsLots_withLength keepsLots_armLot)
  | modePrime r => exact dir ht (keepsLots_modeFrom fun _ => lotLaws_enterPriming)
  | modeRun r => exact dir ht (keepsLots_modeFrom fun _ => lotLaws_enterRunning)
  | modeHold r => exact dir ht (keepsLots_modeFrom fun _ => lotLaws_enterMode _ _)
  | modeResume r => exact dir ht (keepsLots_modeFrom fun _ => lotLaws_enterPriming)
  | modeDrain r => exact dir ht (keepsLots_modeFrom fun _ => lotLaws_enterDraining)
  | modeStop r => exact dir ht (keepsLots_modeFrom fun _ => lotLaws_enterStopped)
  | modeSafe r => exact dir ht (keepsLots_modeFrom fun _ => lotLaws_enterSafe)
  | modeLeaveSafe r => exact dir ht (keepsLots_modeFrom fun _ => lotLaws_leaveSafe)
  | ackFault r => exact dir ht (keepsLots_withLength keepsLots_ackFault)
  | readStatus r => exact dir ht (keepsLots_withLength keepsLots_readStatus)
  | readTotals r => exact dir ht (keepsLots_withLength fun _ _ hu => hu)
  | clearTotals r => exact dir ht (keepsLots_withLength fun _ _ hu => hu)
  | unknownDirective sender payload =>
    refine of_next ht ?_
    split
    · exact h
    · exact lotLaws_runDirective (fun _ _ hu => hu) h
  | lineClockTick => exact same ht rfl
  | startMark received =>
    refine same ht ?_
    split
    · rfl
    · exact cutOffReception_lotView received s
  | dominantRun bits => exact same ht (by split <;> rfl)
  | trunkResetReleased => exact same ht (by split <;> rfl)
  | modeUnknownArgument r =>
    refine of_next ht ?_
    split
    · exact h
    · exact lotLaws_runDirective keepsLots_refuseMode h

/-- Settles O55: an idle step leaves the state, and every row keeps the two laws. -/
theorem referenceAndPointerLawsAreKept : Obligations.ReferenceAndPointerLawsAreKept := by
  intro s t hfs href hptr ht
  unfold step at ht
  have h : LotLaws s := ⟨href, hptr⟩
  split at ht
  case h_1 => exact of_next ht h
  case h_2 c rest _ => exact lotLaws_exec (s := { s with pending := rest }) hfs (lotLaws_congr (s := s) rfl h) ht

/-! ## The laws at reset -/

/-- A measurement slot at power-on is LOST with nothing running (R146). -/
theorem timed_initial : Slot.initial.timed := ⟨fun _ => ⟨rfl, rfl, rfl⟩, nofun, nofun⟩

/-- Settles O2: at reset the queues, the three places and the fault list are empty, every timer stands and every slot,
zone and lot is at its power-on value. -/
theorem resetKeepsTheLaws : Obligations.ResetKeepsTheLaws := by
  have faults : FaultListLaw State.reset := ⟨List.nodup_nil, nofun, fun h => absurd h (by decide)⟩
  have queues : QueueLaw State.reset :=
    ⟨fun q _ hf => by cases q <;> exact absurd hf List.not_mem_nil, fun q => by cases q <;> decide, List.nodup_nil⟩
  have zones : ZoneMapLaw State.reset :=
    ⟨rfl, Nat.zero_le _, fun z hz => by rw [List.eq_of_mem_replicate hz]; decide, rfl, rfl⟩
  have canes : CaneLaw State.reset := ⟨by decide, nofun, trivial, nofun, fun _ => rfl, nofun⟩
  obtain ⟨references, pointers⟩ : LotLaws State.reset := lotLaws_powerOn _
  have moistures : MoistureLaw State.reset :=
    ⟨nofun, fun m hm => by rw [List.eq_of_mem_replicate hm]; decide,
      fun l hl => by rw [List.eq_of_mem_replicate hl]; decide⟩
  have climate : ClimateLaw State.reset :=
    ⟨rfl, fun z hz => by rw [List.eq_of_mem_replicate hz]; decide, nofun,
      fun k _ => by rw [zoneState_of_climate_initial rfl]; rfl⟩
  have slots : SlotLaw State.reset := ⟨rfl, fun x hx => by rw [List.eq_of_mem_replicate hx]; exact timed_initial⟩
  have order : SequenceOrderLaw State.reset := fun _ _ => List.pairwise_singleton _ _
  exact ⟨faults, ⟨by decide, by decide⟩, queues, ⟨nofun, nofun⟩, zones, canes, references, pointers,
    ⟨by decide, fun _ => rfl, nofun⟩, moistures, climate, slots, ⟨fun h => absurd rfl h, nofun⟩,
    fun h => absurd rfl h, ⟨by decide, by decide, by decide, by decide⟩, fun _ hf => absurd hf List.not_mem_nil, order⟩

end Sys2Proof.Machine
end

section
/-!
SUPPORT. The bytes of a directive: the fields of a run of bytes written one behind the other (R176), and the entries
of section 11.5 read back from their bytes.
-/

namespace Sys2Proof.Machine

/-! ## Fields of bytes written one behind the other (R176) -/

/-- A field behind `pre` is a field of what follows. -/
theorem field_append_skip {pre : List Byte} (post : List Byte) {off : Nat} (size : Nat) (h : pre.length ≤ off) :
    field (pre ++ post) off size = field post (off - pre.length) size := by
  simp [field, List.drop_append, List.drop_eq_nil_of_le h]

/-- A field behind a number is a field of what follows. -/
theorem field_be_skip {k n off size : Nat} {post : List Byte} (h : k ≤ off) :
    field (be k n ++ post) off size = field post (off - k) size := by
  rw [field_append_skip post size (by rwa [be_length]), be_length]

/-- A number at the front reads back. -/
theorem field_be_head {k n : Nat} {post : List Byte} (h : n < 256 ^ k) : field (be k n ++ post) 0 k = n :=
  field_be [] post h

/-- A number alone reads back. -/
theorem field_be_self {k n : Nat} (h : n < 256 ^ k) : field (be k n) 0 k = n := by
  simpa using field_be_head (post := []) h

/-- A field behind a byte is a field of what follows. -/
theorem field_cons_skip {b : Byte} {bs : List Byte} {off size : Nat} (h : 1 ≤ off) :
    field (b :: bs) off size = field bs (off - 1) size :=
  field_append_skip (pre := [b]) bs size h

/-- A byte at the front is the number it spells. -/
@[simp] theorem field_cons_head (b : Byte) (bs : List Byte) : field (b :: bs) 0 1 = b.toNat := by
  simp [field, beNat]

/-- A signed number of 16 bits reads back from its two's complement. -/
theorem signed16Of_emod {i : Int} (h1 : -32768 ≤ i) (h2 : i ≤ 32767) : signed16Of (i % 65536).toNat = i := by
  unfold signed16Of
  split <;> omega

/-- A signed number in two bytes, as an unsigned one. -/
theorem beInt_two (i : Int) : beInt 2 i = be 2 (i % 65536).toNat := rfl

/-! ## Codes -/

@[simp] theorem policyOfCode_policyCode (p : ExcursionPolicy) : policyOfCode (policyCode p).toNat = some p := by
  cases p <;> rfl

@[simp] theorem formOfCode_formCode (f : OutputForm) : formOfCode (formCode f).toNat = some f := by
  cases f <;> rfl

/-- No policy has a code above 1 (R181). -/
theorem policyOfCode_of_one_lt {n : Nat} (h : 1 < n) : policyOfCode n = none := by
  obtain ⟨m, rfl⟩ := Nat.exists_eq_add_of_le' (Nat.succ_le_of_lt h)
  rfl

/-- No output form has a code above 2 (R182). -/
theorem formOfCode_of_two_lt {n : Nat} (h : 2 < n) : formOfCode n = none := by
  obtain ⟨m, rfl⟩ := Nat.exists_eq_add_of_le' (Nat.succ_le_of_lt h)
  rfl

/-! ## Entries read back from their bytes (section 11.5) -/

@[simp] theorem headerBytes_length (h : LotHeader) : (headerBytes h).length = 18 := by simp [headerBytes]

/-- A header reads back, whatever its ranges say (R6). -/
theorem parseHeader_headerBytes {h : LotHeader} (hf : h.fits) : parseHeader (headerBytes h) = some h := by
  obtain ⟨h1, h2, h3, h4, h5, h6, h7, h8⟩ := hf
  simp (disch := omega) only [parseHeader, headerBytes, List.append_assoc, field_be_skip, field_be_head,
    Nat.reduceSub, field_cons_head, policyOfCode_policyCode]

@[simp] theorem stageBytes_length (g : Stage) : (stageBytes g).length = 12 := by simp [stageBytes]

/-- A stage record reads back (R7). -/
theorem parseStage_stageBytes {g : Stage} (hf : g.fits) : parseStage (stageBytes g) = g := by
  obtain ⟨h1, h2, h3, h4, h5, h6, h7, h8, h9⟩ := hf
  simp (disch := omega) only [parseStage, stageBytes, fieldInt, beInt_two, List.append_assoc, field_be_skip,
    field_be_head, field_be_self, Nat.reduceSub, signed16Of_emod]

@[simp] theorem zoneBytes_length (z : ZoneEntry) : (zoneBytes z).length = 29 := by simp [zoneBytes]

/-- A zone entry reads back when it is in its ranges, and is refused otherwise (R52, R96). -/
theorem parseZone_zoneBytes {z : ZoneEntry} (hc : z.carried) :
    parseZone (zoneBytes z) = if z.inRange then some z else none := by
  obtain ⟨hn, ht, h1, h2⟩ := hc
  simp only [List.forall_mem_cons, List.not_mem_nil, false_imp_iff, implies_true, and_true] at hn ht
  obtain ⟨n1, n2, n3, n4, n5, n6, n7, n8, n9⟩ := hn
  obtain ⟨⟨t1, t1'⟩, ⟨t2, t2'⟩, ⟨t3, t3'⟩, t4, t4'⟩ := ht
  simp (disch := omega) only [parseZone, zoneBytes, fieldInt, beInt_two, List.append_assoc, List.cons_append,
    List.nil_append, field_be_skip, field_be_head, field_be_self, field_cons_skip, field_cons_head, Nat.reduceSub,
    signed16Of_emod, formOfCode_formCode]

/-- The parameters at the front of a PACER entry read back when they are in their ranges, and are refused otherwise;
the bytes behind them are ignored (R23, R182). -/
theorem parsePacer_params {p : PacerParams} (ignored : List Byte) (h1 : p.knifeLead ≤ 65535)
    (h2 : p.purgeLength ≤ 65535) (h3 : p.overlengthMargin ≤ 65535) (h4 : p.knifeTimeout ≤ 65535)
    (h5 : p.vMin ≤ 65535) (h6 : p.vMax ≤ 65535) (h7 : p.settleTime ≤ 65535) :
    parsePacer (be 2 p.knifeLead ++ be 2 p.purgeLength ++ be 2 p.overlengthMargin ++ be 2 p.knifeTimeout ++
      be 2 p.vMin ++ be 2 p.vMax ++ be 2 p.settleTime ++ ignored) = if p.inRange then some p else none := by
  simp (disch := omega) only [parsePacer, List.append_assoc, field_be_skip, field_be_head, Nat.reduceSub]

@[simp] theorem lineBytes_length (p : LineParams) (node : Nat) : (lineBytes p node).length = 35 := by
  simp [lineBytes, limitsBytes]

/-- A LINE entry reads back when it is in its ranges, and is refused otherwise (R174). -/
theorem parseLine_lineBytes {p : LineParams} {node : Nat} (own : Nat) (hf : p.fits) (hn : node ≤ 255) :
    parseLine own (lineBytes p node) =
      if p.inRange ∧ node ≤ 62 ∧ node ≠ own then some (p, node) else none := by
  obtain ⟨hl, h1, h2, h3, h4, h5⟩ := hf
  simp only [List.forall_mem_cons, List.not_mem_nil, false_imp_iff, implies_true, and_true] at hl
  obtain ⟨⟨a1, a2⟩, ⟨b1, b2⟩, ⟨c1, c2⟩, d1, d2⟩ := hl
  simp (disch := omega) only [parseLine, parseLimits, lineBytes, limitsBytes, List.append_assoc, field_be_skip,
    field_be_head, field_be_self, Nat.reduceSub, Nat.reduceAdd]

/-! ## The entries of a write (R169, R173) -/

/-- Entries of one size written one behind the other are taken apart again. -/
theorem entriesOf_flatten {size : Nat} {xs : List (List Byte)} (h : ∀ x ∈ xs, x.length = size) :
    entriesOf xs.flatten size xs.length = xs := by
  induction xs with
  | nil => rfl
  | cons x xs ih =>
    obtain ⟨hx, hxs⟩ := List.forall_mem_cons.1 h
    have first : entryAt (x ++ xs.flatten) size 0 = x := by simp [entryAt, ← hx]
    have later (k : Nat) : entryAt (x ++ xs.flatten) size (k + 1) = entryAt xs.flatten size k := by
      rw [entryAt, entryAt, ← hx, Nat.succ_mul, Nat.add_comm, List.drop_length_add_append]
    simp only [entriesOf, List.flatten_cons, List.length_cons, List.range_succ_eq_map, List.map_cons, List.map_map,
      first, Function.comp_def, later]
    rw [← entriesOf, ih hxs]

/-- A write whose length is right reaches its range test with its first index and its entries (R169). -/
theorem withEntries_flatten {t : TableId} (act : Nat → List (List Byte) → State → Answer) (id first : Byte)
    {xs : List (List Byte)} (u : State) (hx : ∀ x ∈ xs, x.length = entrySize t) (hn : xs.length ≤ 255) :
    withEntries t act (id :: first :: BitVec.ofNat 8 xs.length :: xs.flatten) u = act first.toNat xs u := by
  have hcount : (BitVec.ofNat 8 xs.length).toNat = xs.length := by rw [BitVec.toNat_ofNat]; omega
  have hlen : xs.flatten.length = xs.length * entrySize t := by
    rw [List.length_flatten, List.map_congr_left hx, List.map_const', List.sum_replicate, smul_eq_mul]
  have hfirst : field (id :: first :: BitVec.ofNat 8 xs.length :: xs.flatten) 1 1 = first.toNat := by
    simp [field_cons_skip]
  have hfield : field (id :: first :: BitVec.ofNat 8 xs.length :: xs.flatten) 2 1 = xs.length := by
    simp [field_cons_skip, hcount]
  rw [withEntries, hfield, if_pos (by simp [hlen]; omega), hfirst, entriesIn, hfield]
  exact congrArg (act first.toNat · u) (entriesOf_flatten hx)

/-! ## Ranges -/

/-- The ranges of R52 and R96 in the words of the statements. -/
theorem zone_inRange_iff (z : ZoneEntry) : z.inRange = true ↔ z.ranged := by
  simp only [ZoneEntry.inRange, ZoneEntry.ranged, Bool.and_eq_true, Bool.or_eq_true, decide_eq_true_eq]
  omega

/-- The ranges of R174 in the words of the statements. -/
theorem line_inRange_iff (p : LineParams) : p.inRange = true ↔ p.ranged := by
  simp only [LineParams.inRange, FreshLimits.inRange, LineParams.ranged, Bool.and_eq_true, decide_eq_true_eq,
    List.forall_mem_cons, List.not_mem_nil, false_imp_iff, implies_true, and_true]
  omega

/-- The exit moistures are strictly decreasing when each lies below the one before it (R8). -/
theorem strictlyDecreasing_iff (gs : List Stage) :
    strictlyDecreasing gs = true ↔
      ∀ k x y, gs[k]? = some x → gs[k + 1]? = some y → y.exitMoisture < x.exitMoisture := by
  induction gs with
  | nil => simp [strictlyDecreasing]
  | cons a gs ih =>
    cases gs with
    | nil => simp [strictlyDecreasing]
    | cons b gs =>
      rw [strictlyDecreasing, Bool.and_eq_true, decide_eq_true_eq, ih]
      constructor
      · rintro ⟨hab, hrest⟩ k x y hx hy
        cases k with
        | zero =>
          obtain rfl : a = x := by simpa using hx
          obtain rfl : b = y := by simpa using hy
          exact hab
        | succ k => exact hrest k x y hx hy
      · exact fun h => ⟨h 0 a b rfl rfl, fun k x y hx hy => h (k + 1) x y hx hy⟩

end Sys2Proof.Machine
end

section
/-!
SUPPORT. The lot directives (R5 to R10) and the parameter tables (R18, R23, R52, R96, R174): how a row that has started
is answered, what each check answers, and the obligations about them.
-/

namespace Sys2Proof.Machine

/-! ## A row that has started (R168, R170) -/

/-- A started directive whose effect leaves the trunk port is answered with it. -/
theorem runDirective_done {s : State} {d : Directive} {act : List Byte → State → Answer} {body : List Byte}
    {effect : State → State} (hs : Starts s d)
    (ha : act d.args (popDirective s) = doneWith body (effect (popDirective s)))
    (hp : (effect (popDirective s)).port = s.port) :
    runDirective d false act s = answered s d .done body effect :=
  runDirective_answered (startable_of_starts hs) ha (by rw [hp]; exact hs.2.2) (by rw [hp]; exact hs.2.1)

/-- A started directive that its checks refuse is answered so. -/
theorem runDirective_refuse {s : State} {d : Directive} {act : List Byte → State → Answer} {o : OutcomeCode}
    (hs : Starts s d) (ha : act d.args (popDirective s) = refuse o (popDirective s)) :
    runDirective d false act s = answered s d o [] id :=
  runDirective_refused (startable_of_starts hs) hs ha

/-- A directive of the right length passes the length check (R169). -/
theorem withLength_of_length {n : Nat} {act : List Byte → State → Answer} {args : List Byte} (s : State)
    (h : args.length = n) : withLength n act args s = act args s := if_pos h

/-- A slot number of the table passes the check of R5. -/
theorem withSlot_of_le {act : Nat → State → Answer} {b : Byte} (bs : List Byte) (s : State) (h : b.toNat ≤ 15) :
    withSlot act (b :: bs) s = act b.toNat s := by simp [withSlot, h]

/-- A slot number above 15 is refused first (R5). -/
theorem withSlot_of_lt {act : Nat → State → Answer} {b : Byte} (bs : List Byte) (s : State) (h : 15 < b.toNat) :
    withSlot act (b :: bs) s = refuse .badIndex s := by simp [withSlot, Nat.not_le.2 h]

/-! ## The content checks of the lot directives -/

/-- The checks of LOT_OPEN on a header's content (R6). -/
theorem headerAccepted_iff (h : LotHeader) :
    headerAccepted h = true ↔ h.changeoverClass ≤ 3 ∧ h.initialMoisture ≤ 9999 ∧ h.acceptMax ≤ 9999 := by
  simp [headerAccepted, and_assoc]

/-- The checks of LOT_STAGE on a stage record that 12 bytes carry (R7). -/
theorem stageAccepted_iff {g : Stage} (hg : g.fits) :
    stageAccepted g = true ↔ g.humidity ≤ 1000 ∧ g.exitMoisture ≤ 9999 ∧ 1 ≤ g.maxDwell := by
  obtain ⟨-, -, -, -, -, -, -, -, hdwell⟩ := hg
  simp [stageAccepted, and_assoc, hdwell]

/-- The validation of LOT_SEAL (R8). -/
theorem sealable_iff (l : LotSlot) :
    sealable l = true ↔ l.stages ≠ [] ∧
      (∀ k x y, l.stages[k]? = some x → l.stages[k + 1]? = some y → y.exitMoisture < x.exitMoisture) ∧
      (∀ x, l.stages[0]? = some x → x.exitMoisture < l.header.initialMoisture) ∧
      (∀ x ∈ l.stages, x.tLow ≤ x.tHigh) ∧
      300 ≤ l.header.hangTarget ∧ l.header.hangTarget ≤ 3000 ∧ 0 < l.header.pieceLength := by
  rw [sealable, ← strictlyDecreasing_iff]
  cases l.stages with
  | nil => simp
  | cons g gs =>
    simp only [Bool.and_eq_true, decide_eq_true_eq, List.all_eq_true, List.getElem?_cons_zero, Option.some.injEq,
      forall_eq', ne_eq, List.cons_ne_nil, not_false_eq_true, true_and]
    tauto

/-! ## What the lot directives answer (R6 to R10) -/

section Answers

variable {s : State} {i : Nat}

theorem openLot_of_not_free (header : Option LotHeader) (h : (s.lotSlot i).life ≠ .free) :
    openLot header i s = refuse .wrongState s := if_pos h

theorem openLot_of_no_header (h : (s.lotSlot i).life = .free) : openLot none i s = refuse .badValue s := by
  simp [openLot, h]

theorem openLot_of_free {header : LotHeader} (h : (s.lotSlot i).life = .free) :
    openLot (some header) i s = if headerAccepted header then
      doneWith [] (s.setLot i { life := .loading, header := header, stages := [], refCount := 0 })
      else refuse .badValue s := by
  simp [openLot, h]

theorem appendStage_of_not_loading (g : Stage) (h : (s.lotSlot i).life ≠ .loading) :
    appendStage g i s = refuse .wrongState s := if_pos h

theorem appendStage_of_full (g : Stage) (h : (s.lotSlot i).life = .loading)
    (hn : 12 ≤ (s.lotSlot i).stages.length) : appendStage g i s = refuse .badIndex s := by
  simp [appendStage, h, hn]

theorem appendStage_of_room (g : Stage) (h : (s.lotSlot i).life = .loading)
    (hn : (s.lotSlot i).stages.length < 12) :
    appendStage g i s = if stageAccepted g then
      doneWith (be 1 (s.lotSlot i).stages.length)
        (s.setLot i { s.lotSlot i with stages := (s.lotSlot i).stages ++ [g] })
      else refuse .badValue s := by
  rw [appendStage, if_neg (not_not.2 h), if_neg (Nat.not_le.2 hn)]
  cases stageAccepted g <;> rfl

theorem sealLot_of_not_loading (h : (s.lotSlot i).life ≠ .loading) : sealLot i s = refuse .wrongState s := if_pos h

theorem sealLot_of_loading (h : (s.lotSlot i).life = .loading) :
    sealLot i s = if sealable (s.lotSlot i) then doneWith [] (s.setLot i { s.lotSlot i with life := .ready })
      else refuse .badValue s := if_neg (not_not.2 h)

end Answers

/-! ## The lot obligations -/

/-- LOT_OPEN as a directive: its length is right, then R5 and R6 decide. -/
theorem exec_lotOpen {r : Request} {b : Byte} {bytes : List Byte} (s : State) (hr : r.args = b :: bytes)
    (hlen : bytes.length = 18) :
    exec (.lotOpen r) s = .next (runDirective (directiveOf 0x08 [] r) false
      (fun _ => withSlot (openLot (parseHeader bytes)) (b :: bytes)) s) := by
  have hargs : (directiveOf 0x08 [] r).args = b :: bytes := hr
  change Host.Outcome.next (runDirective _ false _ s) = _
  simp only [runDirective, hargs, withLength_of_length _ (show (b :: bytes).length = 19 by simp [hlen]), List.drop_one,
    List.tail_cons]

/-- LOT_STAGE as a directive: its length is right, then R5 and R7 decide. -/
theorem exec_lotStage {r : Request} {b : Byte} {bytes : List Byte} (s : State) (hr : r.args = b :: bytes)
    (hlen : bytes.length = 12) :
    exec (.lotStage r) s = .next (runDirective (directiveOf 0x09 [] r) false
      (fun _ => withSlot (appendStage (parseStage bytes)) (b :: bytes)) s) := by
  have hargs : (directiveOf 0x09 [] r).args = b :: bytes := hr
  change Host.Outcome.next (runDirective _ false _ s) = _
  simp only [runDirective, hargs, withLength_of_length _ (show (b :: bytes).length = 13 by simp [hlen]), List.drop_one,
    List.tail_cons]

/-- A directive whose only argument is a slot number: its length is right. -/
theorem runDirective_oneByte {d : Directive} {b : Byte} (act : List Byte → State → Answer) (s : State)
    (hd : d.args = [b]) :
    runDirective d false (withLength 1 act) s = runDirective d false (fun _ => act [b]) s := by
  simp only [runDirective, hd, withLength_of_length _ (show [b].length = 1 from rfl)]

/-- LOT_OPEN with a header (R5, R6). -/
theorem lotOpen_header {s : State} {r : Request} {b : Byte} {h : LotHeader} (hr : r.args = b :: headerBytes h)
    (hf : h.fits) (hs : Starts s (directiveOf 0x08 [] r)) :
    let reply (o : OutcomeCode) (effect : State → State) := exec (.lotOpen r) s =
      .next (answered s (directiveOf 0x08 [] r) o [] effect)
    let accepted := h.changeoverClass ≤ 3 ∧ h.initialMoisture ≤ 9999 ∧ h.acceptMax ≤ 9999
    (15 < b.toNat → reply .badIndex id) ∧
    (b.toNat ≤ 15 → (s.lotSlot b.toNat).life ≠ .free → reply .wrongState id) ∧
    (b.toNat ≤ 15 → (s.lotSlot b.toNat).life = .free → ¬ accepted → reply .badValue id) ∧
    (b.toNat ≤ 15 → (s.lotSlot b.toNat).life = .free → accepted → reply .done
      (fun u => u.setLot b.toNat { life := .loading, header := h, stages := [], refCount := 0 })) := by
  intro reply accepted
  have hexec := exec_lotOpen s hr (headerBytes_length h)
  rw [parseHeader_headerBytes hf] at hexec
  refine ⟨fun hi => ?_, fun hi hl => ?_, fun hi hl ha => ?_, fun hi hl ha => ?_⟩ <;>
    refine hexec.trans (congrArg _ ?_)
  · exact runDirective_refuse hs (withSlot_of_lt _ _ hi)
  · refine runDirective_refuse hs ?_
    rw [withSlot_of_le _ _ hi]
    exact openLot_of_not_free _ hl
  · refine runDirective_refuse hs ?_
    rw [withSlot_of_le _ _ hi, openLot_of_free (by exact hl), if_neg (by rwa [headerAccepted_iff])]
  · refine runDirective_done hs ?_ rfl
    rw [withSlot_of_le _ _ hi, openLot_of_free (by exact hl), if_pos (by rwa [headerAccepted_iff])]

/-- LOT_STAGE (R5, R7). -/
theorem lotStage_record {s : State} {r : Request} {b : Byte} {g : Stage} (hr : r.args = b :: stageBytes g)
    (hg : g.fits) (hs : Starts s (directiveOf 0x09 [] r)) :
    let slot := s.lotSlot b.toNat
    let reply (o : OutcomeCode) (body : List Byte) (effect : State → State) := exec (.lotStage r) s =
      .next (answered s (directiveOf 0x09 [] r) o body effect)
    let accepted := g.humidity ≤ 1000 ∧ g.exitMoisture ≤ 9999 ∧ 1 ≤ g.maxDwell
    (15 < b.toNat → reply .badIndex [] id) ∧
    (b.toNat ≤ 15 → slot.life ≠ .loading → reply .wrongState [] id) ∧
    (b.toNat ≤ 15 → slot.life = .loading → 12 ≤ slot.stages.length → reply .badIndex [] id) ∧
    (b.toNat ≤ 15 → slot.life = .loading → slot.stages.length < 12 → ¬ accepted → reply .badValue [] id) ∧
    (b.toNat ≤ 15 → slot.life = .loading → slot.stages.length < 12 → accepted →
      reply .done [BitVec.ofNat 8 slot.stages.length]
        (fun u => u.setLot b.toNat { slot with stages := slot.stages ++ [g] })) := by
  intro slot reply accepted
  have hexec := exec_lotStage s hr (stageBytes_length g)
  rw [parseStage_stageBytes hg] at hexec
  refine ⟨fun hi => ?_, fun hi hl => ?_, fun hi hl hn => ?_, fun hi hl hn ha => ?_, fun hi hl hn ha => ?_⟩ <;>
    refine hexec.trans (congrArg _ ?_)
  · exact runDirective_refuse hs (withSlot_of_lt _ _ hi)
  · refine runDirective_refuse hs ?_
    rw [withSlot_of_le _ _ hi]
    exact appendStage_of_not_loading g hl
  · refine runDirective_refuse hs ?_
    rw [withSlot_of_le _ _ hi]
    exact appendStage_of_full g hl hn
  · refine runDirective_refuse hs ?_
    rw [withSlot_of_le _ _ hi, appendStage_of_room g (by exact hl) (by exact hn),
      if_neg (by rwa [stageAccepted_iff hg])]
  · refine runDirective_done hs ?_ rfl
    rw [withSlot_of_le _ _ hi, appendStage_of_room g (by exact hl) (by exact hn),
      if_pos (by rwa [stageAccepted_iff hg])]
    rfl

/-- Settles O41: the checks of each directive in their order, on the header and the stage read back from their
bytes. -/
theorem lotsAreOpenedStagedAndSealed : Obligations.LotsAreOpenedStagedAndSealed := by
  intro s r b i slot put
  refine ⟨fun h hr hf hs => lotOpen_header hr hf hs, fun bytes policy hr hlen hp hs hi hl => ?_,
    fun g hr hg hs => lotStage_record hr hg hs, ?_⟩
  · have hnone : parseHeader (bytes ++ [policy]) = none := by
      rw [parseHeader, field_append_skip [policy] 1 (Nat.le_of_eq hlen), hlen, field_cons_head,
        policyOfCode_of_one_lt hp]
    refine (exec_lotOpen s hr (by simp [hlen])).trans (congrArg _ (runDirective_refuse hs ?_))
    rw [withSlot_of_le _ _ hi, hnone]
    exact openLot_of_no_header hl
  · intro hr hs reply valid
    have hexec : exec (.lotSeal r) s = .next (runDirective (directiveOf 0x0A [] r) false
        (fun _ => withSlot sealLot [b]) s) :=
      congrArg _ (runDirective_oneByte (d := directiveOf 0x0A [] r) _ s hr)
    refine ⟨fun hi => ?_, fun hi hl => ?_, fun hi hl hv => ?_, fun hi hl hv => ?_⟩ <;>
      refine hexec.trans (congrArg _ ?_)
    · exact runDirective_refuse hs (withSlot_of_lt _ _ hi)
    · refine runDirective_refuse hs ?_
      rw [withSlot_of_le _ _ hi]
      exact sealLot_of_not_loading hl
    · refine runDirective_refuse hs ?_
      rw [withSlot_of_le _ _ hi, sealLot_of_loading (by exact hl), if_neg]
      exact fun e => hv ((sealable_iff slot).1 e)
    · refine runDirective_done hs ?_ rfl
      rw [withSlot_of_le _ _ hi, sealLot_of_loading (by exact hl)]
      exact if_pos ((sealable_iff slot).2 hv)

/-- Settles O42: the slot number, then the lifecycle state. -/
theorem lotDiscardFreesUnarmedLots : Obligations.LotDiscardFreesUnarmedLots := by
  intro s r b hr hs slot taken
  have hexec : exec (.lotDiscard r) s = .next (runDirective (directiveOf 0x0B [] r) false
      (fun _ => withSlot discardLot [b]) s) :=
    congrArg _ (runDirective_oneByte (d := directiveOf 0x0B [] r) _ s hr)
  refine ⟨fun hi => ?_, fun hi ht => ?_, fun hi ht => ?_⟩ <;> refine hexec.trans (congrArg _ ?_)
  · exact runDirective_refuse hs (withSlot_of_lt _ _ hi)
  · refine runDirective_done hs ?_ rfl
    rw [withSlot_of_le _ _ hi]
    exact if_pos ht
  · refine runDirective_refuse hs ?_
    rw [withSlot_of_le _ _ hi]
    exact if_neg ht

/-- Settles O43: the slot byte, then the line mode, then "no slot" or the lifecycle state. -/
theorem lotArmTakesReadySlots : Obligations.LotArmTakesReadySlots := by
  intro s r b hr hs armed
  have hexec : exec (.lotArm r) s = .next (runDirective (directiveOf 0x0C [] r) false
      (fun _ => armLot b.toNat) s) := by
    refine congrArg _ ((runDirective_oneByte (d := directiveOf 0x0C [] r) _ s hr).trans ?_)
    simp only [field_cons_head]
  have hnone : b = 0xFF ↔ b.toNat = noSlot := by rw [← BitVec.toNat_inj]; rfl
  simp only [ne_eq, hnone]
  have hslot : noSlot = 255 := rfl
  refine ⟨fun hi hb => ?_, fun hm hb => ?_, fun hm hb => ?_, fun hm hi hl => ?_, fun hm hi hl => ?_⟩ <;>
    refine hexec.trans (congrArg _ ?_)
  · exact runDirective_refuse hs (if_pos ⟨hi, hb⟩)
  · refine runDirective_refuse hs ?_
    rw [armLot, if_neg (by omega), if_pos (by exact hm)]
  · refine runDirective_done hs ?_ rfl
    rw [armLot, if_neg (by omega), if_neg (by exact hm), if_pos hb]
    rfl
  · refine runDirective_done hs ?_ rfl
    rw [armLot, if_neg (by omega), if_neg (by exact hm), if_neg (by omega), if_pos (by exact hl)]
    rfl
  · refine runDirective_refuse hs ?_
    rw [armLot, if_neg (by omega), if_neg (by exact hm), if_neg (by omega), if_neg (by exact hl)]

/-! ## The parameter tables -/

/-- A range of entries within a table of many passes the check of R173. -/
theorem withRange_of_rangeOk {t : TableId} {act : Nat → List (List Byte) → State → Answer} {first : Nat}
    {es : List (List Byte)} (u : State) (h : rangeOk t first es.length = true) :
    withRange t act first es u = act first es u := if_pos h

/-- A range outside its table is refused (R173). -/
theorem withRange_of_not_rangeOk {t : TableId} {act : Nat → List (List Byte) → State → Answer} {first : Nat}
    {es : List (List Byte)} (u : State) (h : rangeOk t first es.length = false) :
    withRange t act first es u = refuse .badIndex u := by simp [withRange, h]

/-- A write of one entry of its table's size reaches its range test. -/
theorem withEntries_one {t : TableId} (act : Nat → List (List Byte) → State → Answer) (id first : Byte)
    {x : List Byte} (u : State) (hx : x.length = entrySize t) :
    withEntries t act (id :: first :: 1 :: x) u = act first.toNat [x] u := by
  simpa using withEntries_flatten act id first u (xs := [x]) (by simpa using hx) (by simp)

/-- WRITE_TABLE GAP (R18, R173). -/
theorem writeTableGap_entries {s : State} {r : Request} {first : Byte} {new : List Nat}
    (hr : r.args = first :: be 1 new.length ++ (new.map (be 1)).flatten) (hm : ∀ m ∈ new, m ≤ 255)
    (hn : new.length ≤ 255) (hs : Starts s (directiveOf 0x02 [8] r)) :
    (1 ≤ new.length → first.toNat + new.length ≤ 16 →
      exec (.writeTableGap r) s = .next (answered s (directiveOf 0x02 [8] r) .done [] (fun u => { u with
        lots := { u.lots with
          gap := u.lots.gap.take first.toNat ++ new ++ u.lots.gap.drop (first.toNat + new.length) } }))) ∧
    (new.length = 0 ∨ 16 < first.toNat + new.length →
      exec (.writeTableGap r) s = .next (answered s (directiveOf 0x02 [8] r) .badIndex [] id)) := by
  have hargs : (directiveOf 0x02 [8] r).args =
      8 :: first :: BitVec.ofNat 8 (new.map (be 1)).length :: (new.map (be 1)).flatten := by
    rw [List.length_map]
    exact congrArg (8 :: ·) hr
  have hact : withEntries .gap (withRange .gap writeGap) (directiveOf 0x02 [8] r).args (popDirective s) =
      withRange .gap writeGap first.toNat (new.map (be 1)) (popDirective s) := by
    rw [hargs]
    exact withEntries_flatten _ 8 first _ (by simp [entrySize]) (by simpa using hn)
  have hback : (new.map (be 1)).map (fun e => field e 0 1) = new := by
    rw [List.map_map]
    exact (List.map_congr_left fun m h => field_be_self (by have := hm m h; omega)).trans (List.map_id _)
  constructor
  · intro h1 h2
    refine congrArg _ (runDirective_done hs ?_ rfl)
    rw [hact, withRange_of_rangeOk _ (by simp [rangeOk, singleTable, tableLength]; omega), writeGap, hback]
    rfl
  · intro h
    refine congrArg _ (runDirective_refuse hs ?_)
    rw [hact, withRange_of_not_rangeOk _ (by simp [rangeOk, singleTable, tableLength]; omega)]

/-- WRITE_TABLE PACER (R23, R173, R182). -/
theorem writeTablePacer_entry {s : State} {r : Request} {p : PacerParams} {ignored : List Byte}
    (hi : ignored.length = 4)
    (hr : r.args = [0, 1] ++ be 2 p.knifeLead ++ be 2 p.purgeLength ++ be 2 p.overlengthMargin ++
      be 2 p.knifeTimeout ++ be 2 p.vMin ++ be 2 p.vMax ++ be 2 p.settleTime ++ ignored)
    (h1 : p.knifeLead ≤ 65535) (h2 : p.purgeLength ≤ 65535) (h3 : p.overlengthMargin ≤ 65535)
    (h4 : p.knifeTimeout ≤ 65535) (h5 : p.vMin ≤ 65535) (h6 : p.vMax ≤ 65535) (h7 : p.settleTime ≤ 65535)
    (hs : Starts s (directiveOf 0x02 [9] r)) :
    (p.inRange = true → exec (.writeTablePacer r) s = .next (answered s (directiveOf 0x02 [9] r) .done [] (fun u =>
      { u with pacer := { u.pacer with params := p } }))) ∧
    (p.inRange = false → exec (.writeTablePacer r) s =
      .next (answered s (directiveOf 0x02 [9] r) .badValue [] id)) := by
  have hact : withEntries .pacer (withRange .pacer (fun _ es t => writePacer (soleEntry es) t))
      (directiveOf 0x02 [9] r).args (popDirective s) =
      writePacer (be 2 p.knifeLead ++ be 2 p.purgeLength ++ be 2 p.overlengthMargin ++ be 2 p.knifeTimeout ++
        be 2 p.vMin ++ be 2 p.vMax ++ be 2 p.settleTime ++ ignored) (popDirective s) := by
    change withEntries _ _ (9 :: r.args) _ = _
    simp only [hr, List.append_assoc, List.cons_append, List.nil_append]
    rw [withEntries_one _ 9 0 _ (by simp [entrySize, hi])]
    exact withRange_of_rangeOk _ rfl
  unfold writePacer at hact
  rw [parsePacer_params ignored h1 h2 h3 h4 h5 h6 h7] at hact
  constructor <;> intro hp <;> rw [hp] at hact
  · exact congrArg _ (runDirective_done hs hact rfl)
  · exact congrArg _ (runDirective_refuse hs hact)

/-- WRITE_TABLE LINE (R173, R174). -/
theorem writeTableLine_entry {s : State} {r : Request} {p : LineParams} {node : Nat}
    (hr : r.args = [0, 1] ++ lineBytes p node) (hf : p.fits) (hn : node ≤ 255)
    (hs : Starts s (directiveOf 0x02 [10] r)) :
    (p.inRange = true ∧ node ≤ 62 ∧ node ≠ s.port.node →
      exec (.writeTableLine r) s = .next (answered s (directiveOf 0x02 [10] r) .done [] (fun u => { u with
        line := p, agent := { u.agent with supervisor := node } }))) ∧
    (¬ (p.inRange = true ∧ node ≤ 62 ∧ node ≠ s.port.node) →
      exec (.writeTableLine r) s = .next (answered s (directiveOf 0x02 [10] r) .badValue [] id)) := by
  have hact : withEntries .line (withRange .line (fun _ es t => writeLine (soleEntry es) t))
      (directiveOf 0x02 [10] r).args (popDirective s) = writeLine (lineBytes p node) (popDirective s) := by
    change withEntries _ _ (10 :: r.args) _ = _
    rw [hr]
    exact (withEntries_one _ 10 0 _ (lineBytes_length p node)).trans (withRange_of_rangeOk _ rfl)
  have hport : (popDirective s).port = s.port := rfl
  unfold writeLine at hact
  rw [hport, parseLine_lineBytes _ hf hn] at hact
  constructor <;> intro hp
  · rw [if_pos hp] at hact
    exact congrArg _ (runDirective_done hs hact rfl)
  · rw [if_neg hp] at hact
    exact congrArg _ (runDirective_refuse hs hact)

/-- WRITE_TABLE ZONE of one entry, in the order of its checks (R52, R96, R173, assumption 18). -/
theorem exec_writeTableZone_one {s : State} {r : Request} {first : Byte} {bytes : List Byte}
    (hr : r.args = first :: 1 :: bytes) (hlen : bytes.length = 29) :
    exec (.writeTableZone r) s = .next (runDirective (directiveOf 0x02 [3] r) false
      (fun _ => withZoneCountZero (withRange .zone writeZone) first.toNat [bytes]) s) := by
  have hargs : (directiveOf 0x02 [3] r).args = 3 :: first :: 1 :: bytes := congrArg (3 :: ·) hr
  change Host.Outcome.next (runDirective _ false _ s) = _
  simp only [runDirective, hargs, withEntries_one _ 3 first _ (show bytes.length = entrySize .zone from hlen)]

/-- One entry at an index of the table is in its range; at an index past it, out (R173). -/
theorem rangeOk_zone_one (first : Nat) : rangeOk .zone first 1 = decide (first < 12) :=
  rfl

/-- While the zone count is not 0, ZONE is refused before its range is tested (R52, assumption 18). -/
theorem withZoneCountZero_of_ne {act : Nat → List (List Byte) → State → Answer} {u : State} (first : Nat)
    (es : List (List Byte)) (h : u.canes.zoneCount ≠ 0) :
    withZoneCountZero act first es u = refuse .wrongState u := if_neg h

/-- With the zone count 0, ZONE goes on to its range (R52). -/
theorem withZoneCountZero_of_eq {act : Nat → List (List Byte) → State → Answer} {u : State} (first : Nat)
    (es : List (List Byte)) (h : u.canes.zoneCount = 0) :
    withZoneCountZero act first es u = act first es u := if_pos h

/-- A zone entry within the table that its checks do not parse is refused (R52, R96, R182). -/
theorem writeTableZone_unparsed {s : State} {r : Request} {first : Byte} {bytes : List Byte}
    (hr : r.args = first :: 1 :: bytes) (hlen : bytes.length = 29) (hs : Starts s (directiveOf 0x02 [3] r))
    (hz : s.canes.zoneCount = 0) (hf : first.toNat < 12) (hb : parseZone bytes = none) :
    exec (.writeTableZone r) s = .next (answered s (directiveOf 0x02 [3] r) .badValue [] id) := by
  rw [exec_writeTableZone_one hr hlen]
  refine congrArg _ (runDirective_refuse hs ?_)
  rw [withZoneCountZero_of_eq _ _ (by exact hz), withRange_of_rangeOk _ (by simpa [rangeOk_zone_one] using hf)]
  simp [writeZone, parseAll, hb]

/-- WRITE_TABLE ZONE with an entry that its bytes carry (R52, R96, R173). -/
theorem writeTableZone_entry {s : State} {r : Request} {first : Byte} {z : ZoneEntry}
    (hr : r.args = first :: 1 :: zoneBytes z) (hc : z.carried) (hs : Starts s (directiveOf 0x02 [3] r)) :
    (s.canes.zoneCount = 0 → first.toNat < 12 → ¬ z.ranged →
      exec (.writeTableZone r) s = .next (answered s (directiveOf 0x02 [3] r) .badValue [] id)) ∧
    (s.canes.zoneCount = 0 → first.toNat < 12 → z.ranged →
      exec (.writeTableZone r) s = .next (answered s (directiveOf 0x02 [3] r) .done [] (fun u => { u with
        canes := { u.canes with
          zones := u.canes.zones.take first.toNat ++ [z] ++ u.canes.zones.drop (first.toNat + 1) } }))) ∧
    (s.canes.zoneCount = 0 → 12 ≤ first.toNat →
      exec (.writeTableZone r) s = .next (answered s (directiveOf 0x02 [3] r) .badIndex [] id)) ∧
    (s.canes.zoneCount ≠ 0 →
      exec (.writeTableZone r) s = .next (answered s (directiveOf 0x02 [3] r) .wrongState [] id)) := by
  have hexec := exec_writeTableZone_one (s := s) hr (zoneBytes_length z)
  refine ⟨fun hz hf hn => ?_, fun hz hf hg => ?_, fun hz hf => ?_, fun hz => ?_⟩
  · refine writeTableZone_unparsed hr (zoneBytes_length z) hs hz hf ?_
    rw [parseZone_zoneBytes hc, if_neg (by rwa [zone_inRange_iff])]
  · refine hexec.trans (congrArg _ (runDirective_done hs ?_ rfl))
    rw [withZoneCountZero_of_eq _ _ (by exact hz), withRange_of_rangeOk _ (by simpa [rangeOk_zone_one] using hf)]
    simp only [writeZone, parseAll, parseZone_zoneBytes hc, (zone_inRange_iff z).2 hg, if_true]
    rfl
  · refine hexec.trans (congrArg _ (runDirective_refuse hs ?_))
    rw [withZoneCountZero_of_eq _ _ (by exact hz), withRange_of_not_rangeOk _ (by simpa [rangeOk_zone_one] using hf)]
  · exact hexec.trans (congrArg _ (runDirective_refuse hs (withZoneCountZero_of_ne _ _ (by exact hz))))

/-- Settles O40, table by table. -/
theorem parameterTablesAreWritten : Obligations.ParameterTablesAreWritten := by
  intro s r first
  refine ⟨fun new hr hm hn hs => writeTableGap_entries hr hm hn hs, ?_, ?_,
    fun z hr hc hs => writeTableZone_entry hr hc hs, fun hr hs hz => ?_, ?_⟩
  · intro p ignored hi hr h1 h2 h3 h4 h5 h6 h7 hs inRange
    have hrange : p.inRange = true ↔ inRange := by
      simp only [PacerParams.inRange, inRange, Bool.and_eq_true, decide_eq_true_eq]
      omega
    obtain ⟨hin, hout⟩ := writeTablePacer_entry hi hr h1 h2 h3 h4 h5 h6 h7 hs
    exact ⟨fun h => hin (hrange.2 h), fun h => hout (by rwa [← Bool.not_eq_true, hrange])⟩
  · intro p node hr hf hn hs
    obtain ⟨hin, hout⟩ := writeTableLine_entry hr hf hn hs
    rw [line_inRange_iff] at hin hout
    refine ⟨fun h1 h2 h3 => hin ⟨h1, h2, h3⟩, fun h => hout ?_⟩
    rintro ⟨h1, h2, h3⟩
    rcases h with h | h | h
    · exact h h1
    · exact Nat.not_lt.2 h2 h
    · exact h3 h
  · refine congrArg _ (runDirective_refuse hs ?_)
    change withEntries _ _ (3 :: r.args) _ = _
    rw [hr]
    refine (withEntries_flatten _ 3 first _ (xs := []) nofun (by decide)).trans ?_
    rw [withZoneCountZero_of_eq _ _ (by exact hz)]
    exact withRange_of_not_rangeOk _ rfl
  · intro before after form hr hb ha hform hs hz hf
    refine writeTableZone_unparsed (bytes := before ++ [form] ++ after) (by simpa using hr) (by simp [hb, ha]) hs
      hz hf ?_
    have hcode : field (before ++ [form] ++ after) 22 1 = form.toNat := by
      rw [List.append_assoc, field_append_skip _ 1 (Nat.le_of_eq hb), hb]
      exact field_cons_head form after
    rw [parseZone, hcode, formOfCode_of_two_lt hform]

end Sys2Proof.Machine
end

section
/-!
SUPPORT. The trunk port's queues after a frame and after a report (R160, R164, R171), and what an evaluation of the
chain controller leaves, in the words of the statements (R56, R57, R58, R63).
-/

namespace Sys2Proof.Machine

/-! ## The port after a frame (R160, R164) -/

/-- A queue whose entries are replaced reads them back. -/
@[simp] theorem Port.withEntries_entries_self (p : Port) (q : QueueId) (es : List Frame) :
    (p.withEntries q es).entries q = es := by cases q <;> rfl

/-- The other queues keep theirs. -/
theorem Port.withEntries_entries_ne (p : Port) {q r : QueueId} (es : List Frame) (h : r ≠ q) :
    (p.withEntries q es).entries r = p.entries r := by
  cases q with
  | urgent => cases r <;> trivial
  | routine => cases r <;> trivial
  | management => cases r <;> trivial

section Frame

variable (dest : Nat) (body : FrameBody) (s : State)

/-- A frame handed to the port takes the next number, queued or not (R164). -/
@[simp] theorem handFrame_frameCount : (handFrame dest body s).port.frameCount = inc32 s.port.frameCount := by
  rcases handFrame_cases dest body s with ⟨-, h⟩ | ⟨-, -, h⟩ <;> rw [h]
  · rfl
  · rw [Port.joinTail]; cases queueOf body <;> rfl

@[simp] theorem handFrame_silent : (handFrame dest body s).port.silent = s.port.silent := by
  rcases handFrame_cases dest body s with ⟨-, h⟩ | ⟨-, -, h⟩ <;> rw [h]
  · rfl
  · rw [Port.joinTail]; cases queueOf body <;> rfl

@[simp] theorem handFrame_contending (q : QueueId) :
    (handFrame dest body s).port.contending q = s.port.contending q := by
  rcases handFrame_cases dest body s with ⟨-, h⟩ | ⟨-, -, h⟩ <;> rw [h]
  · rfl
  · rw [Port.joinTail]; cases queueOf body <;> rfl

/-- A frame joins the tail of the queue of its kind while that has room in an ordinary node (R160, R165). -/
theorem handFrame_entries_self :
    (handFrame dest body s).port.entries (queueOf body) = s.port.entries (queueOf body) ++
      (if s.port.silent = false ∧ s.port.hasRoom (queueOf body) = true
       then [{ number := inc32 s.port.frameCount, dest := dest, body := body }] else []) := by
  rcases handFrame_cases dest body s with ⟨hn, h⟩ | ⟨h1, h2, h⟩ <;> rw [h]
  · rw [if_neg (by rintro ⟨h1, h2⟩; simp [h1, h2] at hn), List.append_nil]
    cases queueOf body <;> rfl
  · rw [if_pos ⟨h1, h2⟩, Port.joinTail, Port.withEntries_entries_self]
    cases queueOf body <;> rfl

/-- The urgent queue has room below a fill of 4 (R160). -/
theorem hasRoom_urgent_iff (p : Port) : p.hasRoom .urgent = true ↔ p.fill .urgent < 4 := decide_eq_true_iff

/-- The other queues keep their entries. -/
theorem handFrame_entries_ne {q : QueueId} (hq : q ≠ queueOf body) :
    (handFrame dest body s).port.entries q = s.port.entries q := by
  rcases handFrame_cases dest body s with ⟨-, h⟩ | ⟨-, -, h⟩ <;> rw [h]
  · cases q <;> rfl
  · rw [Port.joinTail, Port.withEntries_entries_ne _ _ hq]
    cases q <;> rfl

/-- The other queues keep their fill. -/
theorem handFrame_fill_ne {q : QueueId} (hq : q ≠ queueOf body) :
    (handFrame dest body s).port.fill q = s.port.fill q := by
  rw [Port.fill, Port.fill, handFrame_entries_ne dest body s hq, handFrame_contending]

end Frame

/-! ## The port and the agent after a report (R171) -/

/-- The port with one more report at the management queue's tail. -/
def Port.withReport (p : Port) (dest missed time : Nat) (r : Report) : Port :=
  { p with
    frameCount := inc32 p.frameCount,
    management := p.management ++
      [{ number := inc32 p.frameCount, dest := dest, body := .report missed time r }] }

/-- A report fills one place of the management queue. -/
theorem Port.withReport_fill (p : Port) (dest missed time : Nat) (r : Report) :
    (p.withReport dest missed time r).fill .management = p.fill .management + 1 := by
  have hc : (p.withReport dest missed time r).contending .management = p.contending .management := rfl
  simp only [Port.fill, hc]
  simp [Port.withReport, Port.entries]
  omega

/-- With a fill below 5 an ordinary node queues the report and has missed none (R171). -/
theorem queueReport_of_room {s : State} (r : Report) (hs : s.port.silent = false)
    (hf : s.port.fill .management < 5) :
    queueReport r s = { s with
      agent := { s.agent with missed := 0 },
      port := s.port.withReport s.agent.supervisor s.agent.missed s.lineTime r } := by
  have hf' : s.port.fill .management < Config.reportLimit := hf
  rcases handFrame_cases s.agent.supervisor (.report s.agent.missed s.lineTime r) s with ⟨hn, -⟩ | ⟨-, -, h⟩
  · have hroom : s.port.hasRoom (queueOf (.report s.agent.missed s.lineTime r)) = true :=
      decide_eq_true (Nat.lt_of_lt_of_le hf (show 5 ≤ queueCapacity .management by decide))
    simp [hs, hroom] at hn
  · simp only [queueReport, hf', if_true, hs, h]
    rfl

/-- At a fill of 5 the report is dropped and counted as missed (R171). -/
theorem queueReport_of_full {s : State} (r : Report) (hf : 5 ≤ s.port.fill .management) :
    queueReport r s = { s with agent := { s.agent with missed := min 255 (s.agent.missed + 1) } } := by
  rcases queueReport_cases r s with ⟨-, h⟩ | ⟨h, -⟩
  · exact h
  · exact absurd h (Nat.not_lt.2 hf)

/-- A report leaves the urgent queue, its fill and the node. -/
theorem queueReport_urgent (r : Report) (s : State) :
    (queueReport r s).port.urgent = s.port.urgent ∧
    (queueReport r s).port.fill .urgent = s.port.fill .urgent ∧
    (queueReport r s).port.silent = s.port.silent := by
  rcases queueReport_cases r s with ⟨-, h⟩ | ⟨-, n, h⟩ <;> rw [h]
  · exact ⟨rfl, rfl, rfl⟩
  · exact ⟨handFrame_entries_ne (q := .urgent) _ _ s nofun, handFrame_fill_ne (q := .urgent) _ _ s nofun,
      handFrame_silent _ _ s⟩

/-! ## The reports of freed slots (R17) -/

/-- A freed slot is reported once, with the lot number it held; a slot that stays is not. -/
theorem freeIfRetired_report (i : Nat) (s : State) :
    (((s.lotSlot i).life = .retiring ∧ (s.lotSlot i).refCount = 0) ∧ ∃ u : State,
      u.port = s.port ∧ u.agent = s.agent ∧ u.lineTime = s.lineTime ∧
      freeIfRetired i s = queueReport (.lotFreed i (s.lotSlot i).header.lotNumber) u) ∨
    (¬ ((s.lotSlot i).life = .retiring ∧ (s.lotSlot i).refCount = 0) ∧ freeIfRetired i s = s) := by
  rcases freeIfRetired_cases i s with ⟨hl, hr, h⟩ | h
  · exact .inl ⟨⟨hl, hr⟩, s.setLot i .cleared, rfl, rfl, rfl, h⟩
  · exact .inr h

/-- A release reports the slot when it frees it, and otherwise leaves the port and the agent. -/
theorem releaseRef_report {s : State} {i : Nat} (h : i < s.lots.slots.length) :
    (((s.lotSlot i).life = .retiring ∧ (s.lotSlot i).refCount ≤ 1) ∧ ∃ u : State,
      u.port = s.port ∧ u.agent = s.agent ∧ u.lineTime = s.lineTime ∧
      releaseRef i s = queueReport (.lotFreed i (s.lotSlot i).header.lotNumber) u) ∨
    (¬ ((s.lotSlot i).life = .retiring ∧ (s.lotSlot i).refCount ≤ 1) ∧
      (releaseRef i s).port = s.port ∧ (releaseRef i s).agent = s.agent) := by
  have hfree := freeIfRetired_report i (s.setLot i { s.lotSlot i with refCount := (s.lotSlot i).refCount - 1 })
  rw [lotSlot_setLot_self _ h, Nat.sub_eq_zero_iff_le] at hfree
  rcases hfree with hfree | ⟨hn, hf⟩
  · exact .inl hfree
  · refine .inr ⟨hn, ?_, ?_⟩ <;> rw [releaseRef, hf] <;> rfl

/-! ## The chain evaluation in the words of the statements (R56) -/

/-- No room at the exit (R56, case 2). -/
theorem noExitRoom_iff (s : State) : s.noExitRoom = true ↔ NoRoomAtTheExit s := by
  change _ ↔ ∃ p c, s.canes.pExit = some p ∧ s.canes.records.length = p + 1 ∧ s.canes.records.head? = some c ∧
    c.isProduct = true ∧ s.discharge.entries.length = Config.dischargeCapacity
  unfold State.noExitRoom State.queueFull
  cases s.canes.pExit <;> cases s.canes.records.head? <;> simp [and_assoc]

/-- A step allowed, with the CHAIN entry's node (R56, case 3). -/
theorem stepAllowedTo_iff (s : State) (dest : Nat) :
    StepAllowedTo s dest ↔ s.stepAllowed = true ∧ s.talkNode talkChain = some dest := by
  have hrole : s.talkNode 1 = s.talkNode talkChain ∧ s.isLost 3 = s.isLost roleChainCount := ⟨rfl, rfl⟩
  unfold StepAllowedTo State.stepAllowed LineMode.allowsSteps
  rw [hrole.1, hrole.2]
  cases s.talkNode talkChain with
  | none => simp
  | some d =>
    simp only [Bool.and_eq_true, Bool.or_eq_true, Bool.not_eq_true', decide_eq_true_eq, Option.isSome_some, ne_eq]
    tauto

/-- A change of the step state that R56 gives for what stands at the station, without a step sent, is the
evaluation. -/
theorem chainEvaluated_setStepState {s : State} {st : StepState} (n : Nat) (hst : st = .idle ∨ st = .waitingRoom)
    (hempty : s.chain.station = none → st = .idle)
    (hfull : ∀ c, s.chain.station = some c →
      (NoRoomAtTheExit s → st = .waitingRoom) ∧ (¬ NoRoomAtTheExit s → st = .idle) ∧
      ∀ dest, ¬ NoRoomAtTheExit s → ¬ StepAllowedTo s dest) :
    ChainEvaluated s (setStepState st s) n := by
  refine ⟨hempty, fun c hc => ?_, fun _ => ⟨rfl, rfl⟩, ?_, rfl⟩
  · obtain ⟨h1, h2, h3⟩ := hfull c hc
    exact ⟨h1, fun hroom _ => h2 hroom, fun dest hroom hallowed => absurd hallowed (h3 dest hroom)⟩
  · rcases hst with rfl | rfl <;> simp [setStepState]

/-- A step sent with room at the exit and a step allowed is the evaluation (R58). -/
theorem chainEvaluated_sendStep {s : State} {c : Cane} {dest : Nat} (hc : s.chain.station = some c)
    (ha : StepAllowedTo s dest) (hroom : ¬ NoRoomAtTheExit s) :
    ChainEvaluated s (sendStep c dest s) (inc32 s.port.frameCount) := by
  have hstate : (sendStep c dest s).chain.stepState =
      .stepping { loaded := c.isProduct, acknowledged := false, number := inc32 s.port.frameCount } := rfl
  have hstation : (sendStep c dest s).chain.station = some c := by rw [sendStep_station, hc]
  have hurgent : (sendStep c dest s).port.urgent = s.port.urgent ++
      (if s.port.silent = false ∧ s.port.fill .urgent < 4
       then [{ number := inc32 s.port.frameCount, dest := dest, body := .chainStep c.isProduct }] else []) := by
    have h := handFrame_entries_self dest (.chainStep c.isProduct) s
    simp only [queueOf, hasRoom_urgent_iff] at h
    exact h
  have hnoroom : ¬ NoRoomAtTheExit (sendStep c dest s) := by
    unfold NoRoomAtTheExit at hroom ⊢
    simpa using hroom
  have hallowed (d : Nat) : StepAllowedTo (sendStep c dest s) d ↔ d = dest := by
    obtain ⟨h1, h2, h3, h4⟩ := ha
    have htalk : (sendStep c dest s).talkNode 1 = some dest := by
      rw [State.talkNode, sendStep_signals]; exact h3
    have hlost : (sendStep c dest s).isLost 3 = false := by
      rw [State.isLost, State.slot, sendStep_signals]; exact h2
    unfold StepAllowedTo
    rw [htalk, hlost, sendStep_sequencer, sendStep_canes]
    exact ⟨fun h => (Option.some.inj h.2.2.1).symm, fun h => ⟨h1, rfl, congrArg some h.symm, h4⟩⟩
  refine ⟨fun h => (by rw [hstation] at h; cases h), fun d hd => ?_,
    fun h => by simp [Chain.step?, hstate] at h, ?_, ?_⟩
  · obtain rfl : c = d := by rw [hstation] at hd; exact Option.some.inj hd
    refine ⟨fun h => absurd h hnoroom, fun _ h => absurd ((hallowed dest).2 rfl) (h dest), fun d _ h => ?_⟩
    obtain rfl := (hallowed d).1 h
    exact ⟨hstate, rfl, hurgent⟩
  · simp [sendStep, setStepState]
  · simp [sendStep, setStepState]

/-- An evaluation with no step in flight leaves what R56 says; its step, if it sends one, has the next frame number,
which is then the port's count. -/
theorem evaluateChain_evaluated {s : State} (h : s.chain.step? = none) :
    ChainEvaluated s (evaluateChain s) (evaluateChain s).port.frameCount ∧
    ChainEvaluated s (evaluateChain s) (inc32 s.port.frameCount) := by
  rcases evaluateChain_cases s with ⟨⟨st, hst⟩, -⟩ |
    ⟨-, ⟨hc, he⟩ | ⟨c, hc, ⟨hr, he⟩ | ⟨hr, ha, he⟩ | ⟨hr, ha, dest, hd, he⟩⟩⟩
  · simp [Chain.step?, hst] at h
  · have hall (n : Nat) : ChainEvaluated s (setStepState .idle s) n :=
      chainEvaluated_setStepState n (.inl rfl) (fun _ => rfl) (fun c hc' => by simp [hc] at hc')
    rw [he]; exact ⟨hall _, hall _⟩
  · have hall (n : Nat) : ChainEvaluated s (setStepState .waitingRoom s) n :=
      have hno := (noExitRoom_iff s).1 hr
      chainEvaluated_setStepState n (.inr rfl) (fun hc' => by simp [hc] at hc')
        (fun _ _ => ⟨fun _ => rfl, fun hroom => absurd hno hroom, fun _ hroom => absurd hno hroom⟩)
    rw [he]; exact ⟨hall _, hall _⟩
  · have hroom : ¬ NoRoomAtTheExit s := by rw [← noExitRoom_iff, hr]; nofun
    have hnot (dest : Nat) : ¬ StepAllowedTo s dest := by
      rw [stepAllowedTo_iff]
      rintro ⟨h1, h2⟩
      simp [h1, h2] at ha
    have hall (n : Nat) : ChainEvaluated s (setStepState .idle s) n :=
      chainEvaluated_setStepState n (.inl rfl) (fun _ => rfl)
        (fun _ _ => ⟨fun hno => absurd hno hroom, fun _ => rfl, fun dest _ => hnot dest⟩)
    rw [he]; exact ⟨hall _, hall _⟩
  · have hroom : ¬ NoRoomAtTheExit s := by rw [← noExitRoom_iff, hr]; nofun
    have hsent := chainEvaluated_sendStep hc ((stepAllowedTo_iff s dest).2 ⟨ha, hd⟩) hroom
    have hcount : (sendStep c dest s).port.frameCount = inc32 s.port.frameCount := handFrame_frameCount _ _ s
    rw [he, hcount]; exact ⟨hsent, hsent⟩

/-- An evaluation that follows changes which it does not read is an evaluation from the state before them. -/
theorem chainEvaluated_congr {s u t : State} {n : Nat} (hu : u.port.urgent = s.port.urgent)
    (hf : u.port.fill .urgent = s.port.fill .urgent) (hs : u.port.silent = s.port.silent)
    (hc : u.chain = { s.chain with station := u.chain.station, drainTimer := u.chain.drainTimer })
    (hd : u.discharge.stallTimer = s.discharge.stallTimer) (ht : u.lineTime = s.lineTime) (hl : u.line = s.line)
    (h : ChainEvaluated u t n) : ChainEvaluated s t n := by
  unfold ChainEvaluated at h ⊢
  rw [hu, hf, hs, hd, ht, hl, hc] at h
  exact h

/-- An evaluation of the chain controller changes of the discharge unit the stall timer only. -/
theorem evaluateChain_discharge (s : State) :
    (evaluateChain s).discharge = { s.discharge with stallTimer := (evaluateChain s).discharge.stallTimer } := by
  rcases evaluateChain_form s with h | ⟨st, h⟩ | ⟨c, dest, h⟩ <;> simp [h, sendStep, setStepState]

/-- An evaluation of the chain controller leaves the drain timer. -/
theorem evaluateChain_drainTimer (s : State) : (evaluateChain s).chain.drainTimer = s.chain.drainTimer := by
  rcases evaluateChain_form s with h | ⟨st, h⟩ | ⟨c, dest, h⟩ <;> simp [h, sendStep, setStepState]

/-- An evaluation of the chain controller leaves the management queue, its fill and the node. -/
theorem evaluateChain_management (s : State) :
    (evaluateChain s).port.management = s.port.management ∧
    (evaluateChain s).port.fill .management = s.port.fill .management ∧
    (evaluateChain s).port.silent = s.port.silent := by
  rcases evaluateChain_form s with h | ⟨st, h⟩ | ⟨c, dest, h⟩ <;> rw [h]
  · exact ⟨rfl, rfl, rfl⟩
  · exact ⟨rfl, rfl, rfl⟩
  · exact ⟨handFrame_entries_ne (q := .management) _ _ s nofun, handFrame_fill_ne (q := .management) _ _ s nofun,
      handFrame_silent _ _ s⟩

end Sys2Proof.Machine
end

section
/-!
SUPPORT. A strip completion, effect by effect (R17, R119, R120), and its obligation.
-/

namespace Sys2Proof.Machine

/-! ## Groups of STRIPPER_COUNT events (R119, R120) -/

/-- The row takes its group off the ledger and acts on it. -/
theorem exec_stripperCountEvents (n : Nat) (s : State) :
    exec (.stripperCountEvents n) s = .next (takeStripperCount n (s.took (.stripperCountEvents n))) := rfl

/-- A group with no order outstanding, or with nothing in the discharge queue, is of stray events (R120). -/
theorem takeStripperCount_stray {s : State} {n : Nat} (hn : 1 ≤ n)
    (h : s.discharge.orderOutstanding = false ∨ s.discharge.entries = []) :
    takeStripperCount n s = strayEvents n s := by
  rw [takeStripperCount, if_neg (Nat.ne_of_gt hn)]
  cases he : s.discharge.entries with
  | nil => rfl
  | cons e rest =>
    have ho : s.discharge.orderOutstanding = false := h.resolve_right (by simp [he])
    simp [ho]

/-- A group of one completes the head whose order is outstanding (R119). -/
theorem takeStripperCount_one {s : State} {e : DischargeEntry} {rest : List DischargeEntry}
    (he : s.discharge.entries = e :: rest) (ho : s.discharge.orderOutstanding = true) :
    takeStripperCount 1 s = completeHead e rest s := by
  simp [takeStripperCount, he, ho]

/-- A larger group completes the head, and the others are stray events (R120). -/
theorem takeStripperCount_more {s : State} {e : DischargeEntry} {rest : List DischargeEntry} {n : Nat}
    (he : s.discharge.entries = e :: rest) (ho : s.discharge.orderOutstanding = true) (hn : 2 ≤ n) :
    takeStripperCount n s = strayEvents (n - 1) (completeHead e rest s) := by
  rw [takeStripperCount, if_neg (by omega)]
  simp only [he, ho, if_true]
  exact if_neg (by omega)

/-! ## The completion of the head (R119) -/

/-- The discharge unit after the head's completion, but for the stall timer. -/
def Discharge.completed (d : Discharge) (e : DischargeEntry) (rest : List DischargeEntry) : Discharge :=
  ({ d with entries := rest, orderOutstanding := false } : Discharge).counted e.disposition

/-- The state that a completion hands to the release: CANE_OUT queued and the head gone. -/
def headGone (e : DischargeEntry) (rest : List DischargeEntry) (s : State) : State :=
  (queueReport (.caneOut e (s.lotSlot e.product.lot).header.lotNumber) s).setDischarge (s.discharge.completed e rest)

section Completion

variable (e : DischargeEntry) (rest : List DischargeEntry) (s : State)

/-- A completion is the head's going, the release of its lot and an evaluation of the chain controller. -/
theorem completeHead_eq : completeHead e rest s = evaluateChain (releaseRef e.product.lot (headGone e rest s)) := by
  simp only [completeHead, headGone, Discharge.completed, queueReport_discharge]

/-- What the discharge unit holds after a completion: the rest of its queue, no order, and one more in the count of the
head's disposition. -/
theorem completed_fields (d : Discharge) :
    (d.completed e rest).entries = rest ∧ (d.completed e rest).orderOutstanding = false ∧
    (d.completed e rest).stallTimer = d.stallTimer ∧
    (d.completed e rest).packCount = (if e.disposition = .pack then inc32 d.packCount else d.packCount) ∧
    (d.completed e rest).setAsideCount =
      (if e.disposition = .setAside then inc32 d.setAsideCount else d.setAsideCount) ∧
    (d.completed e rest).divertCount = (if e.disposition = .divert then inc32 d.divertCount else d.divertCount) := by
  unfold Discharge.completed Discharge.counted
  cases e.disposition <;> exact ⟨rfl, rfl, rfl, rfl, rfl, rfl⟩

/-- The discharge unit after a completion. -/
theorem completeHead_discharge :
    (completeHead e rest s).discharge =
      { s.discharge.completed e rest with stallTimer := (completeHead e rest s).discharge.stallTimer } := by
  rw [completeHead_eq]
  refine (evaluateChain_discharge _).trans ?_
  rw [releaseRef_discharge]
  rfl

/-- The head's going touches no lot. -/
theorem lotSlot_headGone (i : Nat) : (headGone e rest s).lotSlot i = s.lotSlot i :=
  lotSlot_congr (by simp [headGone, State.setDischarge]) i

/-- The slots after a completion: the head's lot is released, the others stay (R17). -/
theorem lotSlot_completeHead (i : Nat) (h : e.product.lot < s.lots.slots.length) :
    (completeHead e rest s).lotSlot i =
      if i = e.product.lot then
        (if (s.lotSlot i).life = .retiring ∧ (s.lotSlot i).refCount ≤ 1 then .cleared
         else { s.lotSlot i with refCount := (s.lotSlot i).refCount - 1 })
      else s.lotSlot i := by
  have hlen : e.product.lot < (headGone e rest s).lots.slots.length := by
    simpa [headGone, State.setDischarge] using h
  rw [completeHead_eq, lotSlot_congr (congrArg LotTable.slots (evaluateChain_lots _))]
  split
  case isTrue hi => rw [hi, lotSlot_releaseRef_self hlen, lotSlot_headGone]
  case isFalse hi => rw [lotSlot_releaseRef_ne hi, lotSlot_headGone]

/-- The chain controller's evaluation in a completion, from the state before it (R56, R63). -/
theorem completeHead_chainEvaluated (h : s.chain.step? = none) :
    ChainEvaluated s (completeHead e rest s) (completeHead e rest s).port.frameCount := by
  have hgone : (headGone e rest s).port.urgent = s.port.urgent ∧
      (headGone e rest s).port.fill .urgent = s.port.fill .urgent ∧
      (headGone e rest s).port.silent = s.port.silent := queueReport_urgent _ s
  have hrel : (releaseRef e.product.lot (headGone e rest s)).port.urgent = s.port.urgent ∧
      (releaseRef e.product.lot (headGone e rest s)).port.fill .urgent = s.port.fill .urgent ∧
      (releaseRef e.product.lot (headGone e rest s)).port.silent = s.port.silent := by
    rw [releaseRef]
    rcases freeIfRetired_report e.product.lot ((headGone e rest s).setLot e.product.lot _) with
      ⟨-, u, hp, -, -, hu⟩ | ⟨-, hu⟩ <;> rw [hu]
    · obtain ⟨h1, h2, h3⟩ := queueReport_urgent
        (.lotFreed e.product.lot (State.lotSlot (State.setLot _ e.product.lot _) e.product.lot).header.lotNumber) u
      rw [h1, h2, h3, hp]
      exact hgone
    · exact hgone
  have hchain : (releaseRef e.product.lot (headGone e rest s)).chain = s.chain := by
    simp [headGone, State.setDischarge]
  rw [completeHead_eq]
  refine chainEvaluated_congr hrel.1 hrel.2.1 hrel.2.2 (by rw [hchain]) ?_ (by simp [headGone, State.setDischarge])
    (by simp [headGone, State.setDischarge]) (evaluateChain_evaluated (by rw [hchain]; exact h)).1
  rw [releaseRef_discharge]
  exact (completed_fields e rest s.discharge).2.2.1

/-- With a step in flight a completion leaves the chain controller and the stall timer (R57). -/
theorem completeHead_stepping (h : s.chain.step?.isSome = true) :
    (completeHead e rest s).chain = s.chain ∧
    (completeHead e rest s).discharge.stallTimer = s.discharge.stallTimer := by
  have hchain : (releaseRef e.product.lot (headGone e rest s)).chain = s.chain := by
    simp [headGone, State.setDischarge]
  rw [completeHead_eq]
  rcases evaluateChain_cases (releaseRef e.product.lot (headGone e rest s)) with ⟨-, hu⟩ | ⟨hn, -⟩
  · rw [hu, releaseRef_discharge]
    exact ⟨hchain, (completed_fields e rest s.discharge).2.2.1⟩
  · rw [hchain] at hn
    simp [hn] at h

end Completion

/-! ## The reports of a completion (R171) -/

section Reports

variable {e : DischargeEntry} {s : State} (rest : List DischargeEntry)

/-- The agent and the management queue after a completion, from those after the release. -/
theorem completeHead_management :
    (completeHead e rest s).agent = (releaseRef e.product.lot (headGone e rest s)).agent ∧
    (completeHead e rest s).port.management = (releaseRef e.product.lot (headGone e rest s)).port.management := by
  rw [completeHead_eq]
  exact ⟨evaluateChain_agent _, (evaluateChain_management _).1⟩

/-- The release of a completion reports from the port and the agent that CANE_OUT left. -/
theorem headGone_release (h : e.product.lot < s.lots.slots.length) :
    (((s.lotSlot e.product.lot).life = .retiring ∧ (s.lotSlot e.product.lot).refCount ≤ 1) ∧ ∃ u : State,
      u.port = (headGone e rest s).port ∧ u.agent = (headGone e rest s).agent ∧ u.lineTime = s.lineTime ∧
      releaseRef e.product.lot (headGone e rest s) =
        queueReport (.lotFreed e.product.lot (s.lotSlot e.product.lot).header.lotNumber) u) ∨
    (¬ ((s.lotSlot e.product.lot).life = .retiring ∧ (s.lotSlot e.product.lot).refCount ≤ 1) ∧
      (releaseRef e.product.lot (headGone e rest s)).port = (headGone e rest s).port ∧
      (releaseRef e.product.lot (headGone e rest s)).agent = (headGone e rest s).agent) := by
  have hlen : e.product.lot < (headGone e rest s).lots.slots.length := by
    simpa [headGone, State.setDischarge] using h
  have hrel := releaseRef_report hlen
  have htime : (headGone e rest s).lineTime = s.lineTime := by simp [headGone, State.setDischarge]
  rwa [lotSlot_headGone, htime] at hrel

/-- With room for both, CANE_OUT and LOT_FREED stand in the management queue and no report is missed. -/
theorem completeHead_reports_room (h : e.product.lot < s.lots.slots.length) (hs : s.port.silent = false)
    (hf : s.port.fill .management < 4) :
    (completeHead e rest s).agent = { s.agent with missed := 0 } ∧
    (completeHead e rest s).port.management.map Frame.body = s.port.management.map Frame.body ++
      [.report s.agent.missed s.lineTime (.caneOut e (s.lotSlot e.product.lot).header.lotNumber)] ++
      (if (s.lotSlot e.product.lot).life = .retiring ∧ (s.lotSlot e.product.lot).refCount ≤ 1
       then [.report 0 s.lineTime (.lotFreed e.product.lot (s.lotSlot e.product.lot).header.lotNumber)]
       else []) := by
  have hout := queueReport_of_room (.caneOut e (s.lotSlot e.product.lot).header.lotNumber) hs (by omega)
  obtain ⟨hagent, hman⟩ := completeHead_management (e := e) (s := s) rest
  rw [hagent, hman]
  rcases headGone_release rest h with ⟨hc, u, hp, ha, ht, hu⟩ | ⟨hc, hp, ha⟩
  · have hup : u.port = s.port.withReport s.agent.supervisor s.agent.missed s.lineTime
        (.caneOut e (s.lotSlot e.product.lot).header.lotNumber) := by rw [hp, headGone, hout]; rfl
    have hua : u.agent = { s.agent with missed := 0 } := by rw [ha, headGone, hout]; rfl
    rw [hu, queueReport_of_room _ (by rw [hup]; exact hs) (by rw [hup, Port.withReport_fill]; omega), if_pos hc]
    simp [hua, hup, ht, Port.withReport]
  · rw [hp, ha, headGone, hout, if_neg hc]
    exact ⟨rfl, by simp [State.setDischarge, Port.withReport]⟩

/-- At a fill of 4 CANE_OUT takes the last place for reports, and a LOT_FREED is missed. -/
theorem completeHead_reports_last (h : e.product.lot < s.lots.slots.length) (hs : s.port.silent = false)
    (hf : s.port.fill .management = 4) :
    (completeHead e rest s).agent = { s.agent with missed :=
      if (s.lotSlot e.product.lot).life = .retiring ∧ (s.lotSlot e.product.lot).refCount ≤ 1 then 1 else 0 } ∧
    (completeHead e rest s).port.management.map Frame.body = s.port.management.map Frame.body ++
      [.report s.agent.missed s.lineTime (.caneOut e (s.lotSlot e.product.lot).header.lotNumber)] := by
  have hout := queueReport_of_room (.caneOut e (s.lotSlot e.product.lot).header.lotNumber) hs (by omega)
  obtain ⟨hagent, hman⟩ := completeHead_management (e := e) (s := s) rest
  rw [hagent, hman]
  rcases headGone_release rest h with ⟨hc, u, hp, ha, -, hu⟩ | ⟨hc, hp, ha⟩
  · have hup : u.port = s.port.withReport s.agent.supervisor s.agent.missed s.lineTime
        (.caneOut e (s.lotSlot e.product.lot).header.lotNumber) := by rw [hp, headGone, hout]; rfl
    have hua : u.agent = { s.agent with missed := 0 } := by rw [ha, headGone, hout]; rfl
    rw [hu, queueReport_of_full _ (by rw [hup, Port.withReport_fill]; omega), if_pos hc]
    simp [hua, hup, Port.withReport]
  · rw [hp, ha, headGone, hout, if_neg hc]
    exact ⟨rfl, by simp [State.setDischarge, Port.withReport]⟩

/-- At a fill of 5 and above every report of a completion is missed. -/
theorem completeHead_reports_full (h : e.product.lot < s.lots.slots.length) (hf : 5 ≤ s.port.fill .management) :
    (completeHead e rest s).agent = { s.agent with missed := min 255 (s.agent.missed +
      (if (s.lotSlot e.product.lot).life = .retiring ∧ (s.lotSlot e.product.lot).refCount ≤ 1 then 2 else 1)) } ∧
    (completeHead e rest s).port.management.map Frame.body = s.port.management.map Frame.body := by
  have hout := queueReport_of_full (.caneOut e (s.lotSlot e.product.lot).header.lotNumber) hf
  obtain ⟨hagent, hman⟩ := completeHead_management (e := e) (s := s) rest
  rw [hagent, hman]
  rcases headGone_release rest h with ⟨hc, u, hp, ha, -, hu⟩ | ⟨hc, hp, ha⟩
  · have hup : u.port = s.port := by rw [hp, headGone, hout]; rfl
    have hua : u.agent = { s.agent with missed := min 255 (s.agent.missed + 1) } := by rw [ha, headGone, hout]; rfl
    rw [hu, queueReport_of_full _ (by rw [hup]; exact hf), if_pos hc]
    simp only [hua, hup, and_true]
    congr 1
    omega
  · rw [hp, ha, headGone, hout, if_neg hc]
    exact ⟨rfl, rfl⟩

end Reports

/-! ## The obligation -/

/-- Of a group of two or more the first completes the head and the others are a group of their own (R120). -/
theorem stripperCountEvents_split {s : State} {e : DischargeEntry} {rest : List DischargeEntry} {n : Nat}
    (he : s.discharge.entries = e :: rest) (ho : s.discharge.orderOutstanding = true) (hn : 2 ≤ n) :
    ∃ u, exec (.stripperCountEvents 1)
        { s with handed := .stripperCountEvents 1 :: s.handed.erase (.stripperCountEvents n) } = .next u ∧
      u.discharge.entries = rest ∧ u.discharge.orderOutstanding = false ∧
      exec (.stripperCountEvents n) s = exec (.stripperCountEvents (n - 1))
        { u with handed := .stripperCountEvents (n - 1) :: u.handed } := by
  -- an entry put at the ledger's front is the one taken
  have took_front (u : State) (c : Instr) : State.took { u with handed := c :: u.handed } c = u := by
    simp [State.took]
  obtain ⟨hrest, hout, -⟩ := completed_fields e rest s.discharge
  have hd := completeHead_discharge e rest (s.took (.stripperCountEvents n))
  have hrest' : (completeHead e rest (s.took (.stripperCountEvents n))).discharge.entries = rest := by
    rw [hd]; exact hrest
  have hout' : (completeHead e rest (s.took (.stripperCountEvents n))).discharge.orderOutstanding = false := by
    rw [hd]; exact hout
  refine ⟨completeHead e rest (s.took (.stripperCountEvents n)), ?_, hrest', hout', ?_⟩
  · rw [exec_stripperCountEvents]
    exact congrArg _ ((congrArg _ (took_front (s.took (.stripperCountEvents n)) (.stripperCountEvents 1))).trans
      (takeStripperCount_one he ho))
  · rw [exec_stripperCountEvents, exec_stripperCountEvents, took_front, takeStripperCount_stray (by omega) (.inl hout')]
    exact congrArg _ (takeStripperCount_more (s := s.took (.stripperCountEvents n)) he ho hn)

/-- Settles O24: the split of a group, the stray events, and the completion effect by effect. -/
theorem stripCompletionsCountAndRelease : Obligations.StripCompletionsCountAndRelease := by
  refine ⟨fun s e rest n he ho hn => stripperCountEvents_split he ho hn, fun s n => ⟨?_, ?_, ?_⟩⟩
  · intro hn h hf
    rw [exec_stripperCountEvents, takeStripperCount_stray (s := s.took (.stripperCountEvents n)) hn h]
    exact congrArg _ (queueReport_of_full _ hf)
  · intro hn h hs hf
    rw [exec_stripperCountEvents, takeStripperCount_stray (s := s.took (.stripperCountEvents n)) hn h]
    exact congrArg _ (queueReport_of_room _ hs hf)
  · intro e rest he ho hlot lot caneOut freed management count
    let u := s.took (.stripperCountEvents 1)
    obtain ⟨hrest, hout, -, hpack, haside, hdivert⟩ := completed_fields e rest s.discharge
    have hd := completeHead_discharge e rest u
    have hstation : (completeHead e rest u).chain.station = s.chain.station := by
      rw [completeHead_eq, (evaluateChain_places _).1]
      simp [headGone, State.setDischarge, u]
    have hdrain : (completeHead e rest u).chain.drainTimer = s.chain.drainTimer := by
      rw [completeHead_eq, evaluateChain_drainTimer]
      simp [headGone, State.setDischarge, u]
    refine ⟨completeHead e rest u, congrArg _ (takeStripperCount_one (s := u) he ho), ?_, ?_, ?_, ?_, ?_, ?_, ?_,
      fun hs hf => completeHead_reports_room rest hlot hs hf, fun hs hf => completeHead_reports_last rest hlot hs hf,
      fun hf => completeHead_reports_full rest hlot hf, ?_, ?_, ?_, hstation, hdrain,
      fun h => completeHead_chainEvaluated e rest u h, fun h => completeHead_stepping e rest u h⟩
    · rw [hd]; exact hrest
    · rw [hd]; exact hout
    · rw [hd]; exact hpack
    · rw [hd]; exact haside
    · rw [hd]; exact hdivert
    · rw [lotSlot_completeHead e rest u _ hlot, if_pos rfl]; rfl
    · intro i hi
      rw [lotSlot_completeHead e rest u i hlot, if_neg hi]; rfl
    · simp [completeHead_eq, headGone, State.setDischarge, u]
    · simp [completeHead_eq, headGone, State.setDischarge, u]
    · simp [completeHead_eq, headGone, State.setDischarge, u]

end Sys2Proof.Machine
end

section
/-!
SUPPORT. A cut and the switch of lots at it (R13, R17, R19, R35 to R38): the record placed, the pacer, the lot table and
the reports, and the obligation.
-/

namespace Sys2Proof.Machine

/-! ## A record placed, in the words of the statements (R36, R48, R49) -/

/-- The state just before the evaluation that follows the placing of a record. -/
def stationed (product : Option Product) (s : State) : State :=
  { s with chain := { s.chain with
             station := some { sequence := s.canes.nextSequence, hangTime := s.lineTime, product := product } },
           canes := { s.canes with nextSequence := nextSeq s.canes.nextSequence } }

/-- Placing a record is what R36 and R49 say. -/
theorem recordPlaced_placeRecord (product : Option Product) (s : State) :
    RecordPlaced s (placeRecord product s) product := by
  change RecordPlaced s (evaluateChain (stationed product s)) product
  refine ⟨(evaluateChain_places _).1, by rw [evaluateChain_canes]; rfl, evaluateChain_discharge _, fun h => ?_⟩
  exact chainEvaluated_congr (u := stationed product s) rfl rfl rfl rfl rfl rfl rfl
    (evaluateChain_evaluated (s := stationed product s) h).2

/-- Placing a record leaves the drain timer. -/
theorem placeRecord_drainTimer (product : Option Product) (s : State) :
    (placeRecord product s).chain.drainTimer = s.chain.drainTimer := evaluateChain_drainTimer (stationed product s)

/-- Placing a record leaves the management queue, its fill and the node. -/
theorem placeRecord_management (product : Option Product) (s : State) :
    (placeRecord product s).port.management = s.port.management ∧
    (placeRecord product s).port.fill .management = s.port.fill .management ∧
    (placeRecord product s).port.silent = s.port.silent := evaluateChain_management (stationed product s)

/-- What R56 says of an evaluation is said of what it reads and sends. -/
theorem chainEvaluated_congr_right {s t u : State} {n : Nat} (hc : u.chain = t.chain) (hq : u.canes = t.canes)
    (hd : u.discharge = t.discharge) (hm : u.sequencer = t.sequencer) (hg : u.signals = t.signals)
    (hu : u.port.urgent = t.port.urgent) (h : ChainEvaluated s t n) : ChainEvaluated s u n := by
  have hroom : NoRoomAtTheExit u ↔ NoRoomAtTheExit t := by unfold NoRoomAtTheExit; rw [hq, hd]
  have hallowed (dest : Nat) : StepAllowedTo u dest ↔ StepAllowedTo t dest := by
    unfold StepAllowedTo State.isLost State.slot State.talkNode; rw [hm, hg, hq]
  unfold ChainEvaluated at h ⊢
  simp only [hroom, hallowed, hc, hd, hu]
  exact h

/-- A record placed is still so after changes elsewhere, and from a state that differs elsewhere. -/
theorem recordPlaced_congr {s s' t u : State} {product : Option Product} (hs : s'.chain = s.chain)
    (hsq : s'.canes = s.canes) (hsd : s'.discharge = s.discharge) (hsp : s'.port = s.port)
    (hst : s'.lineTime = s.lineTime) (hsl : s'.line = s.line) (hc : u.chain = t.chain) (hq : u.canes = t.canes)
    (hd : u.discharge = t.discharge) (hm : u.sequencer = t.sequencer) (hg : u.signals = t.signals)
    (hu : u.port.urgent = t.port.urgent) (h : RecordPlaced s' t product) : RecordPlaced s u product := by
  obtain ⟨h1, h2, h3, h4⟩ := h
  rw [hsq, hst] at h1
  rw [hsq] at h2
  rw [hsd] at h3
  refine ⟨by rw [hc, h1], by rw [hq, h2], by rw [hd, h3], fun hstep => ?_⟩
  have heval := chainEvaluated_congr_right hc hq hd hm hg hu (h4 (by rw [hs]; exact hstep))
  rw [hsp] at heval
  exact chainEvaluated_congr (by rw [hsp]) (by rw [hsp]) (by rw [hsp]) (by rw [hs]) (by rw [hsd]) hst hsl heval

/-! ## What an evaluation of the pacer leaves (R30, R31) -/

/-- An evaluation changes of the pacer its state only. -/
theorem evaluateFire_pacer (s : State) :
    (evaluateFire s).pacer = { s.pacer with state := (evaluateFire s).pacer.state } := by
  rcases evaluateFire_cases s with h | ⟨-, h | h | ⟨target, dest, -, -, -, -, h⟩⟩ <;> rw [h]
  · rfl
  · rfl
  · simp [sendFire]

/-- An evaluation leaves the management queue, its fill and the node. -/
theorem evaluateFire_management (s : State) :
    (evaluateFire s).port.management = s.port.management ∧
    (evaluateFire s).port.fill .management = s.port.fill .management ∧
    (evaluateFire s).port.silent = s.port.silent := by
  rcases evaluateFire_cases s with h | ⟨-, h | h | ⟨target, dest, -, -, -, -, h⟩⟩ <;> rw [h]
  · exact ⟨rfl, rfl, rfl⟩
  · exact ⟨rfl, rfl, rfl⟩
  · exact ⟨rfl, rfl, rfl⟩
  · exact ⟨handFrame_entries_ne (q := .management) _ _ s nofun, handFrame_fill_ne (q := .management) _ _ s nofun,
      handFrame_silent _ _ s⟩

/-- With an interlock failing an evaluation sends no fire: it leaves the port, and the pacer is not FIRING unless it
was (R29). -/
theorem evaluateFire_of_interlock {s : State} (h : ∀ dest, ¬ InterlocksHold s dest) :
    (evaluateFire s).port = s.port ∧
    ((∀ f, s.pacer.state ≠ .firing f) → ∀ f, (evaluateFire s).pacer.state ≠ .firing f) := by
  rcases evaluateFire_cases s with he | ⟨-, he | he | ⟨target, dest, -, -, hi, -, -⟩⟩
  · rw [he]; exact ⟨rfl, id⟩
  · rw [he]; exact ⟨rfl, fun _ => nofun⟩
  · rw [he]; exact ⟨rfl, fun _ => nofun⟩
  · obtain ⟨d, hd⟩ := (failingInterlock_eq_zero_iff s).1 hi
    exact absurd hd (h d)

/-- An evaluation that sends no fire is one with any frame number. -/
theorem evaluated_of_not_firing {t : State} {n : Nat} (m : Nat) (h : Evaluated t n)
    (hf : ∀ f, t.pacer.state ≠ .firing f) : Evaluated t m := by
  obtain ⟨hstate, htarget⟩ := h
  refine ⟨?_, fun target ht => ?_⟩
  · rcases hstate with h1 | h1 | ⟨f, h1, -⟩
    · exact .inl h1
    · exact .inr (.inl h1)
    · exact absurd h1 (hf f)
  · obtain ⟨h1, h2, h3⟩ := htarget target ht
    exact ⟨h1, h2, fun dest hc hi => absurd (h3 dest hc hi) (hf _)⟩

/-- The frame number of the fire that an evaluation sends is then the port's count. -/
theorem evaluateFire_evaluated_count {s : State} (h : s.pacer.state = .forming ∨ s.pacer.state = .blocked) :
    Evaluated (evaluateFire s) (evaluateFire s).port.frameCount := by
  have heval := evaluateFire_evaluated h
  have hnot : ∀ f, s.pacer.state ≠ .firing f := fun f hf => by simp [hf] at h
  rcases evaluateFire_cases s with he | ⟨-, he | he | ⟨target, dest, -, -, -, -, he⟩⟩
  · exact evaluated_of_not_firing _ heval (by rw [he]; exact hnot)
  · exact evaluated_of_not_firing _ heval (by rw [he]; exact fun _ => nofun)
  · exact evaluated_of_not_firing _ heval (by rw [he]; exact fun _ => nofun)
  · have hcount : (evaluateFire s).port.frameCount = inc32 s.port.frameCount := by
      rw [he]; exact handFrame_frameCount _ _ s
    rwa [hcount]

/-- In PRIMING and RUNNING the end of a fire is an evaluation in FORMING, without an insertion (R27, R38, R67). -/
theorem afterFireEnd_of_allowsFires {s : State} (h : LineMode.allowsFires s.sequencer.mode = true) :
    afterFireEnd s = evaluateFire (setPacerState .forming s) := by
  have hd : s.sequencer.mode ≠ .draining := by rintro e; simp [e, LineMode.allowsFires] at h
  have hrest : s.restState = .forming := if_pos h
  rw [afterFireEnd, hrest]
  rcases tryInsertion_cases (evaluateFire (setPacerState .forming s)) with ⟨hdue, -⟩ | ⟨-, ht⟩
  · simp [State.insertionDue, setPacerState, hd] at hdue
  · exact ht

/-! ## The cut before the switch (R35, R36, R37, R38) -/

/-- The record that a cut places: a PRODUCT of the active lot for HANG, counted in its slot, an EMPTY one for GAP, and
none for PURGE (R15, R36). -/
def cutPlaced (f : Fire) (length : Nat) (s : State) : State :=
  match f.kind with
  | .hang => hangCane length s
  | .gap => placeRecord none s
  | .purge => s

/-- A completed cut at the switch test: the record placed, the pacer's figures as R35 to R38 leave them. -/
def cutHandled (f : Fire) (s : State) : State :=
  let u := handOverCut f (roundedLength s.pacer.acc) (s.setPacer (s.pacer.closeCurtain f.kind))
  u.setPacer { u.pacer with missCount := 0 }

theorem completeCut_eq (f : Fire) (s : State) : completeCut f s = afterFireEnd (switchTest (cutHandled f s)) := rfl

/-- Beside the pacer a cut only places its record. -/
theorem cutHandled_eq (f : Fire) (s : State) :
    ∃ p, cutHandled f s =
      (cutPlaced f (roundedLength s.pacer.acc) (s.setPacer (s.pacer.closeCurtain f.kind))).setPacer p := by
  unfold cutHandled handOverCut cutPlaced
  cases f.kind <;> exact ⟨_, rfl⟩

section CutPlaced

variable (f : Fire) (length : Nat) (s : State)

/-- Placing a HANG cut's record leaves the pacer. -/
@[simp] theorem hangCane_pacer : (hangCane length s).pacer = s.pacer := by
  rw [hangCane]; split <;> simp

/-- What the placing of a cut's record leaves. -/
theorem cutPlaced_frame :
    { cutPlaced f length s with chain := s.chain, canes := s.canes, lots := s.lots, port := s.port,
                                discharge := s.discharge, handed := s.handed } = s := by
  have placed (p : Option Product) (u : State) :
      { placeRecord p u with chain := u.chain, canes := u.canes, lots := u.lots, port := u.port,
                             discharge := u.discharge, handed := u.handed } = u := by
    simp only [placeRecord_clock, placeRecord_lineTime, placeRecord_pacer, placeRecord_drying, placeRecord_climate,
      placeRecord_sequencer, placeRecord_signals, placeRecord_agent, placeRecord_line, placeRecord_pending]
  unfold cutPlaced hangCane
  cases f.kind with
  | hang =>
    cases s.lots.active with
    | none => rfl
    | some a => exact congrArg (fun u : State => { u with lots := s.lots }) (placed _ (raiseRef a s))
  | gap => exact placed none s
  | purge => rfl

/-- The lot table counts the record of a HANG cut, and is left by the others (R15). -/
theorem cutPlaced_lots {a : Nat} (ha : s.lots.active = some a) :
    (cutPlaced f length s).lots = if f.kind = .hang then (raiseRef a s).lots else s.lots := by
  unfold cutPlaced hangCane
  cases f.kind <;> simp [ha]

/-- The placing of a cut's record leaves the management queue, its fill and the node. -/
theorem cutPlaced_management :
    (cutPlaced f length s).port.management = s.port.management ∧
    (cutPlaced f length s).port.fill .management = s.port.fill .management ∧
    (cutPlaced f length s).port.silent = s.port.silent := by
  unfold cutPlaced hangCane
  cases f.kind with
  | hang =>
    cases s.lots.active with
    | none => exact ⟨rfl, rfl, rfl⟩
    | some a => exact placeRecord_management _ (raiseRef a s)
  | gap => exact placeRecord_management _ s
  | purge => exact ⟨rfl, rfl, rfl⟩

end CutPlaced

/-! ## The pacer after a cut (R35, R36, R37) -/

/-- In service a total is a plain sum (R44). -/
theorem addTotal_of_inService {total acc : Nat} (ha : acc ≤ Config.accMax)
    (ht : total + Config.accMax < Config.totalModulus) : addTotal total acc = total + acc :=
  if_pos (by omega)

/-- c after a HANG cut, in the words of the statements (R37). -/
theorem nextCorrection_eq (c : Int) (length target : Nat) :
    nextCorrection c length target =
      max (-20000) (min 20000 (c + Int.tdiv ((length : Int) - (target : Int) * 1000) 4)) := by
  simp only [nextCorrection, clamp, Nat.cast_mul, Nat.cast_ofNat]
  generalize c + Int.tdiv ((length : Int) - (target : Int) * 1000) 4 = x
  split
  · omega
  split <;> omega

/-- The pacer at the switch test, for a part in service with an active lot where the cut is a HANG one. -/
theorem cutHandled_pacer {s : State} (f : Fire) (hT : TotalsInService s) :
    (cutHandled f s).pacer = { s.pacer with
      gapCounter := if f.kind = .gap then s.pacer.gapCounter - 1 else s.pacer.gapCounter,
      acc := 0, knifeTimer := .stopped, missCount := 0,
      hung := if f.kind = .hang then s.pacer.hung + s.pacer.acc else s.pacer.hung,
      waste := if f.kind = .hang then s.pacer.waste else s.pacer.waste + s.pacer.acc,
      correction := if f.kind = .hang then
          max (-20000) (min 20000 (s.pacer.correction +
            Int.tdiv ((((s.pacer.acc + 500) / 1000 : Nat) : Int) - (f.target : Int) * 1000) 4))
        else s.pacer.correction,
      purgePending := if f.kind = .purge then false else s.pacer.purgePending } := by
  obtain ⟨hacc, -, hhung, hwaste⟩ := hT
  have h1 := addTotal_of_inService hacc hhung
  have h2 := addTotal_of_inService hacc hwaste
  unfold cutHandled handOverCut
  cases f.kind <;>
    simp [Pacer.closeCurtain, State.setPacer, h1, h2, nextCorrection_eq, roundedLength]

/-- A state that keeps what the cut made of the pacer and of the places has the cut taken (R35 to R38). -/
theorem cutTaken_of_cutHandled {s t : State} {f : Fire} (hT : TotalsInService s)
    (hp : t.pacer = { (cutHandled f s).pacer with state := t.pacer.state, gapCounter := t.pacer.gapCounter })
    (h : f.kind = .gap ∨ (f.kind = .hang ∧ s.lots.active ≠ none) →
      t.chain = (cutHandled f s).chain ∧ t.canes = (cutHandled f s).canes ∧
      t.discharge = (cutHandled f s).discharge ∧ t.sequencer = (cutHandled f s).sequencer ∧
      t.signals = (cutHandled f s).signals ∧ t.port.urgent = (cutHandled f s).port.urgent) : CutTaken s t f := by
  obtain ⟨p, hcut⟩ := cutHandled_eq f s
  refine ⟨?_, fun a hk ha => ?_, fun hk => ?_⟩
  · rw [hp, cutHandled_pacer f hT]
  · obtain ⟨hc, hq, hd, hm, hg, hu⟩ := h (.inr ⟨hk, by simp [ha]⟩)
    have hplaced : cutPlaced f (roundedLength s.pacer.acc) (s.setPacer (s.pacer.closeCurtain f.kind)) =
        placeRecord (some (newProduct a (roundedLength s.pacer.acc) (s.setPacer (s.pacer.closeCurtain f.kind))))
          (raiseRef a (s.setPacer (s.pacer.closeCurtain f.kind))) := by
      simp [cutPlaced, hangCane, hk, State.setPacer, ha]
    rw [hplaced] at hcut
    rw [hcut] at hc hq hd hm hg hu
    exact ⟨recordPlaced_congr rfl rfl rfl rfl rfl rfl hc hq hd hm hg hu (recordPlaced_placeRecord _ _),
      by rw [hc]; exact placeRecord_drainTimer _ _⟩
  · obtain ⟨hc, hq, hd, hm, hg, hu⟩ := h (.inl hk)
    have hplaced : cutPlaced f (roundedLength s.pacer.acc) (s.setPacer (s.pacer.closeCurtain f.kind)) =
        placeRecord none (s.setPacer (s.pacer.closeCurtain f.kind)) := by
      simp [cutPlaced, hk]
    rw [hplaced] at hcut
    rw [hcut] at hc hq hd hm hg hu
    exact ⟨recordPlaced_congr rfl rfl rfl rfl rfl rfl hc hq hd hm hg hu (recordPlaced_placeRecord _ _),
      by rw [hc]; exact placeRecord_drainTimer _ _⟩

/-- After a HANG or GAP cut the station holds its record (R36). -/
theorem cutHandled_station {s : State} {f : Fire} (h : f.kind = .gap ∨ (f.kind = .hang ∧ s.lots.active ≠ none)) :
    (cutHandled f s).chain.station ≠ none := by
  obtain ⟨p, hcut⟩ := cutHandled_eq f s
  have placed (r : Option Product) (u : State) : (placeRecord r u).chain.station ≠ none := by
    rw [(recordPlaced_placeRecord r u).1]; nofun
  rw [hcut]
  rcases h with hk | ⟨hk, ha⟩
  · simpa [cutPlaced, hk] using placed none _
  · obtain ⟨a, ha⟩ := Option.ne_none_iff_exists'.1 ha
    simpa [cutPlaced, hk, hangCane, State.setPacer, ha] using placed _ _

/-! ## The switch's report (R17) -/

/-- Of the port and the agent the switch changes what the LOT_FREED of an old slot without references makes. -/
theorem switchLots_report {s : State} {old new : Nat} (ho : old < s.lots.slots.length) :
    ((s.lotSlot old).refCount = 0 ∧ ∃ u : State, u.port = s.port ∧ u.agent = s.agent ∧ u.lineTime = s.lineTime ∧
      (switchLots old new s).port = (queueReport (.lotFreed old (s.lotSlot old).header.lotNumber) u).port ∧
      (switchLots old new s).agent = (queueReport (.lotFreed old (s.lotSlot old).header.lotNumber) u).agent) ∨
    ((s.lotSlot old).refCount ≠ 0 ∧ (switchLots old new s).port = s.port ∧
      (switchLots old new s).agent = s.agent) := by
  have hfree := freeIfRetired_report old (s.setLot old { s.lotSlot old with life := .retiring })
  rw [lotSlot_setLot_self _ ho] at hfree
  have hfields : (switchLots old new s).port =
      (freeIfRetired old (s.setLot old { s.lotSlot old with life := .retiring })).port ∧
      (switchLots old new s).agent =
      (freeIfRetired old (s.setLot old { s.lotSlot old with life := .retiring })).agent := ⟨rfl, rfl⟩
  rw [hfields.1, hfields.2]
  rcases hfree with ⟨⟨-, hr⟩, u, hp, ha, ht, hu⟩ | ⟨hn, hu⟩
  · exact .inl ⟨hr, u, hp, ha, ht, by rw [hu], by rw [hu]⟩
  · exact .inr ⟨fun hr => hn ⟨rfl, hr⟩, by rw [hu]; rfl, by rw [hu]; rfl⟩

/-- A report changes of the agent the count of missed reports only. -/
theorem queueReport_agent (r : Report) (s : State) :
    (queueReport r s).agent.directives = s.agent.directives ∧
    (queueReport r s).agent.supervisor = s.agent.supervisor := by
  rcases queueReport_cases r s with ⟨-, h⟩ | ⟨-, n, h⟩ <;> rw [h] <;> exact ⟨rfl, rfl⟩

/-! ## The switch at a cut (R13) -/

section SwitchAtCut

variable {s : State} {f : Fire} {old new : Nat}

/-- The lot table at the switch test: the old slot with the cut's own record counted, the others as they were. -/
theorem cutHandled_lots (hact : s.lots.active = some old) (ho : old < s.lots.slots.length) :
    (cutHandled f s).lots.active = some old ∧ (cutHandled f s).lots.armed = s.lots.armed ∧
    (cutHandled f s).lots.gap = s.lots.gap ∧ (cutHandled f s).lots.slots.length = s.lots.slots.length ∧
    (cutHandled f s).lotSlot old = { s.lotSlot old with
      refCount := (s.lotSlot old).refCount + (if f.kind = .hang then 1 else 0) } ∧
    ∀ i, i ≠ old → (cutHandled f s).lotSlot i = s.lotSlot i := by
  obtain ⟨p, hcut⟩ := cutHandled_eq f s
  have hlots := cutPlaced_lots f (roundedLength s.pacer.acc) (s.setPacer (s.pacer.closeCurtain f.kind))
    (show (s.setPacer (s.pacer.closeCurtain f.kind)).lots.active = some old from hact)
  have hl : (cutHandled f s).lots = if f.kind = .hang then (raiseRef old s).lots else s.lots := by
    rw [hcut]; exact hlots
  have hslot (i : Nat) : (cutHandled f s).lotSlot i =
      if f.kind = .hang then (raiseRef old s).lotSlot i else s.lotSlot i := by
    rw [State.lotSlot, hl]; split <;> rfl
  by_cases hk : f.kind = .hang
  · simp only [hk, if_true] at hl hslot ⊢
    rw [hl]
    exact ⟨hact, rfl, rfl, by simp [raiseRef], by rw [hslot, lotSlot_raiseRef_self ho],
      fun i hi => by rw [hslot, raiseRef, lotSlot_setLot_ne _ hi]⟩
  · simp only [hk, if_false] at hl hslot ⊢
    rw [hl]
    exact ⟨hact, rfl, rfl, rfl, by rw [hslot]; rfl, fun i _ => hslot i⟩

/-- In RUNNING with a lot armed a completed cut switches and evaluates. -/
theorem completeCut_switch (hm : s.sequencer.mode = .running) (hact : s.lots.active = some old)
    (harm : s.lots.armed = some new) (hne : old ≠ new) (ho : old < s.lots.slots.length) :
    completeCut f s = evaluateFire (setPacerState .forming (switchLots old new (cutHandled f s))) := by
  obtain ⟨hact', harm', -⟩ := cutHandled_lots (f := f) hact ho
  obtain ⟨p, hcut⟩ := cutHandled_eq f s
  have hmode : (cutHandled f s).sequencer.mode = .running := by
    rw [hcut]
    exact (congrArg (fun u : State => u.sequencer.mode) (cutPlaced_frame f _ _)).trans hm
  have hswitch : switchTest (cutHandled f s) = switchLots old new (cutHandled f s) := by
    rw [switchTest, harm', harm, hact']
    exact if_pos ⟨hmode, hne.symm⟩
  rw [completeCut_eq, hswitch, afterFireEnd_of_allowsFires]
  simp [switchLots, hmode, LineMode.allowsFires]

/-- The switch leaves everything but the lots, the gap counter and what its report changes. -/
theorem switchLots_frame (old new : Nat) (s : State) :
    { switchLots old new s with pacer := s.pacer, lots := s.lots, port := s.port, agent := s.agent,
                                handed := s.handed } = s ∧
    (switchLots old new s).pacer = { s.pacer with
      gapCounter := s.gapEntry (s.lotSlot old).header.changeoverClass (s.lotSlot new).header.changeoverClass } := by
  constructor
  · simp only [switchLots, freeIfRetired_clock, freeIfRetired_lineTime, freeIfRetired_chain, freeIfRetired_canes,
      freeIfRetired_drying, freeIfRetired_climate, freeIfRetired_discharge, freeIfRetired_sequencer,
      freeIfRetired_signals, freeIfRetired_line, freeIfRetired_pending, State.setLot]
  · simp [switchLots]

/-- Beside the pacer, the lots, the port and the places a cut leaves everything. -/
theorem cutHandled_frame (f : Fire) (s : State) :
    { cutHandled f s with pacer := s.pacer, chain := s.chain, canes := s.canes, lots := s.lots, port := s.port,
                          discharge := s.discharge, handed := s.handed } = s := by
  obtain ⟨p, hcut⟩ := cutHandled_eq f s
  rw [hcut]
  exact congrArg (fun u : State => { u with pacer := s.pacer })
    (cutPlaced_frame f (roundedLength s.pacer.acc) (s.setPacer (s.pacer.closeCurtain f.kind)))

/-- A switch of lots leaves the places, the sequencer and the signals. -/
theorem switchLots_places (old new : Nat) (s : State) :
    (switchLots old new s).canes = s.canes ∧ (switchLots old new s).chain = s.chain ∧
    (switchLots old new s).discharge = s.discharge ∧ (switchLots old new s).sequencer = s.sequencer ∧
    (switchLots old new s).signals = s.signals := by
  obtain ⟨hframe, -⟩ := switchLots_frame old new s
  have hcanes := congrArg State.canes hframe
  have hchain := congrArg State.chain hframe
  have hdischarge := congrArg State.discharge hframe
  have hsequencer := congrArg State.sequencer hframe
  have hsignals := congrArg State.signals hframe
  exact ⟨hcanes, hchain, hdischarge, hsequencer, hsignals⟩

theorem cutHandled_agent (f : Fire) (s : State) : (cutHandled f s).agent = s.agent := by
  have h := congrArg State.agent (cutHandled_frame f s)
  exact h

theorem cutHandled_lineTime (f : Fire) (s : State) : (cutHandled f s).lineTime = s.lineTime := by
  have h := congrArg State.lineTime (cutHandled_frame f s)
  exact h

/-- What a cut in RUNNING with the lot `new` armed leaves: the cut taken, the lots switched, the pacer's evaluation. -/
def switched (f : Fire) (old new : Nat) (s : State) : State :=
  evaluateFire (setPacerState .forming (switchLots old new (cutHandled f s)))

/-- The evaluation after a switch changes the pacer's state only. -/
theorem switched_pacer (f : Fire) (old new : Nat) (s : State) :
    (switched f old new s).pacer = { (switchLots old new (cutHandled f s)).pacer with
      state := (switched f old new s).pacer.state } := evaluateFire_pacer _

/-- The evaluation after a switch leaves the lots. -/
theorem switched_lots (f : Fire) (old new : Nat) (s : State) :
    (switched f old new s).lots = (switchLots old new (cutHandled f s)).lots := evaluateFire_lots _

/-- A PURGE cut with a switch leaves the three places (R36). -/
theorem switched_places_of_purge (old new : Nat) (s : State) (h : f.kind = .purge) :
    (switched f old new s).canes = s.canes ∧ (switched f old new s).chain = s.chain ∧
    (switched f old new s).discharge = s.discharge := by
  have hcut : ∃ p, cutHandled f s = s.setPacer p := by
    obtain ⟨p, hp⟩ := cutHandled_eq f s
    exact ⟨p, by rw [hp, cutPlaced, h]; rfl⟩
  obtain ⟨p, hcut⟩ := hcut
  obtain ⟨hcanes, hchain, hdischarge, -, -⟩ := switchLots_places old new (s.setPacer p)
  unfold switched
  rw [hcut, evaluateFire_canes, evaluateFire_chain, evaluateFire_discharge]
  exact ⟨hcanes, hchain, hdischarge⟩

/-- The cut that a switch follows is taken as in every line mode (R35 to R38). -/
theorem cutTaken_switched (old new : Nat) (hT : TotalsInService s) : CutTaken s (switched f old new s) f := by
  obtain ⟨-, hpacer⟩ := switchLots_frame old new (cutHandled f s)
  obtain ⟨hcanes, hchain, hdischarge, hsequencer, hsignals⟩ := switchLots_places old new (cutHandled f s)
  refine cutTaken_of_cutHandled hT ?_ fun hk => ?_
  · rw [switched_pacer, hpacer]
  · have hst := cutHandled_station hk
    have hstation := congrArg Chain.station hchain
    obtain ⟨hport, -⟩ := evaluateFire_of_interlock (s := setPacerState .forming (switchLots old new (cutHandled f s)))
      fun dest hi => hst (hstation.symm.trans hi.2.1)
    have hurgent : (switchLots old new (cutHandled f s)).port.urgent = (cutHandled f s).port.urgent := by
      rw [show (switchLots old new (cutHandled f s)).port = (freeIfRetired old _).port from rfl]
      rcases freeIfRetired_report old ((cutHandled f s).setLot old _) with ⟨-, u, hp, -, -, hu⟩ | ⟨-, hu⟩ <;> rw [hu]
      · rw [(queueReport_urgent _ u).1, hp]; rfl
      · rfl
    unfold switched
    rw [hport, evaluateFire_chain, evaluateFire_canes, evaluateFire_discharge, evaluateFire_sequencer,
      evaluateFire_signals]
    exact ⟨hchain, hcanes, hdischarge, hsequencer, hsignals, hurgent⟩

/-- The slots after a cut with a switch: the old slot retires with the cut's own record counted, or is freed; the new
one is ACTIVE (R13, R15, R17). -/
theorem lotSlot_switched (hact : s.lots.active = some old) (hne : old ≠ new) (ho : old < s.lots.slots.length)
    (hn : new < s.lots.slots.length) :
    let refs := (s.lotSlot old).refCount + (if f.kind = .hang then 1 else 0)
    (switched f old new s).lotSlot new = { s.lotSlot new with life := .active } ∧
    (switched f old new s).lotSlot old =
      (if refs = 0 then .cleared else { s.lotSlot old with life := .retiring, refCount := refs }) ∧
    ∀ i, i ≠ old → i ≠ new → (switched f old new s).lotSlot i = s.lotSlot i := by
  obtain ⟨-, -, -, hlen, hold, hother⟩ := cutHandled_lots (f := f) hact ho
  have slot (i : Nat) : (switched f old new s).lotSlot i = (switchLots old new (cutHandled f s)).lotSlot i :=
    lotSlot_congr (congrArg LotTable.slots (switched_lots f old new s)) i
  refine ⟨?_, ?_, fun i hio hin => ?_⟩
  · rw [slot, lotSlot_switchLots_new hne (hlen.symm ▸ hn), hother new hne.symm]
  · rw [slot, lotSlot_switchLots_old hne (hlen.symm ▸ ho), hold]
  · rw [slot, lotSlot_switchLots_ne hio hin, hother i hio]

/-- The gap counter after a cut with a switch is the gap table's entry for the two classes (R19). -/
theorem switched_gapCounter (hact : s.lots.active = some old) (hne : old ≠ new) (ho : old < s.lots.slots.length) :
    (switched f old new s).pacer.gapCounter =
      s.gapEntry (s.lotSlot old).header.changeoverClass (s.lotSlot new).header.changeoverClass := by
  obtain ⟨-, -, hgap, -, hold, hother⟩ := cutHandled_lots (f := f) hact ho
  rw [switched_pacer, (switchLots_frame old new (cutHandled f s)).2, State.gapEntry, hgap, hold, hother new hne.symm]
  rfl

/-- The reports after a cut with a switch: the LOT_FREED of an old slot that no record names, and no other (R17). -/
theorem switched_reports (hact : s.lots.active = some old) (ho : old < s.lots.slots.length)
    (hs : s.port.silent = false) (hf : s.port.fill .management < 5) :
    (switched f old new s).port.management.map Frame.body = s.port.management.map Frame.body ++
      (if (s.lotSlot old).refCount + (if f.kind = .hang then 1 else 0) = 0 then
        [.report s.agent.missed s.lineTime (.lotFreed old (s.lotSlot old).header.lotNumber)] else []) := by
  obtain ⟨-, -, -, hlen, hold, -⟩ := cutHandled_lots (f := f) hact ho
  obtain ⟨hman, hfill, hsilent⟩ : (cutHandled f s).port.management = s.port.management ∧
      (cutHandled f s).port.fill .management = s.port.fill .management ∧
      (cutHandled f s).port.silent = s.port.silent := by
    obtain ⟨p, hcut⟩ := cutHandled_eq f s
    rw [hcut]; exact cutPlaced_management _ _ _
  have hswitched : (switched f old new s).port.management = (switchLots old new (cutHandled f s)).port.management :=
    (evaluateFire_management _).1
  have hreport := switchLots_report (s := cutHandled f s) (new := new) (hlen.symm ▸ ho)
  rw [hold] at hreport
  rw [hswitched]
  rcases hreport with ⟨hr, u, hp, ha, ht, hup, -⟩ | ⟨hr, hp, -⟩
  · rw [if_pos hr, hup, queueReport_of_room _ (by rw [hp, hsilent, hs]) (by rw [hp, hfill]; exact hf)]
    simp [Port.withReport, hp, ha, ht, hman, cutHandled_agent, cutHandled_lineTime]
  · rw [if_neg hr, hp, hman, List.append_nil]

/-- Beside the pacer, the lots, the places and the trunk port a cut with a switch leaves everything; of the agent it
changes the count of missed reports. -/
theorem switched_frame (old new : Nat) (ho : old < (cutHandled f s).lots.slots.length) :
    { switched f old new s with pacer := s.pacer, chain := s.chain, canes := s.canes, lots := s.lots,
                                port := s.port, discharge := s.discharge, agent := s.agent,
                                handed := s.handed } = s ∧
    (switched f old new s).agent.directives = s.agent.directives ∧
    (switched f old new s).agent.supervisor = s.agent.supervisor := by
  constructor
  · refine Eq.trans ?_ (cutHandled_frame f s)
    have hswitch := congrArg (fun u : State => { u with
      pacer := s.pacer, chain := s.chain, canes := s.canes, lots := s.lots, port := s.port,
      discharge := s.discharge, agent := s.agent, handed := s.handed }) (switchLots_frame old new (cutHandled f s)).1
    simp only [switched, evaluateFire_clock, evaluateFire_lineTime, evaluateFire_drying, evaluateFire_climate,
      evaluateFire_sequencer, evaluateFire_signals, evaluateFire_line, evaluateFire_pending]
    exact hswitch.trans (by rw [cutHandled_agent])
  · have hswitched : (switched f old new s).agent = (switchLots old new (cutHandled f s)).agent :=
      evaluateFire_agent _
    rw [hswitched]
    rcases switchLots_report (new := new) ho with ⟨-, u, -, ha, -, -, hua⟩ | ⟨-, -, hua⟩ <;> rw [hua]
    · rw [(queueReport_agent _ u).1, (queueReport_agent _ u).2, ha, cutHandled_agent]
      exact ⟨rfl, rfl⟩
    · rw [cutHandled_agent]
      exact ⟨rfl, rfl⟩

end SwitchAtCut

/-! ## The obligation -/

/-- The row takes its group off the ledger, and a group of one completes the fire in flight (R35, R40). -/
theorem exec_knifeCountEvents_one {s : State} {f : Fire} (hf : s.pacer.state = .firing f) :
    exec (.knifeCountEvents 1) s = .next (completeCut f (s.took (.knifeCountEvents 1))) := by
  have hfire : s.pacer.fire? = some f := by rw [Pacer.fire?, hf]
  refine congrArg Host.Outcome.next ?_
  simp [takeKnifeCount, hfire]

/-- Settles O15: the cut's own effects first, then the switch, then the evaluation. -/
theorem armedLotsSwitchAtACut : Obligations.ArmedLotsSwitchAtACut := by
  intro s f old new hf hm hact harm hne ho hn refs
  let u := s.took (.knifeCountEvents 1)
  obtain ⟨-, -, hgap, hlen, -⟩ := cutHandled_lots (s := u) (f := f) hact ho
  obtain ⟨-, harm', hact', hgap'⟩ := switchLots_table old new (cutHandled f u)
  obtain ⟨hnew, hold, hother⟩ := lotSlot_switched (s := u) (f := f) hact hne ho hn
  obtain ⟨hframe, hdir, hsup⟩ := switched_frame (s := u) (f := f) old new (hlen.symm ▸ ho)
  refine ⟨switched f old new u,
    (exec_knifeCountEvents_one hf).trans (congrArg _ (completeCut_switch (s := u) hm hact harm hne ho)),
    fun _ hT => cutTaken_switched (s := u) old new hT, fun hk => switched_places_of_purge old new u hk,
    evaluateFire_evaluated_count (.inl rfl), ?_, ?_, ?_, hnew, hold, hother,
    switched_gapCounter (s := u) hact hne ho, fun hs hfl => switched_reports (s := u) hact ho hs hfl, ?_, hdir, hsup⟩
  · rw [switched_lots, hact']
  · rw [switched_lots, harm']
  · rw [switched_lots, hgap', hgap]; rfl
  · exact congrArg (fun v : State => { v with handed := s.handed }) hframe

end Sys2Proof.Machine
end

section
/-!
SUPPORT. CLEAR_LINE (R16, R17, R27, R63, R70): the reports of the slots that a run over the table frees, what a line
that is cleared keeps, and the obligation about it.
-/

namespace Sys2Proof.Machine

/-! ## The LOT_FREED reports of a run over the table (R16, R17, R171) -/

/-- A report leaves the management queue's fill at most 5, or where it was. -/
theorem queueReport_fill_le (r : Report) {s : State} (hs : s.port.silent = false) :
    (queueReport r s).port.fill .management ≤ max (s.port.fill .management) 5 := by
  rcases Nat.lt_or_ge (s.port.fill .management) 5 with hf | hf
  · rw [queueReport_of_room r hs hf]
    simp only [Port.withReport_fill]
    omega
  · rw [queueReport_of_full r hf]
    exact Nat.le_max_left _ _

/-- A run over the slots leaves an ordinary node with a fill of at most 5, or where it was. -/
theorem forEach_free_fill_le (n : Nat) {s : State} (hs : s.port.silent = false) :
    (forEach n freeIfRetired s).port.silent = false ∧
    (forEach n freeIfRetired s).port.fill .management ≤ max (s.port.fill .management) 5 := by
  induction n with
  | zero => exact ⟨hs, Nat.le_max_left _ _⟩
  | succ n ih =>
    obtain ⟨hsilent, hfill⟩ := ih
    rw [forEach_succ]
    rcases freeIfRetired_report n (forEach n freeIfRetired s) with ⟨-, u, hp, -, -, hu⟩ | ⟨-, hu⟩ <;> rw [hu]
    · rw [← hp] at hsilent hfill
      have hle := queueReport_fill_le (.lotFreed n ((forEach n freeIfRetired s).lotSlot n).header.lotNumber) hsilent
      exact ⟨(queueReport_urgent _ u).2.2.trans hsilent, by omega⟩
    · exact ⟨hsilent, hfill⟩

/-- The slots below `n` that a run over the table frees, in ascending order. -/
def State.retiringBelow (s : State) (n : Nat) : List Nat :=
  (List.range n).filter fun i => decide ((s.lotSlot i).life = .retiring)

/-- The LOT_FREED report of a slot and its place among those of one run: the first carries the missed count, and every
later one 0 (R171). -/
def State.freedBody (s : State) (x : Nat × Nat) : FrameBody :=
  .report (if x.2 = 0 then s.agent.missed else 0) s.lineTime (.lotFreed x.1 (s.lotSlot x.1).header.lotNumber)

/-- The run from `s` to `t` has queued the reports of the slots `freed`, and missed none. -/
structure FreedReported (s t : State) (freed : List Nat) : Prop where
  fill : t.port.fill .management = s.port.fill .management + freed.length
  missed : t.agent.missed = if freed.length = 0 then s.agent.missed else 0
  bodies : t.port.management.map Frame.body = s.port.management.map Frame.body ++ freed.zipIdx.map s.freedBody

/-- One more report joins those of the run. -/
theorem FreedReported.snoc {s t u v : State} {freed : List Nat} {i : Nat} (h : FreedReported s t freed)
    (hp : u.port = t.port) (ha : u.agent = t.agent) (ht : u.lineTime = s.lineTime) (hs : t.port.silent = false)
    (hf : t.port.fill .management < 5)
    (hv : v = queueReport (.lotFreed i (s.lotSlot i).header.lotNumber) u) : FreedReported s v (freed ++ [i]) := by
  obtain ⟨hfill, hmissed, hbodies⟩ := h
  rw [hv, queueReport_of_room _ (by rw [hp, hs]) (by rw [hp]; exact hf)]
  refine ⟨?_, by simp, ?_⟩
  · simp only [Port.withReport_fill, hp, hfill, List.length_append, List.length_singleton]
    omega
  · simp [Port.withReport, hp, ha, ht, hbodies, hmissed, List.zipIdx_append, State.freedBody]

/-- With room for all of them, a run over slots whose counts are 0 reports each RETIRING one (R16, R17). -/
theorem freedReported_forEach (n : Nat) {s : State} (hs : s.port.silent = false)
    (hzero : ∀ i, (s.lotSlot i).refCount = 0)
    (hroom : s.port.fill .management + (s.retiringBelow n).length ≤ 5) :
    FreedReported s (forEach n freeIfRetired s) (s.retiringBelow n) := by
  induction n with
  | zero => exact ⟨rfl, rfl, by simp [forEach, State.retiringBelow]⟩
  | succ n ih =>
    have hlist : s.retiringBelow (n + 1) =
        s.retiringBelow n ++ if (s.lotSlot n).life = .retiring then [n] else [] := by
      simp only [State.retiringBelow, List.range_succ, List.filter_append, List.filter_singleton,
        Bool.cond_decide]
    have hslot : (forEach n freeIfRetired s).lotSlot n = s.lotSlot n := by simp [lotSlot_forEach_free]
    have htime : (forEach n freeIfRetired s).lineTime = s.lineTime :=
      forEach_keeps State.lineTime _ (fun _ _ => freeIfRetired_lineTime _ _) n s
    rw [hlist, List.length_append] at hroom
    have hrun := ih (by omega)
    have hone := freeIfRetired_report n (forEach n freeIfRetired s)
    rw [hslot] at hone
    rw [forEach_succ, hlist]
    rcases hone with ⟨⟨hl, -⟩, u, hp, ha, ht, hu⟩ | ⟨hn, hu⟩
    · rw [if_pos hl] at hroom ⊢
      have hfill := hrun.fill
      rw [List.length_singleton] at hroom
      exact hrun.snoc hp ha (ht.trans htime) (forEach_free_fill_le n hs).1 (by omega) hu
    · have hl : ¬ (s.lotSlot n).life = .retiring := fun hl => hn ⟨hl, hzero n⟩
      rwa [if_neg hl, List.append_nil, hu]

/-! ## The line cleared -/

/-- The line emptied and its RETIRING slots freed, before the two evaluations (R16, R17, R70). Irreducible, so that no
unification runs the table's sixteen passes. -/
@[irreducible] def lineEmptied (s : State) : State := freeRetired (clearRefs (emptyPlaces s))

theorem lineEmptied_eq (s : State) : lineEmptied s = freeRetired (clearRefs (emptyPlaces s)) := by
  unfold lineEmptied; rfl

theorem freeRetired_sequencer (s : State) : (freeRetired s).sequencer = s.sequencer :=
  forEach_keeps State.sequencer _ (fun _ _ => freeIfRetired_sequencer _ _) 16 s

theorem freeRetired_pacer (s : State) : (freeRetired s).pacer = s.pacer :=
  forEach_keeps State.pacer _ (fun _ _ => freeIfRetired_pacer _ _) 16 s

theorem lineEmptied_sequencer (s : State) : (lineEmptied s).sequencer = s.sequencer := by
  have h := freeRetired_sequencer (clearRefs (emptyPlaces s))
  rwa [← lineEmptied_eq] at h

theorem lineEmptied_pacer (s : State) : (lineEmptied s).pacer = s.pacer := by
  have h := freeRetired_pacer (clearRefs (emptyPlaces s))
  rwa [← lineEmptied_eq] at h

/-- The three places are empty, and nothing else of them changes (R70). -/
theorem lineEmptied_places (s : State) :
    (lineEmptied s).chain = { s.chain with station := none, recommands := 0 } ∧
    (lineEmptied s).canes = { s.canes with records := [] } ∧
    (lineEmptied s).discharge = { s.discharge with entries := [], orderOutstanding := false } := by
  rw [lineEmptied_eq]
  exact freeRetired_places (clearRefs (emptyPlaces s))

/-- With the station empty the chain controller becomes IDLE (R56, R63). -/
theorem clearLine_eq {s : State} (h : s.chain.step? = none) :
    clearLine s = evaluateFire (setStepState .idle (lineEmptied s)) := by
  obtain ⟨hchain, -, -⟩ := lineEmptied_places s
  have hstep : (lineEmptied s).chain.step? = none := by rw [hchain]; exact h
  rw [show clearLine s = evaluateFire (evaluateChain (lineEmptied s)) by rw [lineEmptied_eq]; rfl]
  rcases evaluateChain_cases (lineEmptied s) with ⟨⟨st, hst⟩, -⟩ | ⟨-, ⟨-, he⟩ | ⟨c, hc, -⟩⟩
  · simp [Chain.step?, hst] at hstep
  · rw [he]
  · simp [hchain] at hc

section ClearLine

variable {s : State}

/-- The three places after the clearing; a wait for room has ended, and the stall timer with it (R63, R70, R121). -/
theorem clearLine_places (h : s.chain.step? = none) :
    (clearLine s).chain = { s.chain with station := none, recommands := 0, stepState := .idle } ∧
    (clearLine s).canes = { s.canes with records := [] } ∧
    (clearLine s).discharge = { s.discharge with
      entries := [], orderOutstanding := false,
      stallTimer := if s.chain.stepState = .waitingRoom then .stopped else s.discharge.stallTimer } := by
  obtain ⟨hchain, hcanes, hdischarge⟩ := lineEmptied_places s
  rw [clearLine_eq h, evaluateFire_chain, evaluateFire_canes, evaluateFire_discharge]
  simp [setStepState, hchain, hcanes, hdischarge]

/-- The lot table after the clearing: no record is counted, every RETIRING slot is freed, and the pointers and the gap
table stand (R16, R17). -/
theorem clearLine_lots (h : s.chain.step? = none) :
    (∀ i, i < 16 → (clearLine s).lotSlot i =
      if (s.lotSlot i).life = .retiring then .cleared else { s.lotSlot i with refCount := 0 }) ∧
    (clearLine s).lots.armed = s.lots.armed ∧ (clearLine s).lots.active = s.lots.active ∧
    (clearLine s).lots.gap = s.lots.gap := by
  have hlots : (clearLine s).lots = (lineEmptied s).lots := by
    rw [clearLine_eq h, evaluateFire_lots]; rfl
  obtain ⟨-, harm, hact, hgap⟩ := freeRetired_table (clearRefs (emptyPlaces s))
  rw [hlots, lineEmptied_eq, harm, hact, hgap]
  refine ⟨fun i hi => ?_, rfl, rfl, rfl⟩
  rw [lotSlot_congr (congrArg LotTable.slots hlots), lineEmptied_eq, lotSlot_cleared_line hi]

theorem clearLine_sequencer (h : s.chain.step? = none) : (clearLine s).sequencer = s.sequencer := by
  rw [clearLine_eq h, evaluateFire_sequencer]
  exact lineEmptied_sequencer s

/-- Of the pacer the clearing changes at most the state. -/
theorem clearLine_pacer (h : s.chain.step? = none) :
    (clearLine s).pacer = { s.pacer with state := (clearLine s).pacer.state } := by
  rw [clearLine_eq h, evaluateFire_pacer, ← lineEmptied_pacer s]
  rfl

/-- An idle pacer and one with a fire in flight keep their state (R27). -/
theorem clearLine_pacer_of_not_waiting (h : s.chain.step? = none)
    (hp : s.pacer.state = .idle ∨ ∃ f, s.pacer.state = .firing f) :
    (clearLine s).pacer.state = s.pacer.state := by
  have hstate : (setStepState .idle (lineEmptied s)).pacer.state = s.pacer.state :=
    congrArg Pacer.state (lineEmptied_pacer s)
  rw [clearLine_eq h]
  rcases evaluateFire_cases (setStepState .idle (lineEmptied s)) with he | ⟨hw, -⟩
  · rw [he, hstate]
  · rw [hstate] at hw
    rcases hp with hp | ⟨f, hp⟩ <;> simp [hp] at hw

/-- In STOPPED no fire is sent, whatever the pacer waits for (R29). -/
theorem not_interlocksHold_of_stopped (h : s.sequencer.mode = .stopped) (dest : Nat) : ¬ InterlocksHold s dest := by
  rintro ⟨hfires, -⟩
  simp [h, LineMode.allowsFires] at hfires

/-- A pacer in FORMING or BLOCKED evaluates, and in STOPPED without a fire (R27, R29, R30). -/
theorem clearLine_evaluated (n : Nat) (h : s.chain.step? = none) (hm : s.sequencer.mode = .stopped)
    (hp : s.pacer.state = .forming ∨ s.pacer.state = .blocked) : Evaluated (clearLine s) n := by
  have hstate : (setStepState .idle (lineEmptied s)).pacer.state = s.pacer.state :=
    congrArg Pacer.state (lineEmptied_pacer s)
  have hmode : (setStepState .idle (lineEmptied s)).sequencer.mode = .stopped := by
    rw [← hm]; exact congrArg Sequencer.mode (lineEmptied_sequencer s)
  rw [← hstate] at hp
  rw [clearLine_eq h]
  exact evaluated_of_not_firing n (evaluateFire_evaluated hp)
    ((evaluateFire_of_interlock (not_interlocksHold_of_stopped hmode)).2
      (fun f hf => by rw [hf] at hp; simp at hp))

/-- Of the management queue the evaluations leave what the run over the table has made of it. -/
theorem clearLine_management (h : s.chain.step? = none) :
    (clearLine s).port.management = (lineEmptied s).port.management ∧
    (clearLine s).port.fill .management = (lineEmptied s).port.fill .management ∧
    (clearLine s).port.silent = (lineEmptied s).port.silent := by
  rw [clearLine_eq h]
  exact evaluateFire_management _

/-- With room for all of them the reports of the freed slots are queued in ascending slot order (R16, R17, R171). -/
theorem clearLine_reports (h : s.chain.step? = none) (hs : s.port.silent = false)
    (hroom : s.port.fill .management + (s.retiringBelow 16).length ≤ 5) :
    (clearLine s).port.management.map Frame.body =
      s.port.management.map Frame.body ++ (s.retiringBelow 16).zipIdx.map s.freedBody := by
  have hport : (clearRefs (emptyPlaces s)).port = s.port := rfl
  have hlife (i : Nat) : (clearRefs (emptyPlaces s)).lotSlot i = { s.lotSlot i with refCount := 0 } :=
    lotSlot_clearRefs i (emptyPlaces s)
  have hfreed : (clearRefs (emptyPlaces s)).retiringBelow 16 = s.retiringBelow 16 := by
    simp [State.retiringBelow, hlife]
  have hbody : (clearRefs (emptyPlaces s)).freedBody = s.freedBody := by
    funext x; simp only [State.freedBody, hlife]; rfl
  have hrun := (freedReported_forEach 16 (s := clearRefs (emptyPlaces s)) hs (fun i => by rw [hlife])
    (by rw [hfreed, hport]; exact hroom)).bodies
  rw [hfreed, hbody, hport] at hrun
  rw [(clearLine_management h).1, lineEmptied_eq, freeRetired, hrun]

/-- The clearing leaves an ordinary node with room for the response (R171). -/
theorem clearLine_room (h : s.chain.step? = none) (hs : s.port.silent = false)
    (hf : s.port.fill .management < 6) :
    (clearLine s).port.silent = false ∧ (clearLine s).port.fill .management < 6 := by
  have hport : (clearRefs (emptyPlaces s)).port = s.port := rfl
  obtain ⟨hsilent, hfill⟩ := forEach_free_fill_le 16 (s := clearRefs (emptyPlaces s)) hs
  rw [hport] at hfill
  obtain ⟨-, hfill', hsilent'⟩ := clearLine_management h
  rw [hfill', hsilent', lineEmptied_eq, freeRetired]
  exact ⟨hsilent, by omega⟩

end ClearLine

/-! ## The obligation -/

/-- CLEAR_LINE as a directive: its length is right, then R70 decides. -/
theorem exec_clearLine {r : Request} (s : State) (hr : r.args = []) :
    exec (.clearLine r) s = .next (runDirective (directiveOf 0x05 [] r) false clearLineAnswer s) := by
  have hargs : (directiveOf 0x05 [] r).args = [] := hr
  change Host.Outcome.next (runDirective _ false _ s) = _
  simp only [runDirective, hargs, withLength_of_length _ (show ([] : List Byte).length = 0 from rfl)]

/-- In STOPPED with no step in flight CLEAR_LINE is taken, and its response finds room (R70, R168, R171). -/
theorem exec_clearLine_taken {s : State} {r : Request} (hs : Starts s (directiveOf 0x05 [] r)) (hr : r.args = [])
    (hm : s.sequencer.mode = .stopped) (hstep : s.chain.step? = none) :
    exec (.clearLine r) s =
      .next (answered s (directiveOf 0x05 [] r) .done s.clearCounts clearLine) := by
  have ⟨_, hfill, hsilent⟩ := hs
  obtain ⟨hsilent', hfill'⟩ := clearLine_room (s := popDirective s) hstep hsilent hfill
  have hstep' : ¬ s.chain.step?.isSome = true := by simp [hstep]
  have hact : clearLineAnswer (directiveOf 0x05 [] r).args (popDirective s) =
      doneWith s.clearCounts (clearLine (popDirective s)) := (if_neg (not_not.2 hm)).trans (if_neg hstep')
  rw [exec_clearLine s hr, runDirective_answered (startable_of_starts hs) hact hsilent' hfill']

/-- An answered directive leaves what its effect leaves, but for the response at the management queue's tail (R170). -/
theorem answered_eq (s : State) (d : Directive) (o : OutcomeCode) (body : List Byte) (effect : State → State) :
    ∃ p n, answered s d o body effect = { effect (popDirective s) with port := p } ∧
      p.management = (effect (popDirective s)).port.management ++
        [{ number := n, dest := d.sender, body := .response d.tag d.code o body }] := ⟨_, _, rfl, rfl⟩

/-- Settles O46: the checks, then the line emptied, the slots freed and the two evaluations. -/
theorem clearLineEmptiesTheLine : Obligations.ClearLineEmptiesTheLine := by
  intro s r hs hr freed
  refine ⟨fun hm => ?_, fun hm hstep => ?_, fun hm hstep _ => ?_⟩
  · rw [exec_clearLine s hr]
    exact congrArg _ (runDirective_refuse hs (if_pos hm))
  · rw [exec_clearLine s hr]
    exact congrArg _ (runDirective_refuse hs ((if_neg (not_not.2 hm)).trans (if_pos hstep)))
  · have hstep' : (popDirective s).chain.step? = none := hstep
    have hplaces := clearLine_places hstep'
    have hlots := clearLine_lots hstep'
    have hpacer := clearLine_pacer hstep'
    have heval := clearLine_evaluated (inc32 s.port.frameCount) hstep' hm
    have hrest := clearLine_pacer_of_not_waiting hstep'
    have hreports := clearLine_reports hstep' hs.2.2
    have hsequencer := clearLine_sequencer hstep'
    obtain ⟨p, n, hanswered, hp⟩ := answered_eq s (directiveOf 0x05 [] r) .done s.clearCounts clearLine
    rw [exec_clearLine_taken hs hr hm hstep, hanswered]
    generalize clearLine (popDirective s) = v at *
    obtain ⟨hchain, hcanes, hdischarge⟩ := hplaces
    obtain ⟨hslots, harm, hact, hgap⟩ := hlots
    refine ⟨_, rfl, hchain, hcanes, hdischarge, hslots, harm, hact, hgap, hpacer, heval, hrest, fun hroom => ?_,
      hsequencer, ?_⟩
    · simp only [hp, List.dropLast_concat]
      exact hreports hroom
    · simp only [hp, List.getLast?_append, List.getLast?_singleton]
      rfl

end Sys2Proof.Machine
end

section
/-!
SUPPORT. What the knife, the chain step and the length totals can do in one row, said once: the moves of the works, and
for every shared operation and every row that it makes moves only. Each law of R29, R32, R33, R55, R58, R60 and R44 is
then a fact about the moves.
-/

namespace Sys2Proof.Machine

/-! ## The works and their moves -/

/-- What the laws of fire, step and totals read of a state: the fire in flight with the knife timer, A and the three
totals, whether the station holds a record, and the step in flight with its timer. -/
structure Works where
  fire : Option Fire
  knifeTimer : Timer
  acc : Nat
  extruded : Nat
  hung : Nat
  waste : Nat
  occupied : Bool
  step : Option StepInFlight
  stepTimer : Timer

/-- The works of a state. -/
def State.works (s : State) : Works :=
  { fire := s.pacer.fire?, knifeTimer := s.pacer.knifeTimer, acc := s.pacer.acc, extruded := s.pacer.extruded,
    hung := s.pacer.hung, waste := s.pacer.waste, occupied := s.chain.station.isSome, step := s.chain.step?,
    stepTimer := s.chain.stepTimer }

/-- One change of the works. -/
inductive Works.Move (w : Works) : Works → Prop where
  /-- A fire is sent: with the station empty and no step in flight (R29, R31). -/
  | fireSent (f : Fire) (idle : w.fire = none) (fresh : f.acknowledged = false) (empty : w.occupied = false)
      (still : w.step = none) : Move w { w with fire := some f }
  /-- The fire in flight is acknowledged and the knife timer starts (R32). -/
  | fireAcknowledged (f : Fire) (e : Nat) (flying : w.fire = some f) :
      Move w { w with fire := some { f with acknowledged := true }, knifeTimer := .running e }
  /-- No fire is in flight any more and the knife timer is stopped (R34, R35, R45). -/
  | fireEnded : Move w { w with fire := none, knifeTimer := .stopped }
  /-- The whole of A goes to the hung total (R35). -/
  | curtainHung : Move w { w with acc := 0, hung := addTotal w.hung w.acc }
  /-- The whole of A goes to the waste total (R35, R39). -/
  | curtainWasted : Move w { w with acc := 0, waste := addTotal w.waste w.acc }
  /-- A record is placed in the station, with no fire in flight (R36, R67). -/
  | recordPlaced (idle : w.fire = none) : Move w { w with occupied := true }
  /-- The station is emptied, with no step in flight (R61, R70). -/
  | stationEmptied (still : w.step = none) : Move w { w with occupied := false }
  /-- A step is sent for the record in the station (R58). -/
  | stepSent (st : StepInFlight) (full : w.occupied = true) (still : w.step = none) :
      Move w { w with step := some st }
  /-- The step in flight is acknowledged or sent again (R59). -/
  | stepRenewed (st : StepInFlight) (going : w.step.isSome = true) : Move w { w with step := some st }
  /-- The step timer starts for the step in flight (R59, R72). -/
  | stepTimed (e : Nat) (going : w.step.isSome = true) : Move w { w with stepTimer := .running e }
  /-- No step is in flight any more and the step timer is stopped (R59, R60, R61). -/
  | stepEnded : Move w { w with step := none, stepTimer := .stopped }

/-- Some changes of the works, one after another. -/
abbrev Works.Moves : Works → Works → Prop := Relation.ReflTransGen Works.Move

/-- The works with an increment of the curtain integrated, as far as it fits (R25, R44). -/
def Works.fed (w : Works) (increment : Nat) : Works :=
  { w with acc := w.acc + addedLength w.acc increment,
           extruded := addTotal w.extruded (addedLength w.acc increment) }

/-- What one row can make of the works: at most one integration, and then moves. -/
def Works.Row (w w' : Works) : Prop := ∃ v, (v = w ∨ ∃ increment, v = w.fed increment) ∧ Works.Moves v w'

/-- The works go from `s` to `t` by moves. -/
def State.MovesTo (s t : State) : Prop := Works.Moves s.works t.works

namespace State.MovesTo

theorem refl (s : State) : s.MovesTo s := Relation.ReflTransGen.refl

theorem trans {s t u : State} (h : s.MovesTo t) (k : t.MovesTo u) : s.MovesTo u := Relation.ReflTransGen.trans h k

/-- A state with the same works has moved nowhere. -/
theorem of_eq {s t : State} (h : t.works = s.works) : s.MovesTo t := by rw [MovesTo, h]

theorem of_move {s t : State} (h : s.works.Move t.works) : s.MovesTo t := .single h

/-- A fold of operations that make moves makes moves. -/
theorem foldl {β : Type} {f : State → β → State} (h : ∀ (u : State) (b : β), u.MovesTo (f u b)) (bs : List β) (s : State) :
    s.MovesTo (bs.foldl f s) := by
  induction bs generalizing s with
  | nil => exact refl s
  | cons b bs ih => exact (h s b).trans (ih _)

/-- An operation made on a condition makes its own moves, or none. -/
theorem ite {c : Prop} [Decidable c] {s t : State} (h : s.MovesTo t) : s.MovesTo (if c then t else s) := by
  split
  · exact h
  · exact refl s

end State.MovesTo

/-- The works are read from the pacer and the chain controller alone. -/
theorem works_congr {s t : State} (hp : t.pacer = s.pacer) (hc : t.chain = s.chain) : t.works = s.works := by
  rw [State.works, State.works, hp, hc]

/-! ## Operations that leave the works -/

@[simp] theorem State.hand_works (s : State) (e : Instr) : (s.hand e).works = s.works := rfl

@[simp] theorem State.took_works (s : State) (e : Instr) : (s.took e).works = s.works := rfl

@[simp] theorem State.setPort_works (s : State) (p : Port) : (s.setPort p).works = s.works := rfl

@[simp] theorem State.setDrying_works (s : State) (d : Drying) : (s.setDrying d).works = s.works := rfl

@[simp] theorem State.setDischarge_works (s : State) (d : Discharge) : (s.setDischarge d).works = s.works := rfl

@[simp] theorem State.setSequencer_works (s : State) (q : Sequencer) : (s.setSequencer q).works = s.works := rfl

@[simp] theorem State.setSlot_works (s : State) (r : Nat) (x : Slot) : (s.setSlot r x).works = s.works := rfl

@[simp] theorem State.setZone_works (s : State) (k : Nat) (z : ZoneState) : (s.setZone k z).works = s.works := rfl

@[simp] theorem State.setLoss_works (s : State) (k : Nat) (t : LatchTimer) (m : Bool) :
    (s.setLoss k t m).works = s.works := rfl

@[simp] theorem handFrame_works (dest : Nat) (body : FrameBody) (s : State) :
    (handFrame dest body s).works = s.works := works_congr (by simp) (by simp)

@[simp] theorem queueReport_works (r : Report) (s : State) : (queueReport r s).works = s.works :=
  works_congr (by simp) (by simp)

@[simp] theorem freeIfRetired_works (i : Nat) (s : State) : (freeIfRetired i s).works = s.works :=
  works_congr (by simp) (by simp)

@[simp] theorem releaseRef_works (i : Nat) (s : State) : (releaseRef i s).works = s.works :=
  works_congr (by simp) (by simp)

@[simp] theorem raiseRef_works (i : Nat) (s : State) : (raiseRef i s).works = s.works :=
  works_congr (by simp) (by simp)

@[simp] theorem queuePressCommand_works (s : State) : (queuePressCommand s).works = s.works :=
  works_congr (by simp) (by simp)

@[simp] theorem raiseFault_works (c : FaultCode) (d : Nat) (s : State) : (raiseFault c d s).works = s.works :=
  works_congr (by simp) (by simp)

@[simp] theorem speedLostTest_works (s : State) : (speedLostTest s).works = s.works :=
  works_congr (by simp) (by simp)

/-- An entry to RUNNING sets the purge-pending flag, which the works do not hold (R41). -/
@[simp] theorem enterMode_works (m : LineMode) (r : ModeReason) (s : State) : (enterMode m r s).works = s.works := by
  have core : (enterModeCore m r none s).works = s.works := works_congr (by simp) (by simp)
  unfold enterMode
  cases m with
  | running => exact (works_congr (activateArmed_pacer _) (activateArmed_chain _)).trans core
  | priming => exact (speedLostTest_works _).trans core
  | stopped => exact core
  | holding => exact core
  | draining => exact core
  | safe => exact core

@[simp] theorem refreshDemand_works (k : Nat) (s : State) : (refreshDemand k s).works = s.works :=
  works_congr (by simp) (by simp)

@[simp] theorem queueAirDir_works (k : Nat) (s : State) : (queueAirDir k s).works = s.works :=
  works_congr (by simp) (by simp)

@[simp] theorem startAirTimer_works (k : Nat) (s : State) : (startAirTimer k s).works = s.works :=
  works_congr (by simp) (by simp)

@[simp] theorem climateSlotLost_works (k : Nat) (s : State) : (climateSlotLost k s).works = s.works :=
  works_congr (by simp) (by simp)

@[simp] theorem climateSlotBack_works (k : Nat) (s : State) : (climateSlotBack k s).works = s.works :=
  works_congr (by simp) (by simp)

@[simp] theorem climateCheck_works (s : State) : (climateCheck s).works = s.works :=
  works_congr (by simp) (by simp)

/-- A loss clears the last arrival tick or the revolution baseline, which the works do not hold (R148). -/
@[simp] theorem reportLoss_works (role : Nat) (s : State) : (reportLoss role s).works = s.works := by
  rw [reportLoss]
  split
  · exact speedLostTest_works _
  split
  · rfl
  split
  · exact climateSlotLost_works _ s
  split
  · rw [climateSlotLost_works]; split <;> simp
  · rfl

@[simp] theorem makeLost_works (role : Nat) (s : State) : (makeLost role s).works = s.works := by
  rcases makeLost_cases role s with ⟨-, h⟩ | ⟨-, h⟩ <;> simp [h]

/-! ## The evaluations and the insertion (R30, R56, R67) -/

/-- A pacer state without a fire leaves the works of a pacer without one. -/
theorem setPacerState_works {s : State} {st : PacerState} (hs : s.pacer.fire? = none) (hst : ∀ f, st ≠ .firing f) :
    (setPacerState st s).works = s.works := by
  have h : (setPacerState st s).pacer.fire? = none := by
    cases st with
    | firing f => exact absurd rfl (hst f)
    | idle => rfl
    | forming => rfl
    | blocked => rfl
  rw [State.works, h, State.works, hs]
  rfl

theorem evaluateFire_movesTo (s : State) : s.MovesTo (evaluateFire s) := by
  rcases evaluateFire_cases s with h | ⟨hw, h⟩
  · rw [h]; exact .refl s
  · have hfire : s.pacer.fire? = none := by rcases hw with hw | hw <;> rw [Pacer.fire?, hw]
    rcases h with h | h | ⟨target, dest, -, -, hi, -, h⟩ <;> rw [h]
    · exact .of_eq (setPacerState_works hfire nofun)
    · exact .of_eq (setPacerState_works hfire nofun)
    · obtain ⟨d, -, hstation, hstep, -⟩ := (failingInterlock_eq_zero_iff s).1 hi
      let f : Fire := { kind := s.fireKind, target := target, acknowledged := false, number := s.nextFrame }
      have hsent : (sendFire target dest s).works = { s.works with fire := some f } := by
        simp [sendFire, State.works, Pacer.fire?, f]
      refine .of_move ?_
      rw [hsent]
      exact .fireSent f hfire rfl (by simp [State.works, hstation]) hstep

/-- A change of the step state between states without a step leaves the works. -/
theorem setStepState_works {s : State} {st : StepState} (hs : s.chain.step? = none) (hst : ∀ x, st ≠ .stepping x) :
    (setStepState st s).works = s.works := by
  have h : (setStepState st s).chain.step? = none := by
    cases st with
    | stepping x => exact absurd rfl (hst x)
    | idle => rfl
    | waitingRoom => rfl
  rw [State.works, h, State.works, hs]
  rfl

/-- An evaluation of the chain controller changes of the works the step, and only where none was in flight and a
record stands in the station. -/
theorem evaluateChain_works (s : State) :
    ∃ st, (evaluateChain s).works = { s.works with step := st } ∧
      (st = s.works.step ∨ s.works.step = none ∧ s.works.occupied = true) := by
  rcases evaluateChain_cases s with ⟨-, h⟩ | ⟨hstep, ⟨-, h⟩ | ⟨c, hc, ⟨-, h⟩ | ⟨-, -, h⟩ | ⟨-, -, dest, -, h⟩⟩⟩ <;> rw [h]
  · exact ⟨s.works.step, rfl, .inl rfl⟩
  · exact ⟨s.works.step, setStepState_works hstep nofun, .inl rfl⟩
  · exact ⟨s.works.step, setStepState_works hstep nofun, .inl rfl⟩
  · exact ⟨s.works.step, setStepState_works hstep nofun, .inl rfl⟩
  · refine ⟨some { loaded := c.isProduct, acknowledged := false, number := s.nextFrame }, ?_,
      .inr ⟨hstep, by simp [State.works, hc]⟩⟩
    simp [sendStep, setStepState, State.works, Chain.step?]

/-- A step that an evaluation may have sent is a move. -/
theorem Works.moves_step {w : Works} {st : Option StepInFlight}
    (h : st = w.step ∨ w.step = none ∧ w.occupied = true) : Works.Moves w { w with step := st } := by
  rcases h with rfl | ⟨hstep, hfull⟩
  · exact .refl
  · cases st with
    | none => rw [← hstep]
    | some st => exact .single (.stepSent st hfull hstep)

theorem evaluateChain_movesTo (s : State) : s.MovesTo (evaluateChain s) := by
  obtain ⟨st, hw, hst⟩ := evaluateChain_works s
  rw [State.MovesTo, hw]
  exact Works.moves_step hst

/-- A record placed fills the station, and a step may be sent for it. -/
theorem placeRecord_works (p : Option Product) (s : State) :
    ∃ st, (placeRecord p s).works = { s.works with occupied := true, step := st } ∧
      (st = s.works.step ∨ s.works.step = none) := by
  obtain ⟨st, hw, hst⟩ := evaluateChain_works (stationed p s)
  exact ⟨st, hw, hst.imp_right And.left⟩

/-- With no fire in flight the placing of a record is a move, and so is the step sent for it. -/
theorem Works.moves_placed {w : Works} {st : Option StepInFlight} (hf : w.fire = none)
    (h : st = w.step ∨ w.step = none) : Works.Moves w { w with occupied := true, step := st } :=
  .head (.recordPlaced hf) (Works.moves_step (w := { w with occupied := true }) (h.imp_right fun h => ⟨h, rfl⟩))

theorem tryInsertion_movesTo (s : State) : s.MovesTo (tryInsertion s) := by
  rcases tryInsertion_cases s with ⟨hdue, h⟩ | ⟨-, h⟩ <;> rw [h]
  · simp only [State.insertionDue, Bool.and_eq_true, Option.isNone_iff_eq_none] at hdue
    obtain ⟨st, hw, hst⟩ := placeRecord_works none { s with chain := { s.chain with drainTimer := .stopped } }
    rw [State.MovesTo, hw]
    exact Works.moves_placed hdue.2 hst
  · exact .refl s

/-! ## The knife's rows (R25, R32 to R45) -/

/-- The end of a fire whose knife timer has been stopped. -/
theorem afterFireEnd_movesTo {s u : State} (h : Works.Moves s.works { u.works with fire := none }) :
    s.MovesTo (afterFireEnd u) := by
  have hrest : (setPacerState u.restState u).works = { u.works with fire := none } := by
    rw [State.restState]
    split <;> rfl
  refine State.MovesTo.trans (t := setPacerState u.restState u) ?_
    ((evaluateFire_movesTo _).trans (tryInsertion_movesTo _))
  rw [State.MovesTo, hrest]
  exact h

theorem miss_movesTo (s : State) : s.MovesTo (miss s) := by
  refine afterFireEnd_movesTo ?_
  split <;> exact .single .fireEnded

theorem takeFireOutcome_movesTo (n : Nat) (o : FrameOutcome) (s : State) : s.MovesTo (takeFireOutcome n o s) := by
  rw [takeFireOutcome]
  split
  case h_1 => exact .refl s
  case h_2 f hf =>
    split
    · exact .refl s
    split
    · split
      · exact .refl s
      · exact .of_move (.fireAcknowledged f _ hf)
    · exact miss_movesTo s
    · exact miss_movesTo s

theorem cancelFire_movesTo (s : State) : s.MovesTo (cancelFire s) := by
  rw [cancelFire]
  split
  · exact afterFireEnd_movesTo (.single .fireEnded)
  · exact .refl s

@[simp] theorem settleWatch_works (v : Nat) (s : State) : (settleWatch v s).works = s.works := by
  rw [settleWatch]; split <;> rfl

@[simp] theorem overlengthCheck_works (s : State) : (overlengthCheck s).works = s.works := by
  rw [overlengthCheck]; split <;> rfl

/-- A speed arrival integrates, unless it is the first, and evaluates (R24, R25). -/
theorem takeSpeed_row (v tick : Nat) (s : State) : s.works.Row (takeSpeed v tick s).works := by
  rw [takeSpeed]
  split
  case h_1 => exact ⟨_, .inl rfl, by rw [settleWatch_works]; exact .refl⟩
  case h_2 last _ =>
    refine ⟨_, .inr ⟨s.pacer.lastSpeed * elapsedTicks last tick, rfl⟩, ?_⟩
    exact (State.MovesTo.of_eq (s := s.setPacer (s.pacer.integrate last v tick)) (by simp)).trans
      (evaluateFire_movesTo _)

/-- A mode change leaves a fire in flight, and moves a pacer without one between states without one (R28). -/
theorem pacerFollowsMode_movesTo (new : LineMode) (s : State) : s.MovesTo (pacerFollowsMode new s) := by
  rw [pacerFollowsMode]
  split
  · refine State.MovesTo.trans ?_ (evaluateFire_movesTo _)
    split
    case isTrue h => exact .of_eq (setPacerState_works (by rw [Pacer.fire?, h]) nofun)
    case isFalse => exact .refl s
  · split
    case isTrue h =>
      refine .of_eq (setPacerState_works ?_ nofun)
      rcases h with h | h <;> rw [Pacer.fire?, h]
    case isFalse => exact .refl s

@[simp] theorem settleModeChange_works (old new : LineMode) (s : State) :
    (settleModeChange old new s).works = s.works := by
  rw [settleModeChange]; (repeat' split) <;> rfl

/-! ## Cuts (R35 to R40) -/

/-- The curtain's length goes to the total of the cut's disposition, and the knife timer stops (R35). -/
theorem closeCurtain_moves (kind : FireKind) (s : State) :
    Works.Moves s.works { (s.setPacer (s.pacer.closeCurtain kind)).works with fire := none } := by
  cases kind with
  | hang => exact .head .curtainHung (.single .fireEnded)
  | gap => exact .head .curtainWasted (.single .fireEnded)
  | purge => exact .head .curtainWasted (.single .fireEnded)

/-- The record that a cut places fills the station of a pacer whose fire has ended. -/
theorem cutPlaced_moves (f : Fire) (length : Nat) (s : State) :
    Works.Moves { s.works with fire := none } { (cutPlaced f length s).works with fire := none } := by
  have placed (p : Option Product) (u : State) :
      Works.Moves { u.works with fire := none } { (placeRecord p u).works with fire := none } := by
    obtain ⟨st, hw, hst⟩ := placeRecord_works p u
    rw [hw]
    exact Works.moves_placed rfl hst
  unfold cutPlaced hangCane
  cases f.kind with
  | hang =>
    cases s.lots.active with
    | none => exact .refl
    | some a => exact placed _ (raiseRef a s)
  | gap => exact placed none s
  | purge => exact .refl

/-- What the hand-over of a cut sets beside the record placed is not in the works (R37, R38). -/
theorem cutHandled_works (f : Fire) (s : State) :
    (cutHandled f s).works =
      (cutPlaced f (roundedLength s.pacer.acc) (s.setPacer (s.pacer.closeCurtain f.kind))).works := by
  unfold cutHandled handOverCut cutPlaced
  cases f.kind <;> rfl

@[simp] theorem switchTest_works (s : State) : (switchTest s).works = s.works := by
  rw [switchTest]
  split
  case h_1 new old _ _ =>
    split
    · obtain ⟨-, hc, -⟩ := switchLots_places old new s
      rw [State.works, hc, (switchLots_frame old new s).2]
      rfl
    · rfl
  case h_2 => rfl

theorem completeCut_movesTo (f : Fire) (s : State) : s.MovesTo (completeCut f s) := by
  rw [completeCut_eq]
  refine afterFireEnd_movesTo ?_
  rw [switchTest_works, cutHandled_works]
  exact (closeCurtain_moves f.kind s).trans (cutPlaced_moves f _ _)

theorem unexpectedCuts_movesTo (n : Nat) (s : State) : s.MovesTo (unexpectedCuts n s) := by
  refine State.MovesTo.trans ?_ (evaluateFire_movesTo _)
  rw [State.MovesTo, queueReport_works]
  exact .single .curtainWasted

theorem takeKnifeCount_movesTo (n : Nat) (s : State) : s.MovesTo (takeKnifeCount n s) := by
  rw [takeKnifeCount]
  split
  · exact .refl s
  split
  · split
    · exact completeCut_movesTo _ s
    · exact (completeCut_movesTo _ s).trans (unexpectedCuts_movesTo _ _)
  · exact unexpectedCuts_movesTo n s

end Sys2Proof.Machine
end

section
/-!
SUPPORT. The moves of the works through every other row, and the laws of fire, step and totals.
-/

namespace Sys2Proof.Machine

/-! ## The chain controller's rows (R59 to R72) -/

theorem afterStepEnd_movesTo (s : State) : s.MovesTo (afterStepEnd s) :=
  (evaluateFire_movesTo s).trans (tryInsertion_movesTo _)

theorem failStep_movesTo (d : Nat) (s : State) : s.MovesTo (failStep d s) :=
  .trans (.of_move .stepEnded) (afterStepEnd_movesTo _)

theorem recommandStep_movesTo {st : StepInFlight} {s : State} (h : s.chain.step? = some st) :
    s.MovesTo (recommandStep st s) := by
  have going : s.works.step.isSome = true := by rw [State.works, h]; rfl
  rw [recommandStep]
  split
  case h_1 dest _ =>
    refine .of_move ?_
    have hsent : (setStepState (.stepping { st with number := s.nextFrame })
        (handFrame dest (.chainStep st.loaded)
          (s.setChain { s.chain with recommands := s.chain.recommands + 1 }))).works =
        { s.works with step := some { st with number := s.nextFrame } } := by
      simp [setStepState, State.works, Chain.step?]
    exact hsent ▸ .stepRenewed _ going
  case h_2 => exact .refl s

theorem takeStepOutcome_movesTo (n : Nat) (o : FrameOutcome) (s : State) : s.MovesTo (takeStepOutcome n o s) := by
  rw [takeStepOutcome]
  split
  case h_1 => exact .refl s
  case h_2 st hst =>
    have going : s.works.step.isSome = true := by rw [State.works, hst]; rfl
    split
    · exact .refl s
    split
    · split
      · exact .refl s
      · exact .head (.stepRenewed { st with acknowledged := true } going) (.single (.stepTimed _ rfl))
    split
    · exact recommandStep_movesTo hst
    · exact failStep_movesTo 1 s

@[simp] theorem departHead_works (c : Cane) (s : State) : (departHead c s).works = s.works := by
  rw [departHead]; split <;> rfl

@[simp] theorem reportDeparture_works (d : Option Cane) (s : State) : (reportDeparture d s).works = s.works := by
  cases d with
  | none => rfl
  | some c => rw [reportDeparture]; split <;> simp

/-- The station's record has left it. -/
theorem stationJoins_works (s : State) : (stationJoins s).works = { s.works with occupied := false } := by
  cases hc : s.chain.station with
  | none => simp [stationJoins, State.works, hc]
  | some c =>
    simp only [stationJoins, hc, State.works]
    rfl

theorem endStep_works (s : State) : (endStep s).works = { s.works with step := none, stepTimer := .stopped } := by
  rw [endStep]; split <;> rfl

/-- A step-done ends the step and empties the station, before anything evaluates (R61). -/
theorem stepDone_movesTo (s : State) : s.MovesTo (stepDone s) := by
  simp only [stepDone]
  refine State.MovesTo.trans ?_ (.of_eq ((climateCheck_works _).trans (reportDeparture_works _ _)))
  refine State.MovesTo.trans ?_ (afterStepEnd_movesTo _)
  have moved : Works.Moves s.works { s.works with occupied := false, step := none, stepTimer := .stopped } :=
    .head .stepEnded (.single (.stationEmptied rfl))
  rw [State.MovesTo, endStep_works]
  split
  · rw [departHead_works, stationJoins_works]; exact moved
  · rw [stationJoins_works]; exact moved

theorem takeChainCount_movesTo (n : Nat) (s : State) : s.MovesTo (takeChainCount n s) := by
  rw [takeChainCount]
  split
  · exact .refl s
  split
  · split
    · exact stepDone_movesTo s
    · exact stepDone_movesTo s
  · exact .refl s

@[simp] theorem indexEvent_works (s : State) : (indexEvent s).works = s.works := by
  rw [indexEvent]; split <;> rfl

@[simp] theorem drainModeChange_works (old new : LineMode) (s : State) : (drainModeChange old new s).works = s.works := by
  rw [drainModeChange]; (repeat' split) <;> rfl

/-! ## The other blocks' rows -/

@[simp] theorem orderHead_works (s : State) : (orderHead s).works = s.works := by
  rw [orderHead]
  split
  · split
    · exact handFrame_works _ _ s
    · rfl
  · rfl

@[simp] theorem takeOrderOutcome_works (q : Nat) (o : FrameOutcome) (s : State) :
    (takeOrderOutcome q o s).works = s.works := by
  rw [takeOrderOutcome]; (repeat' split) <;> rfl

@[simp] theorem strayEvents_works (n : Nat) (s : State) : (strayEvents n s).works = s.works := queueReport_works _ s

theorem completeHead_movesTo (e : DischargeEntry) (rest : List DischargeEntry) (s : State) :
    s.MovesTo (completeHead e rest s) := by
  rw [completeHead_eq]
  exact (State.MovesTo.of_eq (by simp [headGone])).trans (evaluateChain_movesTo _)

theorem takeStripperCount_movesTo (n : Nat) (s : State) : s.MovesTo (takeStripperCount n s) := by
  rw [takeStripperCount]
  split
  · exact .refl s
  split
  · split
    · split
      · exact completeHead_movesTo _ _ s
      · exact (completeHead_movesTo _ _ s).trans (.of_eq (strayEvents_works _ _))
    · exact .of_eq (strayEvents_works n s)
  · exact .of_eq (strayEvents_works n s)

@[simp] theorem reportExcursion_works (p q : Product) (n : Nat) (s : State) :
    (reportExcursion p q n s).works = s.works := by
  rw [reportExcursion]; split <;> simp

@[simp] theorem takeNumber_works (w : Sweep) (n : Nat) (s : State) : (takeNumber w n s).works = s.works := by
  have visited (pos : Nat) (c : Cane) (p : Product) (v : Sweep) : (visitProduct v pos c p s).works = s.works := by
    rw [visitProduct]
    split
    · exact reportExcursion_works _ _ _ _
    · rfl
  simp only [takeNumber]
  (repeat' split) <;> simp [visited]

@[simp] theorem deriveClimate_works (s : State) : (deriveClimate s).works = s.works :=
  forEach_keeps _ _ (fun k t => by simp [deriveZone, State.setSetpoints]) _ s

@[simp] theorem closeSweep_works (w : Sweep) (s : State) : (closeSweep w s).works = s.works := by simp [closeSweep]

@[simp] theorem startSweep_works (s : State) : (startSweep s).works = s.works := rfl

@[simp] theorem finishSweep_works (w : Sweep) (s : State) : (finishSweep w s).works = s.works := by
  simp only [finishSweep, startAndCloseEmpty]
  (repeat' split) <;> simp

@[simp] theorem onSweepExpiry_works (s : State) : (onSweepExpiry s).works = s.works := by
  simp only [onSweepExpiry]
  (repeat' split) <;> simp

@[simp] theorem configureZones_works (n : Nat) (s : State) : (configureZones n s).works = s.works := by
  rw [configureZones, stopAirTimersFrom, forEach_keeps State.works, forEach_keeps State.works]
  · intro k t
    simp only [configureZone]
    split <;> simp [State.setSetpoints]
  · intro k t
    split <;> rfl

@[simp] theorem restartLossTimers_works (n : Nat) (s : State) : (restartLossTimers n s).works = s.works := by
  rw [restartLossTimers]
  split
  · exact forEach_keeps State.works _ (fun k t => State.setLoss_works t k _ _) _ s
  · exact forEach_keeps State.works _ (fun k t => by split <;> rfl) _ s

/-! ## Arrivals (R143 to R150) and the trunk -/

/-- A gain lets the pacer or the chain controller evaluate (R148). -/
theorem reportGain_movesTo (role : Nat) (s : State) : s.MovesTo (reportGain role s) := by
  rw [reportGain]
  split
  · exact evaluateFire_movesTo s
  split
  · exact evaluateChain_movesTo s
  (repeat' split) <;> exact .of_eq (by simp)

theorem acceptItem_movesTo (role : Nat) (v : Int) (st : SampleStatus) (tick : Nat) (s : State) :
    s.MovesTo (acceptItem role v st tick s) := by
  rw [acceptItem]
  refine State.MovesTo.trans ?_ (.foldl (f := State.hand) (fun u e => .of_eq (u.hand_works e)) _ _)
  split
  · exact (State.MovesTo.of_eq (s := s) (by simp)).trans (reportGain_movesTo role _)
  · exact .refl s

theorem takeItem_movesTo (source tick : Nat) (i : SampleItem) (s : State) : s.MovesTo (takeItem source tick i s) := by
  rw [takeItem]
  split
  · exact .refl s
  split
  · exact acceptItem_movesTo _ _ _ _ s
  split
  · exact acceptItem_movesTo _ _ _ _ s
  · exact .refl s

theorem takeSample_movesTo (source : Nat) (payload : List Byte) (s : State) :
    s.MovesTo (takeSample source payload s) := by
  rw [takeSample]
  split
  · exact .foldl (fun u i => takeItem_movesTo source s.clock i u) _ s
  · exact .refl s

@[simp] theorem cutOffReception_works (cs : List RxChar) (s : State) : (cutOffReception cs s).works = s.works := by
  rw [cutOffReception]; (repeat' split) <;> rfl

theorem endReception_movesTo (cs : List RxChar) (e : ReceptionEnding) (s : State) :
    s.MovesTo (endReception cs e s) := by
  simp only [endReception, takeFrame]
  split
  · exact .refl s
  split
  · exact .refl s
  split
  · exact takeSample_movesTo _ _ (setTrunk .busy .closed s)
  · exact .refl s

@[simp] theorem endFrame_works (o : FrameOutcome) (s : State) : (endFrame o s).works = s.works := by
  rw [endFrame]; split <;> rfl

/-- An outcome row makes moves when its action does. -/
theorem takeOutcome_movesTo {act : State → State} (e : Instr) (h : ∀ u : State, u.MovesTo (act u)) (s : State) :
    s.MovesTo (takeOutcome e act s) := by
  rcases takeOutcome_cases e act s with ⟨-, ht⟩ | ⟨-, ht⟩ <;> rw [ht]
  · exact h (s.took e)
  · exact .refl s

/-! ## Directives -/

/-- Whatever the execution answers, it has taken the state to one that `R` relates it to. -/
def Effects (R : State → State → Prop) (act : List Byte → State → Answer) : Prop :=
  ∀ args u, R u (act args u).state

/-- The same for a table write, given its first index and its entries. -/
def WriteEffects (R : State → State → Prop) (act : Nat → List (List Byte) → State → Answer) : Prop :=
  ∀ first es u, R u (act first es u).state

section Effects

variable {R : State → State → Prop}

/-- The length test refuses or goes on (R169). -/
theorem effects_withLength {n : Nat} {act : List Byte → State → Answer} (refl : ∀ u, R u u) (h : Effects R act) :
    Effects R (withLength n act) := by
  intro args u
  rw [withLength]
  split
  · exact h args u
  · exact refl u

/-- The slot number test refuses or goes on (R5). -/
theorem effects_withSlot {act : List Byte → Nat → State → Answer} (refl : ∀ u, R u u)
    (h : ∀ args i u, R u (act args i u).state) : Effects R (fun args => withSlot (act args) args) := by
  intro args u
  change R u (withSlot (act args) args u).state
  rw [withSlot]
  split
  · exact h args _ u
  · exact refl u

/-- The tests of a MODE directive refuse or go on (R126). -/
theorem effects_modeFrom {taken : LineMode → Bool} {act : State → Answer} (refl : ∀ u, R u u)
    (h : ∀ u, R u (act u).state) : Effects R (modeFrom taken act) := by
  intro args u
  rw [modeFrom]
  split
  · exact refl u
  split
  · exact h u
  · exact refl u

/-- The length and range tests of a table write refuse or go on (R169, R173). -/
theorem effects_withEntries {t : TableId} {act : Nat → List (List Byte) → State → Answer} (refl : ∀ u, R u u)
    (h : WriteEffects R act) : Effects R (withEntries t act) := by
  intro args u
  rw [withEntries]
  split
  · exact h _ _ u
  · exact refl u

theorem writeEffects_withRange {t : TableId} {act : Nat → List (List Byte) → State → Answer} (refl : ∀ u, R u u)
    (h : WriteEffects R act) : WriteEffects R (withRange t act) := by
  intro first es u
  rw [withRange]
  split
  · exact h first es u
  · exact refl u

/-- The mode test of LISTEN and TALK refuses or goes on (R142, R152). -/
theorem writeEffects_withModes {act : Nat → List (List Byte) → State → Answer} (refl : ∀ u, R u u)
    (h : WriteEffects R act) : WriteEffects R (withModes act) := by
  intro first es u
  rw [withModes]
  split
  · exact h first es u
  · exact refl u

/-- The zone count test of ZONE refuses or goes on (R52). -/
theorem writeEffects_withZoneCountZero {act : Nat → List (List Byte) → State → Answer} (refl : ∀ u, R u u)
    (h : WriteEffects R act) : WriteEffects R (withZoneCountZero act) := by
  intro first es u
  rw [withZoneCountZero]
  split
  · exact h first es u
  · exact refl u

end Effects

/-- A directive row makes the moves of its execution: the queue and the response are not in the works. -/
theorem runDirective_movesTo {d : Directive} {gap : Bool} {act : List Byte → State → Answer}
    (h : Effects State.MovesTo act) (s : State) : s.MovesTo (runDirective d gap act s) := by
  rcases runDirective_cases d gap act s with ⟨-, hr⟩ | ⟨-, hr⟩ <;> rw [hr]
  · exact (h d.args (popDirective s)).trans (.of_eq (handFrame_works _ _ _))
  · exact .refl s

/-! ### The reading, lot and mark directives -/

theorem readTable_movesTo : Effects State.MovesTo readTableAnswer := by
  intro args u
  simp only [readTableAnswer, readKnownTable, readLot]
  (repeat' split) <;> exact .refl u

theorem readCane_movesTo : Effects State.MovesTo readCaneAnswer := by
  intro args u
  simp only [readCaneAnswer, readBySequence, readByPosition]
  (repeat' split) <;> exact .refl u

theorem readStatus_movesTo : Effects State.MovesTo readStatusAnswer := by
  intro args u
  rw [readStatusAnswer]
  split <;> exact .refl u

/-- A mark leaves the station's record in its place (R68). -/
theorem markCanes_movesTo : Effects State.MovesTo markCanesAnswer := by
  intro args u
  simp only [markCanesAnswer]
  split
  · exact .refl u
  · exact .of_eq (by simp [markRecords, State.works, Chain.step?])

theorem openLot_movesTo (h : Option LotHeader) (i : Nat) (u : State) : u.MovesTo (openLot h i u).state := by
  unfold openLot
  (repeat' split) <;> exact .refl u

theorem appendStage_movesTo (g : Stage) (i : Nat) (u : State) : u.MovesTo (appendStage g i u).state := by
  rw [appendStage]
  (repeat' split) <;> exact .refl u

theorem sealLot_movesTo (i : Nat) (u : State) : u.MovesTo (sealLot i u).state := by
  rw [sealLot]
  (repeat' split) <;> exact .refl u

theorem discardLot_movesTo (i : Nat) (u : State) : u.MovesTo (discardLot i u).state := by
  rw [discardLot]
  split <;> exact .refl u

theorem armLot_movesTo (b : Nat) (u : State) : u.MovesTo (armLot b u).state := by
  rw [armLot]
  (repeat' split) <;> exact .refl u

/-- With no step in flight the line is emptied, and both evaluate (R70). -/
theorem clearLine_movesTo : Effects State.MovesTo clearLineAnswer := by
  intro args u
  rw [clearLineAnswer]
  split
  · exact .refl u
  split
  · exact .refl u
  case isFalse h =>
    have still : u.works.step = none := by simpa [State.works] using h
    have emptied : (lineEmptied u).works = { u.works with occupied := false } := by
      rw [State.works, lineEmptied_pacer, (lineEmptied_places u).1]
      rfl
    have hclear : clearLine u = evaluateFire (evaluateChain (lineEmptied u)) := by rw [lineEmptied_eq]; rfl
    rw [doneWith_state, hclear]
    refine State.MovesTo.trans ?_ ((evaluateChain_movesTo _).trans (evaluateFire_movesTo _))
    rw [State.MovesTo, emptied]
    exact .single (.stationEmptied still)

/-! ### The modes and the faults -/

theorem enterPriming_movesTo (u : State) : u.MovesTo (enterPriming u).state := by
  rw [enterPriming]
  (repeat' split) <;> exact .of_eq (by simp [enterByDirective])

theorem enterRunning_movesTo (u : State) : u.MovesTo (enterRunning u).state := by
  rw [enterRunning]
  (repeat' split) <;> exact .of_eq (by simp [enterByDirective])

theorem enterDraining_movesTo (u : State) : u.MovesTo (enterDraining u).state := by
  simp only [enterDraining, doneWith_state]
  split <;> exact .of_eq (by simp)

theorem enterStopped_movesTo (u : State) : u.MovesTo (enterStopped u).state := by
  rw [enterStopped]
  (repeat' split) <;> exact .of_eq (by simp [enterByDirective])

theorem enterSafe_movesTo (u : State) : u.MovesTo (enterSafe u).state := by
  rw [enterSafe]
  split <;> exact .of_eq (by simp [enterByDirective])

theorem leaveSafe_movesTo (u : State) : u.MovesTo (leaveSafe u).state := by
  rw [leaveSafe]
  split <;> exact .of_eq (by simp [enterByDirective])

theorem ackFault_movesTo (b : Nat) (u : State) : u.MovesTo (ackFaultCode b u).state := by
  rw [ackFaultCode]
  (repeat' split) <;> exact .refl u

/-! ### The table writes -/

theorem writeListen_movesTo : WriteEffects State.MovesTo writeListen := by
  intro first es u
  rw [writeListen]
  split
  · exact .refl u
  split
  · exact .of_eq (forEach_keeps State.works _ (fun k t => makeLost_works _ t) _ _)
  · exact .refl u

/-- A TALK write lets the pacer and the chain controller evaluate (R152). -/
theorem writeTalk_movesTo : WriteEffects State.MovesTo writeTalk := by
  intro first es u
  rw [writeTalk]
  split
  case h_1 => exact .refl u
  case h_2 new _ =>
    let t : State := { u with signals := { u.signals with talk := replaced u.signals.talk first new } }
    have stored : u.MovesTo t := .of_eq rfl
    exact stored.trans ((State.MovesTo.ite (evaluateFire_movesTo t)).trans (.ite (evaluateChain_movesTo _)))

theorem writeZone_movesTo : WriteEffects State.MovesTo writeZone := by
  intro first es u
  unfold writeZone
  cases parseAll parseZone es <;> exact .refl u

/-- A ZONE_COUNT write ends in an evaluation of the chain controller (R53, R57). -/
theorem writeZoneCount_movesTo (n : Nat) (u : State) : u.MovesTo (writeZoneCount n u).state := by
  rw [writeZoneCount]
  split
  · exact .refl u
  split
  · exact .refl u
  split
  · exact .refl u
  split
  · exact State.MovesTo.trans (.of_eq (by simp; rfl)) (evaluateChain_movesTo _)
  · exact .refl u

theorem writeMeq_movesTo : WriteEffects State.MovesTo writeMeq := by
  intro first es u
  unfold writeMeq
  cases parseAll parseMeq es <;> exact .refl u

theorem writeModel_movesTo (entry : List Byte) (u : State) : u.MovesTo (writeModel entry u).state := by
  unfold writeModel
  cases parseModel entry <;> exact .refl u

theorem writePacer_movesTo (entry : List Byte) (u : State) : u.MovesTo (writePacer entry u).state := by
  unfold writePacer
  cases parsePacer entry <;> exact .refl u

theorem writeLine_movesTo (entry : List Byte) (u : State) : u.MovesTo (writeLine entry u).state := by
  unfold writeLine
  cases parseLine u.port.node entry <;> exact .refl u

end Sys2Proof.Machine
end

section
/-!
SUPPORT. What every row makes of the works, and the obligations about fire, step and totals.
-/

namespace Sys2Proof.Machine

/-! ## Every row -/

/-- A row makes at most one integration and then moves; CLEAR_TOTALS and a power-on reset are apart. -/
theorem exec_row {c : Instr} {s t : State} (hclear : ∀ r, c ≠ .clearTotals r) (hpower : ∀ x, c ≠ .powerOnReset x)
    (ht : exec c s = .next t) : s.works.Row t.works := by
  -- a row that makes moves
  have moves {u : State} (hu : (.next u : Host.Outcome State Fault Refusal) = .next t) (h : s.MovesTo u) :
      s.works.Row t.works := of_next (P := fun v => s.works.Row v.works) hu ⟨_, .inl rfl, h⟩
  -- a row that leaves the works
  have same {u : State} (hu : (.next u : Host.Outcome State Fault Refusal) = .next t) (h : u.works = s.works) :
      s.works.Row t.works := moves hu (.of_eq h)
  -- a directive row
  have dir {d : Directive} {gap : Bool} {act : List Byte → State → Answer}
      (hu : (.next (runDirective d gap act s) : Host.Outcome State Fault Refusal) = .next t)
      (h : Effects State.MovesTo act) : s.works.Row t.works := moves hu (runDirective_movesTo h s)
  have refused : Effects State.MovesTo (fun _ => refuse .badForm) := fun _ => .refl
  cases c with
  | powerOnReset straps => exact absurd rfl (hpower straps)
  | trunkReset =>
    refine same ht ?_
    split
    · rfl
    · exact (foldl_keeps State.works State.hand State.hand_works _ _).trans (s.setPort_works _)
  | signalUnitTrunkReset => exact same ht (forEach_keeps State.works _ (fun _ _ => makeLost_works _ _) 32 _)
  | pacerTrunkReset => exact moves ht (cancelFire_movesTo (s.took _))
  | chainTrunkReset =>
    refine moves ht ?_
    split
    case h_1 st hst =>
      split
      · exact .refl s
      · exact .of_move (.stepTimed _ (by rw [State.works]; exact Option.isSome_of_eq_some hst))
    case h_2 => exact .refl s
  | dischargeTrunkReset => exact same ht rfl
  | lineSequencerTrunkReset =>
    refine same ht ?_
    rw [State.setSequencer_works]
    split <;> simp
  | agentTrunkReset => exact same ht rfl
  | idleGap received =>
    refine same ht ?_
    split
    · rfl
    · exact cutOffReception_works received s
  | receptionEnd received ending => exact moves ht (endReception_movesTo received ending s)
  | directiveAcknowledge received => exact same ht (by (repeat' split) <;> rfl)
  | frameDraw => exact same ht (by split <;> rfl)
  | claimLost => exact same ht (by (repeat' split) <;> rfl)
  | transmissionBroken => exact same ht (endFrame_works _ s)
  | acknowledgeSlotOutcome dominant => exact same ht (endFrame_works _ s)
  | knifeFireOutcome f o => exact moves ht (takeOutcome_movesTo _ (takeFireOutcome_movesTo _ o) s)
  | chainStepOutcome f o => exact moves ht (takeOutcome_movesTo _ (takeStepOutcome_movesTo _ o) s)
  | pressCmdOutcome f run o =>
    exact moves ht (takeOutcome_movesTo _ (fun u => .of_eq (by rw [takePressOutcome]; split <;> rfl)) s)
  | zoneCommandOutcome f o => exact moves ht (takeOutcome_movesTo _ .refl s)
  | stripOrderOutcome f q o =>
    exact moves ht (takeOutcome_movesTo _ (fun u => .of_eq (takeOrderOutcome_works q o u)) s)
  | managementFrameOutcome f o => exact moves ht (takeOutcome_movesTo _ .refl s)
  | speedArrival v tick =>
    exact of_next (P := fun u => s.works.Row u.works) ht (takeSpeed_row v tick (s.took (.speedArrival v tick)))
  | spreaderStateArrival v =>
    refine moves ht ?_
    split
    · exact evaluateFire_movesTo (s.took _)
    · exact .refl s
  | knifeCountEvents n => exact moves ht (takeKnifeCount_movesTo n (s.took _))
  | knifeTimerExpiry => exact moves ht (.ite (miss_movesTo s))
  | settleTimerExpiry => exact same ht (by split <;> rfl)
  | pacerModeChange old new =>
    exact moves ht (.trans (.of_eq (by simp)) (pacerFollowsMode_movesTo new _))
  | chainModeChange old new =>
    refine moves ht (State.MovesTo.trans ?_ (.ite (evaluateChain_movesTo _)))
    exact .of_eq (drainModeChange_works old new _)
  | chainCountEvents n => exact moves ht (takeChainCount_movesTo n (s.took _))
  | chainIndexEvents n => exact same ht (forEach_keeps State.works _ (fun _ => indexEvent_works) n _)
  | stepTimerExpiry => exact moves ht (.ite (failStep_movesTo 2 s))
  | drainTimerExpiry =>
    refine moves ht (.ite ?_)
    exact (tryInsertion_movesTo (s.setChain { s.chain with drainTimer := .expired })).trans (evaluateChain_movesTo _)
  | stripperStateArrival v => exact same ht (by split <;> simp)
  | stripperCountEvents n => exact moves ht (takeStripperCount_movesTo n (s.took _))
  | stallTimerExpiry => exact same ht (by split <;> rfl)
  | pressStateArrival v =>
    refine same ht ?_
    rw [sendOwedCommand]
    (repeat' split) <;> simp
  | zoneRhArrival k => exact same ht (by split <;> simp)
  | staleTimerExpiry role => exact same ht (by rw [staleExpiry]; split <;> rfl)
  | lostTimerExpiry role => exact same ht (by rw [lostExpiry]; split <;> simp)
  | climateLossTimerExpiry k => exact same ht (by split <;> simp)
  | airTimerExpiry k => exact same ht (by split <;> simp [alternateAir])
  | sweepTimerExpiry => exact same ht (by split <;> simp)
  | caneVisit => exact same ht (by (repeat' split) <;> simp)
  | sweepEnd => exact same ht (by (repeat' split) <;> simp)
  | faultRaise code d => exact same ht (raiseFault_works code d _)
  | readTable r => exact dir ht readTable_movesTo
  | writeTableListen r =>
    exact dir ht (effects_withEntries .refl
      (writeEffects_withModes .refl (writeEffects_withRange .refl writeListen_movesTo)))
  | writeTableTalk r =>
    exact dir ht (effects_withEntries .refl
      (writeEffects_withModes .refl (writeEffects_withRange .refl writeTalk_movesTo)))
  | writeTableZone r =>
    exact dir ht (effects_withEntries .refl
      (writeEffects_withZoneCountZero .refl (writeEffects_withRange .refl writeZone_movesTo)))
  | writeTableZoneCount r =>
    exact dir ht (effects_withEntries .refl (writeEffects_withRange .refl fun _ _ => writeZoneCount_movesTo _))
  | writeTableMeq r => exact dir ht (effects_withEntries .refl (writeEffects_withRange .refl writeMeq_movesTo))
  | writeTableKd r => exact dir ht (effects_withEntries .refl (writeEffects_withRange .refl fun _ _ => .refl))
  | writeTableModel r =>
    exact dir ht (effects_withEntries .refl (writeEffects_withRange .refl fun _ _ => writeModel_movesTo _))
  | writeTableGap r => exact dir ht (effects_withEntries .refl (writeEffects_withRange .refl fun _ _ => .refl))
  | writeTablePacer r =>
    exact dir ht (effects_withEntries .refl (writeEffects_withRange .refl fun _ _ => writePacer_movesTo _))
  | writeTableLine r =>
    exact dir ht (effects_withEntries .refl (writeEffects_withRange .refl fun _ _ => writeLine_movesTo _))
  | writeTableUnwritable r =>
    refine moves ht ?_
    split
    · exact .refl s
    · exact runDirective_movesTo (fun args u => by rw [refuseTable]; split <;> exact .refl u) s
  | readCane r => exact dir ht (effects_withLength .refl readCane_movesTo)
  | markCanes r => exact dir ht (effects_withLength .refl markCanes_movesTo)
  | clearLine r => exact dir ht (effects_withLength .refl clearLine_movesTo)
  | lotOpen r => exact dir ht (effects_withLength .refl (effects_withSlot .refl fun _ => openLot_movesTo _))
  | lotStage r => exact dir ht (effects_withLength .refl (effects_withSlot .refl fun _ => appendStage_movesTo _))
  | lotSeal r => exact dir ht (effects_withLength .refl (effects_withSlot .refl fun _ => sealLot_movesTo))
  | lotDiscard r => exact dir ht (effects_withLength .refl (effects_withSlot .refl fun _ => discardLot_movesTo))
  | lotArm r => exact dir ht (effects_withLength .refl fun _ => armLot_movesTo _)
  | modePrime r => exact dir ht (effects_modeFrom .refl enterPriming_movesTo)
  | modeRun r => exact dir ht (effects_modeFrom .refl enterRunning_movesTo)
  | modeHold r => exact dir ht (effects_modeFrom .refl fun u => .of_eq (enterMode_works _ _ u))
  | modeResume r => exact dir ht (effects_modeFrom .refl enterPriming_movesTo)
  | modeDrain r => exact dir ht (effects_modeFrom .refl enterDraining_movesTo)
  | modeStop r => exact dir ht (effects_modeFrom .refl enterStopped_movesTo)
  | modeSafe r => exact dir ht (effects_modeFrom .refl enterSafe_movesTo)
  | modeLeaveSafe r => exact dir ht (effects_modeFrom .refl leaveSafe_movesTo)
  | ackFault r => exact dir ht (effects_withLength .refl fun _ => ackFault_movesTo _)
  | readStatus r => exact dir ht (effects_withLength .refl readStatus_movesTo)
  | readTotals r => exact dir ht (effects_withLength .refl fun _ => .refl)
  | clearTotals r => exact absurd rfl (hclear r)
  | unknownDirective sender payload =>
    refine moves ht ?_
    split
    · exact .refl s
    · exact runDirective_movesTo refused s
  | lineClockTick => exact same ht rfl
  | startMark received =>
    refine same ht ?_
    split
    · rfl
    · exact cutOffReception_works received s
  | dominantRun bits => exact same ht (by split <;> rfl)
  | trunkResetReleased => exact same ht (by split <;> rfl)
  | modeUnknownArgument r =>
    refine moves ht ?_
    split
    · exact .refl s
    · exact runDirective_movesTo (fun args u => by rw [refuseMode]; split <;> exact .refl u) s

/-- CLEAR_TOTALS, taken or waiting, changes of the works at most the three totals (R44). -/
theorem exec_clearTotals_works {r : Request} {s t : State} (ht : exec (.clearTotals r) s = .next t) :
    ∃ e h w, t.works = { s.works with extruded := e, hung := h, waste := w } := by
  have hrefl : ∃ e h w, s.works = { s.works with extruded := e, hung := h, waste := w } := ⟨_, _, _, rfl⟩
  refine of_next (P := fun u => ∃ e h w, u.works = { s.works with extruded := e, hung := h, waste := w }) ht ?_
  rcases runDirective_cases (directiveOf 0x14 [] r) false
    (withLength 0 (fun _ t => doneWith [] { t with pacer := t.pacer.zeroTotals })) s with ⟨-, hr⟩ | ⟨-, hr⟩ <;> rw [hr]
  · rw [respond, handFrame_works, withLength]
    split
    · exact ⟨0, 0, 0, rfl⟩
    · exact hrefl
  · exact hrefl

/-! ## The laws of fire and step (R29, R32, R33, R55, R58, R60) -/

/-- The fire and step law on the works. -/
def Works.FireStep (w : Works) : Prop :=
  (w.fire ≠ none → w.occupied = false ∧ w.step = none) ∧ (w.step ≠ none → w.occupied = true)

/-- The knife timer law on the works. -/
def Works.KnifeTimed (w : Works) : Prop := w.knifeTimer ≠ .stopped ↔ ∃ f, w.fire = some f ∧ f.acknowledged = true

/-- The step timer law on the works. -/
def Works.StepTimed (w : Works) : Prop := w.stepTimer ≠ .stopped → w.step ≠ none

theorem fireStepLaw_iff (s : State) : FireStepLaw s ↔ s.works.FireStep := by
  simp [FireStepLaw, Works.FireStep, State.works, Option.isSome_iff_ne_none]

/-- The fire in flight is the one the pacer state holds (R22). -/
theorem fire?_eq_some_iff (p : Pacer) (f : Fire) : p.fire? = some f ↔ p.state = .firing f := by
  rw [Pacer.fire?]
  cases p.state <;> simp

theorem knifeTimerLaw_iff (s : State) : KnifeTimerLaw s ↔ s.works.KnifeTimed := by
  simp only [KnifeTimerLaw, Works.KnifeTimed, State.works, fire?_eq_some_iff]

theorem stepTimerLaw_iff (s : State) : StepTimerLaw s ↔ s.works.StepTimed := by
  simp [StepTimerLaw, Works.StepTimed, State.works, Option.isSome_iff_ne_none]

theorem Works.Move.keeps_fireStep {w w' : Works} (h : w.Move w') (hw : w.FireStep) : w'.FireStep := by
  obtain ⟨hfire, hstep⟩ := hw
  cases h with
  | fireSent f idle fresh empty still => exact ⟨fun _ => ⟨empty, still⟩, hstep⟩
  | fireAcknowledged f e flying => exact ⟨fun _ => hfire (by simp [flying]), hstep⟩
  | fireEnded => exact ⟨nofun, hstep⟩
  | curtainHung => exact ⟨hfire, hstep⟩
  | curtainWasted => exact ⟨hfire, hstep⟩
  | recordPlaced idle => exact ⟨fun hf => absurd idle hf, fun _ => rfl⟩
  | stationEmptied still => exact ⟨fun hf => ⟨rfl, still⟩, fun hs => absurd still hs⟩
  | stepSent st full still => exact ⟨fun hf => by simp [(hfire hf).1] at full, fun _ => full⟩
  | stepRenewed st going =>
    have full := hstep (Option.isSome_iff_ne_none.1 going)
    exact ⟨fun hf => by simp [(hfire hf).1] at full, fun _ => full⟩
  | stepTimed e going => exact ⟨hfire, hstep⟩
  | stepEnded => exact ⟨fun hf => ⟨(hfire hf).1, rfl⟩, nofun⟩

theorem Works.Move.keeps_knifeTimed {w w' : Works} (h : w.Move w') (hw : w.KnifeTimed) : w'.KnifeTimed := by
  cases h with
  | fireSent f idle fresh empty still =>
    have stopped : ¬ w.knifeTimer ≠ .stopped := fun hn => by simpa [idle] using hw.1 hn
    exact ⟨fun hn => absurd hn stopped, by rintro ⟨g, hg, hack⟩; obtain rfl := Option.some.inj hg; simp [fresh] at hack⟩
  | fireAcknowledged f e flying => exact ⟨fun _ => ⟨_, rfl, rfl⟩, fun _ => nofun⟩
  | fireEnded => exact ⟨fun hn => absurd rfl hn, nofun⟩
  | curtainHung => exact hw
  | curtainWasted => exact hw
  | recordPlaced idle => exact hw
  | stationEmptied still => exact hw
  | stepSent st full still => exact hw
  | stepRenewed st going => exact hw
  | stepTimed e going => exact hw
  | stepEnded => exact hw

theorem Works.Move.keeps_stepTimed {w w' : Works} (h : w.Move w') (hw : w.StepTimed) : w'.StepTimed := by
  cases h with
  | stepSent st full still => exact fun _ => nofun
  | stepRenewed st going => exact fun _ => nofun
  | stepTimed e going => exact fun _ => Option.isSome_iff_ne_none.1 going
  | stepEnded => exact fun hn => absurd rfl hn
  | fireSent f idle fresh empty still => exact hw
  | fireAcknowledged f e flying => exact hw
  | fireEnded => exact hw
  | curtainHung => exact hw
  | curtainWasted => exact hw
  | recordPlaced idle => exact hw
  | stationEmptied still => exact hw

/-- What every move keeps, moves keep. -/
theorem Works.Moves.keeps {P : Works → Prop} (h : ∀ {w w'}, Works.Move w w' → P w → P w') {w w' : Works}
    (hm : Works.Moves w w') (hw : P w) : P w' := by
  induction hm with
  | refl => exact hw
  | tail _ hmove ih => exact h hmove ih

/-- A law of the works that does not read A and the totals, holds at power-on and is kept by every move is kept by every
step. -/
theorem works_law_step {P : Works → Prop} (hmove : ∀ {w w'}, Works.Move w w' → P w → P w')
    (htotals : ∀ w a e h v, P w → P { w with acc := a, extruded := e, hung := h, waste := v })
    (hpower : ∀ x, P (State.powerOn x).works) {s t : State} (ht : step s = .next t) (hs : P s.works) : P t.works := by
  unfold step at ht
  split at ht
  case h_1 => exact of_next (P := fun u => P u.works) ht hs
  case h_2 c rest _ =>
    by_cases hp : ∃ x, c = .powerOnReset x
    · obtain ⟨x, rfl⟩ := hp
      exact of_next (P := fun u => P u.works) ht (hpower x)
    by_cases hc : ∃ r, c = .clearTotals r
    · obtain ⟨r, rfl⟩ := hc
      obtain ⟨e, h, v, hw⟩ := exec_clearTotals_works ht
      rw [hw]
      exact htotals _ _ _ _ _ hs
    · obtain ⟨v, hv, hmoves⟩ := exec_row (fun r h => hc ⟨r, h⟩) (fun x h => hp ⟨x, h⟩) ht
      refine hmoves.keeps hmove ?_
      rcases hv with rfl | ⟨increment, rfl⟩
      · exact hs
      · exact htotals _ _ _ _ _ hs

/-- Settles O53: each of the three laws is one of the works, and every move keeps it. -/
theorem fireAndStepLawIsKept : Obligations.FireAndStepLawIsKept := by
  intro s t ht
  rw [fireStepLaw_iff, fireStepLaw_iff, knifeTimerLaw_iff, knifeTimerLaw_iff, stepTimerLaw_iff, stepTimerLaw_iff]
  exact ⟨works_law_step Works.Move.keeps_fireStep (fun _ _ _ _ _ h => h) (fun _ => ⟨nofun, nofun⟩) ht,
    works_law_step Works.Move.keeps_knifeTimed (fun _ _ _ _ _ h => h) (fun _ => ⟨fun h => absurd rfl h, nofun⟩) ht,
    works_law_step Works.Move.keeps_stepTimed (fun _ _ _ _ _ h => h) (fun _ h => absurd rfl h) ht⟩

/-! ## The balance of the totals (R44) -/

/-- From the totals of `w` the works `v` are in balance, and neither total overflows when A is added to it. -/
structure Works.Balanced (w v : Works) : Prop where
  balance : v.extruded + (w.hung + w.waste + w.acc) = w.extruded + (v.hung + v.waste + v.acc)
  hung_room : v.hung + v.acc < Config.totalModulus
  waste_room : v.waste + v.acc < Config.totalModulus

/-- A moves whole into a total with room for it, and nothing else touches A and the totals. -/
theorem Works.Move.keeps_balanced {w v v' : Works} (h : v.Move v') (hv : w.Balanced v) : w.Balanced v' := by
  obtain ⟨hbal, hhung, hwaste⟩ := hv
  cases h with
  | curtainHung =>
    have hadd : addTotal v.hung v.acc = v.hung + v.acc := if_pos hhung
    refine ⟨?_, ?_, ?_⟩ <;> simp only [hadd] <;> omega
  | curtainWasted =>
    have hadd : addTotal v.waste v.acc = v.waste + v.acc := if_pos hwaste
    refine ⟨?_, ?_, ?_⟩ <;> simp only [hadd] <;> omega
  | fireSent f idle fresh empty still => exact ⟨hbal, hhung, hwaste⟩
  | fireAcknowledged f e flying => exact ⟨hbal, hhung, hwaste⟩
  | fireEnded => exact ⟨hbal, hhung, hwaste⟩
  | recordPlaced idle => exact ⟨hbal, hhung, hwaste⟩
  | stationEmptied still => exact ⟨hbal, hhung, hwaste⟩
  | stepSent st full still => exact ⟨hbal, hhung, hwaste⟩
  | stepRenewed st going => exact ⟨hbal, hhung, hwaste⟩
  | stepTimed e going => exact ⟨hbal, hhung, hwaste⟩
  | stepEnded => exact ⟨hbal, hhung, hwaste⟩

/-- What an integration adds to A it adds to the extruded total, and A stays in its range (R25, R44). -/
theorem balanced_of_inService {s : State} (h : TotalsInService s) {v : Works}
    (hv : v = s.works ∨ ∃ increment, v = s.works.fed increment) : s.works.Balanced v := by
  obtain ⟨hacc, hextruded, hhung, hwaste⟩ := h
  have hs : s.works.Balanced s.works := ⟨rfl, by simp only [State.works]; omega, by simp only [State.works]; omega⟩
  rcases hv with rfl | ⟨increment, rfl⟩
  · exact hs
  · have hle : s.pacer.acc + addedLength s.pacer.acc increment ≤ Config.accMax := by
      simp only [addedLength]; omega
    have hadd : addTotal s.pacer.extruded (addedLength s.pacer.acc increment) =
        s.pacer.extruded + addedLength s.pacer.acc increment := if_pos (by omega)
    refine ⟨?_, ?_, ?_⟩ <;> simp only [Works.fed, State.works, hadd] <;> omega

/-- Settles O58: an integration in service feeds both sides, and every move keeps the balance. -/
theorem totalsLawIsKept : Obligations.TotalsLawIsKept := by
  intro c s t hclear hpower hservice ht
  obtain ⟨v, hv, hmoves⟩ := exec_row hclear hpower ht
  exact (hmoves.keeps Works.Move.keeps_balanced (balanced_of_inService hservice hv)).balance

end Sys2Proof.Machine
end

section
/-!
SUPPORT. The pacer's rows without a cut (R24 to R34, R42, R43): what an evaluation and the end of a fire leave and hand
on, each evaluation by its case, and the obligations about outcomes, speed arrivals, evaluations and mode changes.
-/

namespace Sys2Proof.Machine

/-! ## What is handed on stays handed on (R128, R164) -/

/-- A frame handed to the port adds to the ledger at most its outcome. -/
theorem handFrame_handed (dest : Nat) (body : FrameBody) (s : State) : s.handed ⊆ (handFrame dest body s).handed := by
  rcases handFrame_cases dest body s with ⟨-, h⟩ | ⟨-, -, h⟩ <;> rw [h]
  · exact List.subset_append_left _ _
  · exact List.Subset.refl _

theorem evaluateFire_handed (s : State) : s.handed ⊆ (evaluateFire s).handed := by
  rcases evaluateFire_cases s with h | ⟨-, h | h | ⟨target, dest, -, -, -, -, h⟩⟩ <;> rw [h]
  · exact List.Subset.refl _
  · exact List.Subset.refl _
  · exact List.Subset.refl _
  · exact handFrame_handed _ _ s

theorem evaluateChain_handed (s : State) : s.handed ⊆ (evaluateChain s).handed := by
  rcases evaluateChain_form s with h | ⟨st, h⟩ | ⟨c, dest, h⟩ <;> rw [h]
  · exact List.Subset.refl _
  · exact List.Subset.refl _
  · exact handFrame_handed _ _ s

theorem tryInsertion_handed (s : State) : s.handed ⊆ (tryInsertion s).handed := by
  rcases tryInsertion_cases s with ⟨-, h⟩ | ⟨-, h⟩ <;> rw [h]
  · exact evaluateChain_handed (stationed none { s with chain := { s.chain with drainTimer := .stopped } })
  · exact List.Subset.refl _

theorem afterFireEnd_handed (s : State) : s.handed ⊆ (afterFireEnd s).handed :=
  List.Subset.trans (evaluateFire_handed (setPacerState s.restState s)) (tryInsertion_handed _)

/-! ## The end of a fire (R34, R38, R45) -/

/-- The records of the cane queue and the discharge queue stand at an insertion (R67). -/
theorem tryInsertion_places (s : State) :
    (tryInsertion s).canes.records = s.canes.records ∧
    (tryInsertion s).discharge.entries = s.discharge.entries := by
  rcases tryInsertion_cases s with ⟨-, h⟩ | ⟨-, h⟩ <;> rw [h]
  · rw [placeRecord, evaluateChain_canes, (evaluateChain_places _).2]
    exact ⟨rfl, rfl⟩
  · exact ⟨rfl, rfl⟩

theorem afterFireEnd_places (s : State) :
    (afterFireEnd s).canes.records = s.canes.records ∧
    (afterFireEnd s).discharge.entries = s.discharge.entries := by
  rw [afterFireEnd, (tryInsertion_places _).1, (tryInsertion_places _).2, evaluateFire_canes, evaluateFire_discharge]
  exact ⟨rfl, rfl⟩

/-- The end of a fire changes of the pacer its state only. -/
theorem afterFireEnd_pacer (s : State) :
    (afterFireEnd s).pacer = { s.pacer with state := (afterFireEnd s).pacer.state } := by
  rw [afterFireEnd, tryInsertion_pacer, evaluateFire_pacer]
  rfl

/-- What the evaluation and the insertion test at the end of a fire leave. -/
theorem afterFireEnd_frame (s : State) :
    { afterFireEnd s with pacer := s.pacer, port := s.port, handed := s.handed, chain := s.chain, canes := s.canes,
                          discharge := s.discharge } = s := by
  simp only [afterFireEnd_clock, afterFireEnd_lineTime, afterFireEnd_lots, afterFireEnd_drying, afterFireEnd_climate,
    afterFireEnd_sequencer, afterFireEnd_signals, afterFireEnd_agent, afterFireEnd_line, afterFireEnd_pending]

/-- A fire whose end is not a cut is discarded, in the words of the statements (R34, R45). -/
theorem fireDiscarded_afterFireEnd {s u : State} (hm : u.sequencer = s.sequencer) (hp : u.port = s.port) :
    FireDiscarded s (afterFireEnd u) := by
  rw [FireDiscarded, ← hm, ← hp]
  exact ⟨afterFireEnd_idle, afterFireEnd_evaluated⟩

/-! ## Misses and outcomes (R32, R33, R34) -/

/-- The state in which a miss ends the fire: the timer stopped, the miss counted, KNIFE_FAULT asked for from the third
on. -/
def missCounted (s : State) : State :=
  { s with
    pacer := { s.pacer with knifeTimer := .stopped, missCount := min 255 (s.pacer.missCount + 1) },
    handed := s.handed ++ if 3 ≤ s.pacer.missCount + 1 then [.faultRaise .knifeFault 0] else [] }

theorem miss_eq (s : State) : miss s = afterFireEnd (missCounted s) := by
  have hcount : 3 ≤ min 255 (s.pacer.missCount + 1) ↔ 3 ≤ s.pacer.missCount + 1 := by omega
  simp only [miss, missCounted, hcount]
  split
  · rfl
  · rw [List.append_nil]; rfl

/-- A miss from a state that differs in the ledger is a miss as R34 makes it. -/
theorem missTaken_miss (s : State) (ledger : List Instr) : MissTaken s (miss { s with handed := ledger }) := by
  rw [miss_eq]
  let u := missCounted { s with handed := ledger }
  obtain ⟨hrecords, hentries⟩ := afterFireEnd_places u
  refine ⟨afterFireEnd_pacer u, fireDiscarded_afterFireEnd rfl rfl, fun h => afterFireEnd_handed u ?_, ?_, hrecords,
    hentries⟩
  · change _ ∈ ledger ++ ite _ _ _
    rw [if_pos h]
    exact List.mem_append_right _ (List.mem_singleton_self _)
  · exact congrArg (fun v : State => { v with
      pacer := s.pacer, port := s.port, handed := s.handed, chain := s.chain, canes := s.canes,
      discharge := s.discharge }) (afterFireEnd_frame u)

/-- The oldest outcome reported is taken off the ledger and acted on (R164). -/
theorem exec_knifeFireOutcome {s : State} {frame : SentFrame} {o : FrameOutcome}
    (h : s.nextOutcome = some (.knifeFireOutcome frame o)) :
    exec (.knifeFireOutcome frame o) s =
      .next (takeFireOutcome frame.number o (s.took (.knifeFireOutcome frame o))) := congrArg _ (if_pos h)

/-- An outcome with no fire in flight is ignored (R32). -/
theorem takeFireOutcome_of_none {s : State} {n : Nat} {o : FrameOutcome} (h : s.pacer.fire? = none) :
    takeFireOutcome n o s = s := by simp only [takeFireOutcome, h]

/-- An outcome of another frame is ignored (R32). -/
theorem takeFireOutcome_of_ne {s : State} {f : Fire} {n : Nat} {o : FrameOutcome} (h : s.pacer.state = .firing f)
    (hn : f.number ≠ n) : takeFireOutcome n o s = s := by
  simp [takeFireOutcome, (fire?_eq_some_iff _ _).2 h, hn]

/-- The fire's own acknowledgement is taken once (R32). -/
theorem takeFireOutcome_acknowledged {s : State} {f : Fire} (h : s.pacer.state = .firing f) :
    takeFireOutcome f.number .acknowledged s = if f.acknowledged then s else acknowledgeFire f s := by
  simp [takeFireOutcome, (fire?_eq_some_iff _ _).2 h]

/-- A NACK or never-sent outcome of the fire's own frame is a miss (R32). -/
theorem takeFireOutcome_miss {s : State} {f : Fire} {o : FrameOutcome} (h : s.pacer.state = .firing f)
    (ho : o ≠ .acknowledged) : takeFireOutcome f.number o s = miss s := by
  cases o with
  | acknowledged => exact absurd rfl ho
  | nack => simp [takeFireOutcome, (fire?_eq_some_iff _ _).2 h]
  | neverSent => simp [takeFireOutcome, (fire?_eq_some_iff _ _).2 h]

/-- Settles O11: the outcome by its kind and frame, and the knife timer's expiry. -/
theorem fireOutcomesAreTakenOrMissed : Obligations.FireOutcomesAreTakenOrMissed := by
  constructor
  · intro s frame o taken hnext
    rw [exec_knifeFireOutcome hnext]
    refine ⟨fun f hf hn ho => ?_, fun f hf hn ho => ?_, fun f hf hn => ?_, fun hf => ?_⟩
    · obtain rfl := ho
      rw [← hn, takeFireOutcome_acknowledged (by exact hf)]
      exact ⟨fun ha => by rw [ha]; rfl, fun ha => by rw [ha]; rfl⟩
    · rw [← hn, takeFireOutcome_miss (by exact hf) ho]
      exact ⟨_, rfl, missTaken_miss s _⟩
    · rw [takeFireOutcome_of_ne (by exact hf) hn]; rfl
    · rw [takeFireOutcome_of_none (by exact hf)]; rfl
  · intro s f e hf ht he
    have hdue : s.pacer.knifeTimer.due s.clock ∧ s.pacer.fire?.isSome = true := by
      rw [ht, (fire?_eq_some_iff _ _).2 hf]
      exact ⟨decide_eq_true he, rfl⟩
    exact ⟨miss s, congrArg _ (if_pos hdue), missTaken_miss s s.handed⟩

/-! ## Evaluations, case by case (R27, R30, R31) -/

section Evaluation

variable {s : State} {target : Nat}

/-- In FORMING and BLOCKED an evaluation acts on the condition (R30). -/
theorem evaluateFire_of_waiting (h : s.pacer.state = .forming ∨ s.pacer.state = .blocked) :
    evaluateFire s = actOnCondition s := by
  rcases h with h | h <;> simp only [evaluateFire, h]

/-- In IDLE and FIRING it does nothing (R27). -/
theorem evaluateFire_of_not_waiting (h : s.pacer.state = .idle ∨ ∃ f, s.pacer.state = .firing f) :
    evaluateFire s = s := by
  rcases h with h | ⟨f, h⟩ <;> simp only [evaluateFire, h]

theorem actOnCondition_forming (ht : s.curtainTarget = some target) (h : ¬ FireConditionHolds s target) :
    actOnCondition s = setPacerState .forming s := by
  rw [← fireCondition_iff] at h
  simp [actOnCondition, ht, h]

theorem actOnCondition_blocked (ht : s.curtainTarget = some target) (h : FireConditionHolds s target)
    (hi : ∀ dest, ¬ InterlocksHold s dest) : actOnCondition s = setPacerState .blocked s := by
  have hfail : s.failingInterlock ≠ 0 := fun h0 =>
    have ⟨dest, hd⟩ := (failingInterlock_eq_zero_iff s).1 h0
    hi dest hd
  simp [actOnCondition, ht, (fireCondition_iff s target).2 h, hfail]

theorem actOnCondition_fires {dest : Nat} (ht : s.curtainTarget = some target) (h : FireConditionHolds s target)
    (hi : InterlocksHold s dest) : actOnCondition s = sendFire target dest s := by
  have hfail : s.failingInterlock = 0 := (failingInterlock_eq_zero_iff s).2 ⟨dest, hi⟩
  obtain ⟨-, -, -, -, -, htalk⟩ := hi
  have htalk' : s.talkNode talkKnife = some dest := htalk
  simp [actOnCondition, ht, (fireCondition_iff s target).2 h, hfail, htalk']

/-- The disposition of a fire that the interlocks let pass (R29, R31). -/
theorem fireKind_of_interlocks {dest : Nat} (hi : InterlocksHold s dest) :
    s.fireKind = if s.sequencer.mode = .priming ∨ s.pacer.purgePending = true then .purge
      else if 0 < s.pacer.gapCounter then .gap else .hang := by
  obtain ⟨hm, -⟩ := hi
  rw [State.fireKind]
  cases hmode : s.sequencer.mode <;> simp [hmode, LineMode.allowsFires] at hm ⊢

/-- A frame handed to the urgent queue, in the words of the statements (R160, R165). -/
theorem handFrame_handedUrgent {dest : Nat} {body : FrameBody} (s : State) (hq : queueOf body = .urgent) :
    handFrame dest body s = handedUrgent s dest body := by
  have hroom : s.port.hasRoom (queueOf body) = true ↔ s.port.fill .urgent < 4 := by rw [hq]; exact hasRoom_urgent_iff _
  rcases handFrame_cases dest body s with ⟨hn, h⟩ | ⟨h1, h2, h⟩
  · have hfull : ¬ (s.port.silent = false ∧ s.port.fill .urgent < 4) := by
      rw [← hroom]
      rintro ⟨h1, h2⟩
      simp [h1, h2] at hn
    rw [h, handedUrgent, if_neg hfull]
    rfl
  · rw [h, handedUrgent, if_pos ⟨h1, hroom.1 h2⟩]
    simp only [Port.joinTail, hq]
    rfl

/-- A change of the pacer goes before the handing of a frame as well as after it. -/
theorem handedUrgent_pacer (s : State) (p : Pacer) (dest : Nat) (body : FrameBody) :
    { handedUrgent s dest body with pacer := p } = handedUrgent { s with pacer := p } dest body := by
  rw [handedUrgent, handedUrgent]
  split <;> rfl

/-- The fire that an evaluation against `target` sends (R31). -/
def State.nextFire (s : State) (target : Nat) : Fire :=
  { kind := s.fireKind, target := target, acknowledged := false, number := inc32 s.port.frameCount }

/-- A fire sent is its frame handed to the urgent queue and the pacer FIRING it (R31). -/
theorem sendFire_eq (target dest : Nat) (s : State) :
    sendFire target dest s = handedUrgent { s with pacer := { s.pacer with state := .firing (s.nextFire target) } }
      dest (.knifeFire (decide (s.fireKind ≠ .hang))) := by
  rw [← handedUrgent_pacer, ← handFrame_handedUrgent s rfl]
  simp only [sendFire, handFrame_pacer]
  rfl

end Evaluation

/-- The target of an evaluation in the words of the statements (R26). -/
theorem curtainTarget_eq {s : State}
    (h : s.lots.active ≠ none ∨ s.sequencer.mode = .priming ∨ s.pacer.purgePending = true) :
    s.curtainTarget = some (if s.sequencer.mode = .priming ∨ s.pacer.purgePending = true
      then s.pacer.params.purgeLength else (s.lotSlot (s.lots.active.getD 0)).header.hangTarget) := by
  rw [State.curtainTarget]
  split
  case isTrue => rfl
  case isFalse hp =>
    obtain ⟨a, ha⟩ := Option.ne_none_iff_exists'.1 (h.resolve_right hp)
    rw [ha]; rfl

/-- Settles O13: the three answers of an evaluation, on a state that differs from `s` in the ledger only. -/
theorem evaluationFiresBlocksOrForms : Obligations.EvaluationFiresBlocksOrForms := by
  intro s target arrived
  have ready : exec (.spreaderStateArrival 1) s = .next (evaluateFire arrived) := rfl
  refine ⟨fun v hv => congrArg _ (if_neg hv), fun h => ?_, fun h htarget hactive => ?_⟩
  · rw [ready, evaluateFire_of_not_waiting (by exact h)]
  · have ht : arrived.curtainTarget = some target := by rw [htarget]; exact curtainTarget_eq (s := arrived) hactive
    rw [ready, evaluateFire_of_waiting (by exact h)]
    refine ⟨fun hc => ?_, fun hc hi => ?_, fun dest hc hi => ?_⟩
    · rw [actOnCondition_forming ht hc]; rfl
    · rw [actOnCondition_blocked ht hc hi]; rfl
    · have hkind : arrived.fireKind = _ := fireKind_of_interlocks (s := arrived) hi
      rw [actOnCondition_fires ht hc hi, sendFire_eq, State.nextFire, hkind]

/-! ## Speed arrivals (R24, R25, R42, R43) -/

/-- Outside its window an arrival in PRIMING clears SETTLED and restarts the settle timer (R43). -/
theorem settleWatch_eq (value : Nat) (s : State) :
    let outside : Bool := decide (s.sequencer.mode = .priming ∧
      (value < s.pacer.params.vMin ∨ s.pacer.params.vMax < value))
    settleWatch value s = { s with pacer := { s.pacer with
      settled := if outside then false else s.pacer.settled,
      settleTimer := if outside then .running (s.clock + s.pacer.params.settleTime * 10000)
                     else s.pacer.settleTimer } } := by
  intro outside
  simp only [settleWatch, outside, decide_eq_true_eq]
  split <;> rfl

/-- The elapsed ticks of an arrival less than 2^32 ticks after the last (R25 step 1). -/
theorem elapsedTicks_eq {last tick : Nat} (h : last ≤ tick) (hd : tick - last < 4294967296) :
    elapsedTicks last tick = min (tick - last) 2000 := by
  rw [elapsedTicks]
  omega

/-- In service the increment is added to A up to its limit, and to the extruded total as far as it was added to A
(R25, R44). -/
theorem integrate_eq {s : State} (hT : TotalsInService s) {last tick : Nat} (value : Nat) (h : last ≤ tick)
    (hd : tick - last < 4294967296) :
    let acc := min (s.pacer.acc + s.pacer.lastSpeed * min (tick - last) 2000) 1099511627775
    s.pacer.integrate last value tick = { s.pacer with
      acc := acc, extruded := s.pacer.extruded + (acc - s.pacer.acc), lastSpeed := value, lastTick := some tick } := by
  obtain ⟨hacc, hextruded, -, -⟩ := hT
  intro acc
  have hadded : addedLength s.pacer.acc (s.pacer.lastSpeed * elapsedTicks last tick) = acc - s.pacer.acc := by
    simp only [addedLength, elapsedTicks_eq h hd, acc, Config.accMax] at hacc ⊢
    omega
  have hsum : s.pacer.acc + (acc - s.pacer.acc) = acc := by
    simp only [acc, Config.accMax] at hacc ⊢
    omega
  have htotal : addTotal s.pacer.extruded (acc - s.pacer.acc) = s.pacer.extruded + (acc - s.pacer.acc) :=
    if_pos (by simp only [acc, Config.accMax] at hacc hextruded ⊢; omega)
  simp only [Pacer.integrate, hadded, hsum, htotal]

/-- The overlength check makes the curtain purge-pending and asks for OVERLENGTH, or does nothing (R42). -/
theorem overlengthCheck_eq (s : State) :
    overlengthCheck s = { s with
      pacer := { s.pacer with
        purgePending := if s.overlengthApplies && s.overlong then true else s.pacer.purgePending },
      handed := s.handed ++
        if s.overlengthApplies && s.overlong then [.faultRaise .overlength s.failingInterlock] else [] } := by
  rw [overlengthCheck]
  split
  · rfl
  · rw [List.append_nil]

/-- When the check of R42 finds the curtain too long. -/
theorem overlong_iff (s : State) :
    (s.overlengthApplies && s.overlong) = true ↔
      LineMode.allowsFires s.sequencer.mode = true ∧
      (s.pacer.state = .forming ∨ s.pacer.state = .blocked) ∧ s.pacer.purgePending = false ∧
      ∃ target, s.curtainTarget = some target ∧
        (target + s.pacer.params.overlengthMargin) * 1000000 < s.pacer.acc := by
  rw [State.overlong]
  cases s.curtainTarget <;> simp [State.overlengthApplies, and_assoc]

/-- A later speed arrival evaluates once the curtain is integrated, checked and watched (R25, R42, R43). -/
theorem takeSpeed_of_some {s : State} {last : Nat} (value tick : Nat) (h : s.pacer.lastTick = some last) :
    takeSpeed value tick s =
      evaluateFire (settleWatch value (overlengthCheck (s.setPacer (s.pacer.integrate last value tick)))) := by
  simp only [takeSpeed, h]

/-- The first speed arrival sets v_last and the tick and is watched (R24, R43). -/
theorem takeSpeed_of_none {s : State} (value tick : Nat) (h : s.pacer.lastTick = none) :
    takeSpeed value tick s =
      settleWatch value (s.setPacer { s.pacer with lastSpeed := value, lastTick := some tick }) := by
  simp only [takeSpeed, h]

/-- What an evaluation changes at most (R27, R30). -/
theorem evaluateFire_frame (s : State) :
    { evaluateFire s with pacer := s.pacer, port := s.port, handed := s.handed } = s := by
  simp only [evaluateFire_clock, evaluateFire_lineTime, evaluateFire_lots, evaluateFire_chain, evaluateFire_canes,
    evaluateFire_drying, evaluateFire_climate, evaluateFire_discharge, evaluateFire_sequencer, evaluateFire_signals,
    evaluateFire_agent, evaluateFire_line, evaluateFire_pending]

/-- An evaluation made on a state that differs from `s` in the pacer and the ledger leaves the rest of `s`. -/
theorem evaluateFire_frame_of {s u : State} (hu : { u with pacer := s.pacer, handed := s.handed } = s) :
    { evaluateFire u with pacer := s.pacer, port := s.port, handed := s.handed } = s := by
  have hframe := congrArg (fun v : State => { v with pacer := s.pacer, port := s.port, handed := s.handed })
    (evaluateFire_frame u)
  exact hframe.trans (congrArg (fun v : State => { v with port := s.port }) hu)

/-- A pacer without a fire that is not FORMING or BLOCKED is IDLE, and one that is neither IDLE nor with a fire is one of
them (R22). -/
theorem waiting_iff (p : Pacer) : (p.state = .forming ∨ p.state = .blocked) ↔ p.fire? = none ∧ p.state ≠ .idle := by
  rw [Pacer.fire?]
  cases p.state <;> simp

theorem not_waiting_iff (p : Pacer) :
    ¬ (p.state = .forming ∨ p.state = .blocked) ↔ (p.state = .idle ∨ ∃ f, p.state = .firing f) := by
  cases p.state <;> simp

/-- Settles O12: the integration, the check and the watch as one state, and then the evaluation. -/
theorem speedArrivalsIntegrateAndCheckTheCurtain : Obligations.SpeedArrivalsIntegrateAndCheckTheCurtain := by
  intro s v tick outside settled settleTimer
  constructor
  · intro hnone
    change Host.Outcome.next (takeSpeed v tick (s.took (.speedArrival v tick))) = _
    rw [takeSpeed_of_none v tick (by exact hnone), settleWatch_eq]
    rfl
  · intro last hlast hle hlt hT acc integrated forms tooLong
    let u := s.took (.speedArrival v tick)
    let fed := u.setPacer (u.pacer.integrate last v tick)
    have hfed : fed.pacer = { s.pacer with
        acc := acc, extruded := s.pacer.extruded + (acc - s.pacer.acc), lastSpeed := v, lastTick := some tick } :=
      integrate_eq hT v hle hlt
    let w := settleWatch v (overlengthCheck fed)
    have hlong : (fed.overlengthApplies && fed.overlong) = true ↔ tooLong := by
      rw [overlong_iff, hfed]
      have htarget : fed.curtainTarget = s.curtainTarget := by rw [State.curtainTarget, hfed]; rfl
      rw [htarget]
      rfl
    have hw : w = { s with
        pacer := { integrated with
          purgePending := if fed.overlengthApplies && fed.overlong then true else s.pacer.purgePending },
        handed := u.handed ++
          if fed.overlengthApplies && fed.overlong then [.faultRaise .overlength s.failingInterlock] else [] } := by
      change settleWatch v (overlengthCheck fed) = _
      rw [settleWatch_eq, overlengthCheck_eq, hfed]
      rfl
    refine ⟨evaluateFire w, congrArg _ (takeSpeed_of_some (s := u) v tick hlast), ?_, fun hn => ?_, fun hf => ?_,
      fun hl => ?_, fun hl => ?_, evaluateFire_frame_of (by rw [hw])⟩
    · rw [evaluateFire_pacer, hw]
    · have hshort : ¬ (fed.overlengthApplies && fed.overlong) = true := fun hl => hn (hlong.1 hl).2.1
      rw [evaluateFire_of_not_waiting (by rw [hw]; exact (not_waiting_iff s.pacer).1 hn), hw]
      simp only [if_neg hshort, List.append_nil]
      exact ⟨rfl, trivial, rfl⟩
    · have heval := evaluateFire_evaluated (s := w) (by rw [hw]; exact hf)
      rwa [show w.port = s.port by rw [hw]] at heval
    · have hledger : .faultRaise .overlength s.failingInterlock ∈ w.handed := by
        simp only [hw, if_pos (hlong.2 hl)]
        exact List.mem_append_right _ (List.mem_singleton_self _)
      refine ⟨?_, evaluateFire_handed w hledger⟩
      rw [evaluateFire_pacer, hw]
      exact if_pos (hlong.2 hl)
    · rw [evaluateFire_pacer, hw]
      exact if_neg (fun h => hl (hlong.1 h))

/-! ## Modes and the settle timer (R28, R43) -/

/-- The settle timer's part of a mode change as an equation (R43). -/
theorem settleModeChange_eq (old new : LineMode) (s : State) :
    settleModeChange old new s = { s with pacer := { s.pacer with
      settled := if new = .priming then false else s.pacer.settled,
      settleTimer := if new = .priming then .running (s.clock + s.pacer.params.settleTime * 10000)
        else if old = .priming then .stopped else s.pacer.settleTimer } } := by
  rw [settleModeChange]
  split
  · rfl
  split <;> rfl

/-- The row takes its change off the ledger; the settle timer follows it and then the pacer state. -/
theorem exec_pacerModeChange (old new : LineMode) (s : State) :
    exec (.pacerModeChange old new) s = .next (pacerFollowsMode new { s with
      handed := s.handed.erase (.pacerModeChange old new),
      pacer := { s.pacer with
        settled := if new = .priming then false else s.pacer.settled,
        settleTimer := if new = .priming then .running (s.clock + s.pacer.params.settleTime * 10000)
          else if old = .priming then .stopped else s.pacer.settleTimer } }) := by
  change Host.Outcome.next (pacerFollowsMode new (settleModeChange old new _)) = _
  rw [settleModeChange_eq]
  rfl

/-- Entering a mode with fires makes an IDLE pacer FORMING, and the pacer evaluates (R28). -/
theorem pacerFollowsMode_of_fires {new : LineMode} (s : State) (h : LineMode.allowsFires new = true) :
    pacerFollowsMode new s = evaluateFire (if s.pacer.state = .idle then setPacerState .forming s else s) := if_pos h

/-- The pacer's part of entering a mode with fires: its state moves, a fire stays, and every other pacer evaluates
(R28). -/
theorem evaluateFire_started (s : State) :
    let t := evaluateFire (if s.pacer.state = .idle then setPacerState .forming s else s)
    t.pacer = { s.pacer with state := t.pacer.state } ∧
    (∀ f, s.pacer.state = .firing f → t.pacer.state = .firing f) ∧
    (s.pacer.fire? = none → Evaluated t (inc32 s.port.frameCount)) ∧
    { t with pacer := s.pacer, port := s.port, handed := s.handed } = s := by
  split
  case isTrue hidle =>
    refine ⟨evaluateFire_pacer _, fun f hf => ?_, fun _ => evaluateFire_evaluated (.inl rfl), evaluateFire_frame_of rfl⟩
    cases hidle.symm.trans hf
  case isFalse hidle =>
    refine ⟨evaluateFire_pacer s, fun f hf => ?_, fun hf => evaluateFire_evaluated ((waiting_iff s.pacer).2 ⟨hf, hidle⟩),
      evaluateFire_frame s⟩
    rw [evaluateFire_of_not_waiting (.inr ⟨f, hf⟩)]
    exact hf

/-- Entering a mode without fires makes FORMING and BLOCKED IDLE (R28). -/
theorem pacerFollowsMode_of_waiting {new : LineMode} {s : State} (h : LineMode.allowsFires new = false)
    (hs : s.pacer.state = .forming ∨ s.pacer.state = .blocked) :
    pacerFollowsMode new s = setPacerState .idle s := by
  simp only [pacerFollowsMode, h, if_pos hs]
  rfl

/-- Entering a mode without fires leaves IDLE, and a fire in flight (R28). -/
theorem pacerFollowsMode_of_not_waiting {new : LineMode} {s : State} (h : LineMode.allowsFires new = false)
    (hs : s.pacer.state = .idle ∨ ∃ f, s.pacer.state = .firing f) : pacerFollowsMode new s = s := by
  simp only [pacerFollowsMode, h, if_neg ((not_waiting_iff _).2 hs)]
  rfl

/-- Settles O17: the expiry, and the mode change by the new mode and the pacer state. -/
theorem pacerFollowsTheModeAndSettles : Obligations.PacerFollowsTheModeAndSettles := by
  intro s old new
  have hpriming (h : LineMode.allowsFires new = false) : new ≠ .priming := by rintro rfl; cases h
  refine ⟨fun e he hle hm => ?_, fun hm hidle hc => ?_, fun hnew => ?_, fun hnew hs => ?_, fun hnew hs => ?_⟩
  · exact congrArg _ (if_pos ⟨by rw [he]; exact decide_eq_true hle, hm⟩)
  · rw [exec_pacerModeChange, pacerFollowsMode_of_fires _ rfl, if_pos (by exact hidle),
      evaluateFire_of_waiting (.inl rfl)]
    exact congrArg _ (actOnCondition_forming (target := s.pacer.params.purgeLength) (if_pos (.inl hm)) hc)
  · rw [exec_pacerModeChange, pacerFollowsMode_of_fires _ hnew]
    obtain ⟨hpacer, hfiring, heval, hframe⟩ := evaluateFire_started _
    exact ⟨_, rfl, hpacer, hfiring, heval,
      congrArg (fun v : State => { v with pacer := s.pacer, handed := s.handed }) hframe⟩
  · rw [exec_pacerModeChange, pacerFollowsMode_of_waiting hnew (by exact hs)]
    simp only [if_neg (hpriming hnew)]
    rfl
  · rw [exec_pacerModeChange, pacerFollowsMode_of_not_waiting hnew (by exact hs)]
    simp only [if_neg (hpriming hnew)]

end Sys2Proof.Machine
end

section
/-!
SUPPORT. Cuts without a switch of lots (R35 to R40): a completed fire by its disposition, a due insertion at its end,
unexpected cuts, and the obligations about them.
-/

namespace Sys2Proof.Machine

/-! ## What a cut leaves (R15, R35, R36) -/

/-- Placing a record leaves the cane queue's and the discharge queue's records. -/
theorem placeRecord_places (product : Option Product) (s : State) :
    (placeRecord product s).canes.records = s.canes.records ∧
    (placeRecord product s).discharge.entries = s.discharge.entries := by
  obtain ⟨-, hcanes, hdischarge, -⟩ := recordPlaced_placeRecord product s
  rw [hcanes, hdischarge]
  exact ⟨rfl, rfl⟩

section CutHandled

variable (f : Fire) (s : State)

theorem cutPlaced_places (length : Nat) :
    (cutPlaced f length s).canes.records = s.canes.records ∧
    (cutPlaced f length s).discharge.entries = s.discharge.entries := by
  unfold cutPlaced hangCane
  cases f.kind with
  | hang =>
    cases s.lots.active with
    | none => exact ⟨rfl, rfl⟩
    | some a => exact placeRecord_places _ (raiseRef a s)
  | gap => exact placeRecord_places none s
  | purge => exact ⟨rfl, rfl⟩

/-- A cut leaves the records of the two queues. -/
theorem cutHandled_places :
    (cutHandled f s).canes.records = s.canes.records ∧
    (cutHandled f s).discharge.entries = s.discharge.entries := by
  obtain ⟨p, hcut⟩ := cutHandled_eq f s
  rw [hcut]
  exact cutPlaced_places f (s.setPacer (s.pacer.closeCurtain f.kind)) _

/-- Of the lot table a HANG cut with an active lot raises one count, and every other cut nothing (R15). -/
theorem cutHandled_lotTable :
    (cutHandled f s).lots = s.lots ∨
      f.kind = .hang ∧ ∃ a, s.lots.active = some a ∧ (cutHandled f s).lots = (raiseRef a s).lots := by
  obtain ⟨p, hcut⟩ := cutHandled_eq f s
  let u := s.setPacer (s.pacer.closeCurtain f.kind)
  have hlots : (cutHandled f s).lots = (cutPlaced f (roundedLength s.pacer.acc) u).lots := by rw [hcut]; rfl
  rw [hlots]
  cases ha : s.lots.active with
  | none => left; unfold cutPlaced hangCane; cases f.kind <;> simp [u, State.setPacer, ha]
  | some a =>
    rw [cutPlaced_lots f _ u (a := a) ha]
    by_cases hk : f.kind = .hang
    · rw [if_pos hk]; exact .inr ⟨hk, a, rfl, rfl⟩
    · rw [if_neg hk]; exact .inl rfl

theorem cutHandled_lots_of_ne (h : f.kind ≠ .hang) : (cutHandled f s).lots = s.lots :=
  (cutHandled_lotTable f s).resolve_right fun ⟨hk, _⟩ => h hk

/-- The pointers and the gap table stand at a cut, before the switch test (R13, R19). -/
theorem cutHandled_pointers :
    (cutHandled f s).lots.active = s.lots.active ∧ (cutHandled f s).lots.armed = s.lots.armed ∧
    (cutHandled f s).lots.gap = s.lots.gap := by
  rcases cutHandled_lotTable f s with h | ⟨-, a, -, h⟩ <;> rw [h] <;> exact ⟨rfl, rfl, rfl⟩

theorem cutHandled_sequencer : (cutHandled f s).sequencer = s.sequencer := by
  have h := congrArg State.sequencer (cutHandled_frame f s)
  exact h

/-- A PURGE cut changes the pacer only (R36). -/
theorem cutHandled_purge (h : f.kind = .purge) : ∃ p, cutHandled f s = s.setPacer p := by
  obtain ⟨p, hcut⟩ := cutHandled_eq f s
  rw [cutPlaced, h] at hcut
  exact ⟨p, hcut⟩

/-- A completed cut leaves a curtain of length 0 (R35). -/
theorem cutHandled_acc : (cutHandled f s).pacer.acc = 0 := by
  unfold cutHandled handOverCut
  cases f.kind <;> simp [State.setPacer, Pacer.closeCurtain]

/-- Outside RUNNING, and with no lot armed, no switch follows the cut (R13). -/
theorem completeCut_of_no_switch (h : s.sequencer.mode = .running → s.lots.armed = none) :
    completeCut f s = afterFireEnd (cutHandled f s) := by
  rw [completeCut_eq, switchTest, (cutHandled_pointers f s).2.1, (cutHandled_pointers f s).1, cutHandled_sequencer]
  congr 1
  split
  case h_1 new old harmed _ => exact if_neg fun ⟨hm, _⟩ => by simp [h hm] at harmed
  case h_2 => rfl

/-- A switch changes of the pacer the gap counter only (R13, R19). -/
theorem completeCut_acc : (completeCut f s).pacer.acc = 0 := by
  have hswitch : (switchTest (cutHandled f s)).pacer.acc = 0 := by
    rw [switchTest]
    split
    · split
      · rw [(switchLots_frame _ _ _).2]; exact cutHandled_acc f s
      · exact cutHandled_acc f s
    · exact cutHandled_acc f s
  rw [completeCut_eq, afterFireEnd_pacer]
  exact hswitch

end CutHandled

/-! ## The end of a fire by what stands in the station (R29, R38, R67) -/

/-- With a record in the station the end of a fire sends nothing and inserts nothing. -/
theorem afterFireEnd_of_station {s : State} (h : s.chain.station ≠ none) :
    (afterFireEnd s).chain = s.chain ∧ (afterFireEnd s).canes = s.canes ∧
    (afterFireEnd s).discharge = s.discharge ∧ (afterFireEnd s).port = s.port := by
  obtain ⟨hport, -⟩ := evaluateFire_of_interlock (s := setPacerState s.restState s) fun dest hi => h hi.2.1
  have hend : afterFireEnd s = evaluateFire (setPacerState s.restState s) := by
    rcases tryInsertion_cases (evaluateFire (setPacerState s.restState s)) with ⟨hdue, -⟩ | ⟨-, ht⟩
    · simp [State.insertionDue, setPacerState, h] at hdue
    · exact ht
  rw [hend, hport, evaluateFire_chain, evaluateFire_canes, evaluateFire_discharge]
  exact ⟨rfl, rfl, rfl, rfl⟩

/-- Without a due insertion the end of a fire leaves the three places (R67). -/
theorem afterFireEnd_of_not_due {s : State}
    (h : ¬ (s.sequencer.mode = .draining ∧ s.chain.drainTimer = .expired ∧ s.chain.stepState = .idle)) :
    (afterFireEnd s).canes = s.canes ∧ (afterFireEnd s).chain = s.chain ∧
    (afterFireEnd s).discharge = s.discharge := by
  have hend : afterFireEnd s = evaluateFire (setPacerState s.restState s) := by
    rcases tryInsertion_cases (evaluateFire (setPacerState s.restState s)) with ⟨hdue, -⟩ | ⟨-, ht⟩
    · simp only [State.insertionDue, evaluateFire_chain, evaluateFire_sequencer, setPacerState, Bool.and_eq_true,
        decide_eq_true_eq] at hdue
      obtain ⟨⟨⟨⟨htimer, hmode⟩, -⟩, hstep⟩, -⟩ := hdue
      exact absurd ⟨hmode, htimer, hstep⟩ h
    · exact ht
  rw [hend, evaluateFire_canes, evaluateFire_chain, evaluateFire_discharge]
  exact ⟨rfl, rfl, rfl⟩

/-- A due insertion is made at the end of a fire in DRAINING (R67). -/
theorem afterFireEnd_of_due {s : State} (hm : s.sequencer.mode = .draining) (ht : s.chain.drainTimer = .expired)
    (hstep : s.chain.stepState = .idle) (hst : s.chain.station = none) :
    afterFireEnd s =
      placeRecord none { setPacerState .idle s with chain := { s.chain with drainTimer := .stopped } } := by
  have hrest : s.restState = .idle := by simp [State.restState, hm, LineMode.allowsFires]
  rw [afterFireEnd, hrest, evaluateFire_of_not_waiting (.inl rfl)]
  exact if_pos (by simp [State.insertionDue, setPacerState, hm, ht, hstep, hst, Pacer.fire?])

/-- Settles O14: the cut without a switch, then the end of the fire. -/
theorem cutsCompleteByTheirDisposition : Obligations.CutsCompleteByTheirDisposition := by
  intro s f hf hstation hT hswitch insertion
  let u := s.took (.knifeCountEvents 1)
  let w := cutHandled f u
  have hmode : w.sequencer = s.sequencer := cutHandled_sequencer f u
  obtain ⟨hrecords, hentries⟩ := afterFireEnd_places w
  obtain ⟨hwrecords, hwentries⟩ := cutHandled_places f u
  obtain ⟨hactive, harmed, hgap⟩ := cutHandled_pointers f u
  refine ⟨afterFireEnd w,
    (exec_knifeCountEvents_one hf).trans (congrArg _ (completeCut_of_no_switch f u hswitch)),
    cutTaken_of_cutHandled (s := u) hT ?_ fun hk => ?_, fun hm => afterFireEnd_idle (hmode ▸ hm), fun hm => ?_, ?_,
    hrecords.trans hwrecords, hentries.trans hwentries, ?_, ?_, ?_, ?_, fun a hk ha hlt => ?_, fun hk => ?_,
    fun hk hi => ?_, fun hk hi => ?_⟩
  · rw [afterFireEnd_pacer]
  · obtain ⟨hchain, hcanes, hdischarge, hport⟩ := afterFireEnd_of_station (cutHandled_station (s := u) hk)
    exact ⟨hchain, hcanes, hdischarge, afterFireEnd_sequencer w, afterFireEnd_signals w, congrArg Port.urgent hport⟩
  · rw [afterFireEnd_of_allowsFires (hmode ▸ hm)]
    exact evaluateFire_evaluated_count (.inl rfl)
  · have hframe := congrArg (fun v : State => { v with
      pacer := s.pacer, chain := s.chain, canes := s.canes, lots := s.lots, port := s.port,
      discharge := s.discharge, handed := s.handed }) (afterFireEnd_frame w)
    exact hframe.trans (congrArg (fun v : State => { v with handed := s.handed }) (cutHandled_frame f u))
  · rw [afterFireEnd_lots]; exact hactive
  · rw [afterFireEnd_lots]; exact harmed
  · rw [afterFireEnd_lots]; exact hgap
  · rw [afterFireEnd_pacer]
    exact congrArg Pacer.gapCounter (cutHandled_pacer f (s := u) hT)
  · obtain ⟨-, -, -, -, hslot, hother⟩ := cutHandled_lots (s := u) (f := f) ha hlt
    have same (i : Nat) : (afterFireEnd w).lotSlot i = w.lotSlot i :=
      lotSlot_congr (congrArg LotTable.slots (afterFireEnd_lots w)) i
    refine ⟨?_, fun i hi => (same i).trans (hother i hi)⟩
    rw [same, hslot, if_pos hk]
    rfl
  · rw [afterFireEnd_lots]
    exact cutHandled_lots_of_ne f u hk
  · obtain ⟨p, hp⟩ := cutHandled_purge f u hk
    have hend : afterFireEnd w = afterFireEnd (u.setPacer p) := congrArg afterFireEnd hp
    rw [hend]
    exact afterFireEnd_of_not_due (s := u.setPacer p) hi
  · obtain ⟨p, hp⟩ := cutHandled_purge f u hk
    obtain ⟨hm, ht, hstep⟩ := hi
    have hend : afterFireEnd w = afterFireEnd (u.setPacer p) := congrArg afterFireEnd hp
    rw [hend, afterFireEnd_of_due (s := u.setPacer p) hm ht hstep hstation]
    exact ⟨recordPlaced_placeRecord none _, placeRecord_drainTimer none _⟩

/-! ## Unexpected cuts (R39, R40, R171) -/

/-- Unexpected cuts waste the curtain, report once and let the pacer evaluate. -/
theorem unexpectedCuts_eq (n : Nat) (s : State) :
    unexpectedCuts n s = evaluateFire (queueReport
      (.unexpectedCut n ((s.pacer.acc + 500) / 1000) (pacerStateCode s.pacer.state))
      (s.setPacer s.pacer.dropCurtain)) := rfl

/-- In service the waste of an unexpected cut is a plain sum (R39, R44). -/
theorem dropCurtain_of_inService {p : Pacer} (ha : p.acc ≤ Config.accMax)
    (hw : p.waste + Config.accMax < Config.totalModulus) :
    p.dropCurtain = { p with acc := 0, waste := p.waste + p.acc, purgePending := false } := by
  rw [Pacer.dropCurtain, addTotal_of_inService ha hw]

/-- Of a curtain of length 0 an unexpected cut wastes nothing (R40). -/
theorem dropCurtain_of_empty {p : Pacer} (ha : p.acc = 0) (hw : p.waste < 18446744073709551616) :
    p.dropCurtain = { p with purgePending := false } := by
  have htotal : addTotal p.waste 0 = p.waste := if_pos hw
  rw [Pacer.dropCurtain, ha, htotal, ← ha]

/-- What unexpected cuts do to the part, with the curtain's length and the waste total left to the premises of the
statements (R39, R171). -/
theorem unexpectedCuts_taken (n : Nat) (s : State) :
    let t := unexpectedCuts n s
    t.pacer = { s.pacer.dropCurtain with state := t.pacer.state } ∧
    (s.port.silent = false → s.port.fill .management < 5 →
      t.port.management = s.port.management ++
        [{ number := inc32 s.port.frameCount, dest := s.agent.supervisor,
           body := .report s.agent.missed s.lineTime
             (.unexpectedCut n ((s.pacer.acc + 500) / 1000) (pacerStateCode s.pacer.state)) }] ∧
      t.agent = { s.agent with missed := 0 }) ∧
    (5 ≤ s.port.fill .management → t.port.management = s.port.management ∧
      t.agent = { s.agent with missed := min 255 (s.agent.missed + 1) }) ∧
    ((s.pacer.state = .idle ∨ ∃ f, s.pacer.state = .firing f) → t.pacer.state = s.pacer.state) ∧
    ((s.pacer.state = .forming ∨ s.pacer.state = .blocked) → Evaluated t t.port.frameCount) ∧
    { t with pacer := s.pacer, port := s.port, agent := s.agent, handed := s.handed } = s := by
  intro t
  let report : Report := .unexpectedCut n ((s.pacer.acc + 500) / 1000) (pacerStateCode s.pacer.state)
  let u := s.setPacer s.pacer.dropCurtain
  have ht : t = evaluateFire (queueReport report u) := unexpectedCuts_eq n s
  have hpacer : (queueReport report u).pacer = s.pacer.dropCurtain := queueReport_pacer report u
  have hmanagement : t.port.management = (queueReport report u).port.management := by
    rw [ht]; exact (evaluateFire_management _).1
  have hagent : t.agent = (queueReport report u).agent := by rw [ht]; exact evaluateFire_agent _
  refine ⟨?_, fun hs hf => ?_, fun hf => ?_, fun hst => ?_, fun hst => ?_, ?_⟩
  · rw [ht, evaluateFire_pacer, hpacer]
  · rw [hmanagement, hagent, queueReport_of_room report (s := u) hs hf]
    exact ⟨rfl, rfl⟩
  · rw [hmanagement, hagent, queueReport_of_full report (s := u) hf]
    exact ⟨rfl, rfl⟩
  · rw [ht, evaluateFire_of_not_waiting (by rw [hpacer]; exact hst), hpacer]
    rfl
  · rw [ht]
    exact evaluateFire_evaluated_count (by rw [hpacer]; exact hst)
  · rw [ht]
    simp only [evaluateFire_clock, evaluateFire_lineTime, evaluateFire_lots, evaluateFire_chain, evaluateFire_canes,
      evaluateFire_drying, evaluateFire_climate, evaluateFire_discharge, evaluateFire_sequencer, evaluateFire_signals,
      evaluateFire_line, evaluateFire_pending, queueReport_clock, queueReport_lineTime, queueReport_lots,
      queueReport_chain, queueReport_canes, queueReport_drying, queueReport_climate, queueReport_discharge,
      queueReport_sequencer, queueReport_signals, queueReport_line, queueReport_pending, u, State.setPacer]

theorem fire?_isSome_iff (p : Pacer) : p.fire?.isSome = true ↔ ∃ f, p.state = .firing f := by
  rw [Pacer.fire?]
  cases p.state <;> simp

/-- A group with no fire in flight is unexpected cuts (R39). -/
theorem exec_knifeCountEvents_unexpected {s : State} {n : Nat} (hn : 1 ≤ n) (hf : s.pacer.fire? = none) :
    exec (.knifeCountEvents n) s = .next (unexpectedCuts n (s.took (.knifeCountEvents n))) := by
  refine congrArg Host.Outcome.next ?_
  simp [takeKnifeCount, hf, Nat.one_le_iff_ne_zero.1 hn]

/-- A group of more than one with a fire in flight is its cut and then unexpected cuts (R40). -/
theorem exec_knifeCountEvents_split {s : State} {f : Fire} {n : Nat} (hn : 2 ≤ n) (hf : s.pacer.state = .firing f) :
    exec (.knifeCountEvents n) s =
      .next (unexpectedCuts (n - 1) (completeCut f (s.took (.knifeCountEvents n)))) := by
  have h0 : n ≠ 0 := by omega
  have h1 : n ≠ 1 := by omega
  refine congrArg Host.Outcome.next ?_
  simp [takeKnifeCount, (fire?_eq_some_iff _ _).2 hf, h0, h1]

/-- Settles O16: the group with no fire, and the group whose first event completes one. -/
theorem unexpectedCutsWasteTheCurtain : Obligations.UnexpectedCutsWasteTheCurtain := by
  constructor
  · intro s n hn hf hT
    obtain ⟨hpacer, hroom, hfull, hrest, heval, hframe⟩ := unexpectedCuts_taken n (s.took (.knifeCountEvents n))
    obtain ⟨hacc, -, -, hwaste⟩ := hT
    refine ⟨_, exec_knifeCountEvents_unexpected hn hf, hpacer.trans ?_, hroom, hfull,
      fun hi => (hrest (.inl hi)).trans hi, fun hi => heval ((waiting_iff s.pacer).2 ⟨hf, hi⟩),
      congrArg (fun v : State => { v with handed := s.handed }) hframe⟩
    rw [dropCurtain_of_inService (by exact hacc) (by exact hwaste)]
    rfl
  · intro s f n hf hn
    let v := s.took (.knifeCountEvents n)
    let u := completeCut f v
    have hacc : u.pacer.acc = 0 := completeCut_acc f v
    obtain ⟨hpacer, hroom, hfull, hrest, heval, hframe⟩ := unexpectedCuts_taken (n - 1) u
    have hfirst : exec (.knifeCountEvents 1)
        { s with handed := .knifeCountEvents 1 :: s.handed.erase (.knifeCountEvents n) } = .next u := by
      rw [exec_knifeCountEvents_one (by exact hf)]
      simp [u, v, State.took]
    have hlength : (u.pacer.acc + 500) / 1000 = 0 := by rw [hacc]
    rw [hlength] at hroom
    refine ⟨u, hfirst, hacc, fun hwaste => ⟨_, exec_knifeCountEvents_split hn hf, hpacer.trans ?_, hroom, hfull,
      fun h => hrest (h.imp_right (fire?_isSome_iff _).1), heval, hframe⟩⟩
    rw [dropCurtain_of_empty hacc hwaste]

end Sys2Proof.Machine
end

section
/-!
SUPPORT. Slots made LOST (R142, R148, R154): what the run over a range of roles leaves of the slots, the pacer, the
chain controller, the zones, the routine queue and the loss timers, in the words of the statements.
-/

namespace Sys2Proof.Machine

/-! ## The sequencer at a fault and at a change of the mode (R128, R129, R132) -/

theorem queuePressCommand_sequencer (s : State) :
    (queuePressCommand s).sequencer =
      { s.sequencer with pressOwed := (queuePressCommand s).sequencer.pressOwed } := by
  rcases queuePressCommand_cases s with ⟨dest, -, -, h⟩ | ⟨-, h⟩ <;> rw [h]

/-- A change of the mode changes of the sequencer the mode and the press command owed. -/
theorem enterModeCore_sequencer (m : LineMode) (r : ModeReason) (c : Option FaultCode) (s : State) :
    (enterModeCore m r c s).sequencer =
      { s.sequencer with mode := m, pressOwed := (enterModeCore m r c s).sequencer.pressOwed } := by
  simp only [enterModeCore, State.hand_sequencer, queueReport_sequencer]
  split
  · rw [queuePressCommand_sequencer]
    rfl
  · rfl

/-- A listed code stays listed, and a new one joins the end of the list and may change the mode (R132). -/
theorem raiseFault_sequencer (code : FaultCode) (d : Nat) (s : State) :
    ∃ owed, (raiseFault code d s).sequencer =
      if s.sequencer.lists code then { s.sequencer with faults := bumpFault code s.sequencer.faults }
      else { s.sequencer with
        faults := s.sequencer.faults ++ [{ code := code, time := s.lineTime, count := 1, detail := d }],
        mode := modeAfterFault s.sequencer.mode s.sequencer.faults.isEmpty, pressOwed := owed } := by
  rcases raiseFault_cases code d s with ⟨hl, h⟩ | ⟨hl, h⟩
  · exact ⟨s.sequencer.pressOwed, by rw [h, if_pos hl]⟩
  · rw [h, hl]
    split
    case isTrue hsame => exact ⟨s.sequencer.pressOwed, by rw [queueReport_sequencer, hsame]; rfl⟩
    case isFalse => exact ⟨_, by rw [enterModeCore_sequencer, queueReport_sequencer]; rfl⟩

/-- A fault leaves the climate loss timers and their marks (R137). -/
theorem raiseFault_loss (code : FaultCode) (d : Nat) (s : State) :
    (raiseFault code d s).sequencer.lossTimers = s.sequencer.lossTimers ∧
    (raiseFault code d s).sequencer.lossRaised = s.sequencer.lossRaised := by
  obtain ⟨owed, h⟩ := raiseFault_sequencer code d s
  rw [h]
  split <;> exact ⟨rfl, rfl⟩

/-- After a fault is raised its code is listed (R132). -/
theorem raiseFault_lists (code : FaultCode) (d : Nat) (s : State) :
    (raiseFault code d s).sequencer.lists code = true := by
  obtain ⟨owed, h⟩ := raiseFault_sequencer code d s
  rw [h]
  split
  case isTrue hl =>
    simp only [Sequencer.lists, List.any_eq_true, decide_eq_true_eq] at hl ⊢
    obtain ⟨e, he, hc⟩ := hl
    exact ⟨_, List.mem_map_of_mem he, by simp [hc]⟩
  case isFalse => simp [Sequencer.lists]

/-! ## The routine queue (R104, R160) -/

/-- What the zone commands see of the trunk port. -/
def State.routineView (s : State) : List Frame × Nat × Bool :=
  (s.port.routine, s.port.fill .routine, s.port.silent)

theorem routineView_congr {s t : State} (h : s.port = t.port) : s.routineView = t.routineView := by
  simp only [State.routineView, h]

/-- Frames of the other queues leave the routine queue. -/
theorem handFrame_routineView {body : FrameBody} (dest : Nat) (s : State) (h : .routine ≠ queueOf body) :
    (handFrame dest body s).routineView = s.routineView := by
  have hentries := handFrame_entries_ne dest body s h
  simp only [State.routineView, handFrame_fill_ne dest body s h, handFrame_silent]
  exact congrArg (·, _) hentries

theorem queueReport_routineView (r : Report) (s : State) : (queueReport r s).routineView = s.routineView := by
  rcases queueReport_cases r s with ⟨-, h⟩ | ⟨-, n, h⟩ <;> rw [h]
  · rfl
  · exact handFrame_routineView _ s nofun

theorem queuePressCommand_routineView (s : State) : (queuePressCommand s).routineView = s.routineView := by
  rcases queuePressCommand_cases s with ⟨dest, -, -, h⟩ | ⟨-, h⟩ <;> rw [h]
  · exact handFrame_routineView _ s nofun
  · rfl

theorem enterModeCore_routineView (m : LineMode) (r : ModeReason) (c : Option FaultCode) (s : State) :
    (enterModeCore m r c s).routineView = s.routineView := by
  have hreport (u : State) : ((queueReport (.modeChange s.sequencer.mode m r c) u).hand
      (.pacerModeChange s.sequencer.mode m) |>.hand (.chainModeChange s.sequencer.mode m)).routineView =
      u.routineView := queueReport_routineView _ u
  rw [enterModeCore, hreport]
  split
  · exact queuePressCommand_routineView (setMode m s)
  · rfl

theorem raiseFault_routineView (code : FaultCode) (d : Nat) (s : State) :
    (raiseFault code d s).routineView = s.routineView := by
  rcases raiseFault_cases code d s with ⟨-, h⟩ | ⟨-, h⟩ <;> rw [h]
  · rfl
  · split
    · exact queueReport_routineView _ _
    · exact (enterModeCore_routineView _ _ _ _).trans (queueReport_routineView _ _)

theorem speedLostTest_routineView (s : State) : (speedLostTest s).routineView = s.routineView := by
  rw [speedLostTest]
  split
  · exact raiseFault_routineView _ _ s
  · rfl

/-! ## Zone commands of one kind and zone (R103, R104) -/

/-- The commands of one kind and zone in a queue. -/
def commandsOf (key : Option (ZoneCommandKind × Nat)) (fs : List Frame) : List Frame :=
  fs.filter (fun f => decide (zoneKey f.body = key))

section ZoneCommands

variable {role : Nat} {body : FrameBody} {s : State} {key : Option (ZoneCommandKind × Nat)}

theorem hasZoneCommand_iff (body : FrameBody) (fs : List Frame) :
    hasZoneCommand body fs = true ↔ ∃ f ∈ fs, zoneKey f.body = zoneKey body := by
  simp [hasZoneCommand]

/-- A replacement leaves the commands of other kinds and zones. -/
theorem commandsOf_replaceZoneCommand_ne {f : Frame} (h : key ≠ zoneKey f.body) (fs : List Frame) :
    commandsOf key (replaceZoneCommand f fs) = commandsOf key fs := by
  induction fs with
  | nil => rfl
  | cons e fs ih =>
    simp only [commandsOf, replaceZoneCommand, List.map_cons, List.filter_cons] at ih ⊢
    rw [ih]
    by_cases he : zoneKey e.body = zoneKey f.body
    · simp [he, h.symm]
    · simp [he]

/-- After a replacement every command of the kind and zone is the new one. -/
theorem mem_commandsOf_replaceZoneCommand {f g : Frame} {fs : List Frame}
    (h : g ∈ commandsOf (zoneKey f.body) (replaceZoneCommand f fs)) : g = f := by
  simp only [commandsOf, replaceZoneCommand, List.mem_filter, List.mem_map, decide_eq_true_eq] at h
  obtain ⟨⟨e, -, he⟩, hkey⟩ := h
  split at he
  · exact he.symm
  · exact absurd (he ▸ hkey) ‹_›

theorem hasRoom_routine_iff (p : Port) : p.hasRoom .routine = true ↔ p.fill .routine < 24 := decide_eq_true_iff

/-- A zone command handed to the port joins the routine queue's tail while that has room in an ordinary node. -/
theorem handFrame_routine (dest : Nat) (s : State) (hq : queueOf body = .routine) :
    (handFrame dest body s).port.routine = s.port.routine ++
      (if s.port.silent = false ∧ s.port.fill .routine < 24
       then [{ number := inc32 s.port.frameCount, dest := dest, body := body }] else []) := by
  have hentries := handFrame_entries_self dest body s
  rw [hq] at hentries
  simp only [hasRoom_routine_iff] at hentries
  exact hentries

/-- A zone command raises the routine queue's fill by at most one, and leaves the node. -/
theorem queueZoneCommand_fill (hq : queueOf body = .routine) :
    s.port.fill .routine ≤ (queueZoneCommand role body s).port.fill .routine ∧
    (queueZoneCommand role body s).port.fill .routine ≤ s.port.fill .routine + 1 ∧
    (queueZoneCommand role body s).port.silent = s.port.silent := by
  rcases queueZoneCommand_cases role body s with h | ⟨dest, -, ⟨-, h⟩ | ⟨-, -, h⟩⟩ <;> rw [h]
  · exact ⟨Nat.le_refl _, Nat.le_succ _, rfl⟩
  · have hsame : (queueZoneCommand role body s).port.fill .routine = s.port.fill .routine := by
      rw [h]; exact congrArg (· + s.port.contending .routine) (List.length_map ..)
    rw [h] at hsame
    rw [hsame]
    exact ⟨Nat.le_refl _, Nat.le_succ _, rfl⟩
  · have hcontending := handFrame_contending dest body s .routine
    have hlength : s.port.routine.length ≤ (handFrame dest body s).port.routine.length ∧
        (handFrame dest body s).port.routine.length ≤ s.port.routine.length + 1 := by
      rw [handFrame_routine dest s hq, List.length_append]
      split <;> simp
    simp only [Port.fill, Port.entries, hcontending]
    exact ⟨by omega, by omega, handFrame_silent _ _ s⟩

/-- A zone command leaves those of other kinds and zones. -/
theorem queueZoneCommand_commandsOf_ne (hq : queueOf body = .routine) (h : key ≠ zoneKey body) :
    commandsOf key (queueZoneCommand role body s).port.routine = commandsOf key s.port.routine := by
  rcases queueZoneCommand_cases role body s with hz | ⟨dest, -, ⟨-, hz⟩ | ⟨-, -, hz⟩⟩ <;> rw [hz]
  · exact commandsOf_replaceZoneCommand_ne (by exact h) _
  · rw [handFrame_routine dest s hq, commandsOf, List.filter_append]
    split
    · simp [h.symm, commandsOf]
    · simp [commandsOf]

/-- A zone command with its entry that finds its like, or room in an ordinary node, then stands alone of its kind and
zone. -/
theorem queueZoneCommand_queued {dest : Nat} (hq : queueOf body = .routine) (hd : s.talkNode role = some dest)
    (h : (∃ f ∈ s.port.routine, zoneKey f.body = zoneKey body) ∨
      (s.port.silent = false ∧ s.port.fill .routine < 24)) :
    commandsOf (zoneKey body) (queueZoneCommand role body s).port.routine ≠ [] ∧
    ∀ f ∈ commandsOf (zoneKey body) (queueZoneCommand role body s).port.routine, f.dest = dest ∧ f.body = body := by
  by_cases hz : hasZoneCommand body s.port.routine = true
  · obtain ⟨e, he, hkey⟩ := (hasZoneCommand_iff _ _).1 hz
    have heq : (queueZoneCommand role body s).port.routine =
        replaceZoneCommand { number := s.nextFrame, dest := dest, body := body } s.port.routine := by
      simp [queueZoneCommand, hd, hz]
    rw [heq]
    refine ⟨List.ne_nil_of_mem (a := { number := s.nextFrame, dest := dest, body := body }) ?_, fun f hf => ?_⟩
    · simp only [commandsOf, replaceZoneCommand, List.mem_filter, List.mem_map]
      exact ⟨⟨e, he, by simp [hkey]⟩, by simp⟩
    · have hfe := mem_commandsOf_replaceZoneCommand
        (f := { number := s.nextFrame, dest := dest, body := body }) hf
      rw [hfe]
      exact ⟨rfl, rfl⟩
  · have hnone : commandsOf (zoneKey body) s.port.routine = [] := by
      rw [commandsOf, List.filter_eq_nil_iff]
      intro f hf hkey
      exact hz ((hasZoneCommand_iff _ _).2 ⟨f, hf, of_decide_eq_true hkey⟩)
    obtain ⟨hsilent, hfill⟩ := h.resolve_left (fun hl => hz ((hasZoneCommand_iff _ _).2 hl))
    have heq : (queueZoneCommand role body s).port.routine = s.port.routine ++
        [{ number := inc32 s.port.frameCount, dest := dest, body := body }] := by
      simp only [queueZoneCommand, hd, hz, (hasRoom_routine_iff _).2 hfill]
      exact (handFrame_routine dest s hq).trans (by rw [if_pos ⟨hsilent, hfill⟩])
    rw [heq, commandsOf, List.filter_append, ← commandsOf, hnone]
    simp

/-- Without its entry, or with the queue full and none of its kind and zone in it, a zone command is not queued. -/
theorem queueZoneCommand_unqueued (h : s.talkNode role = none ∨
    (¬ (∃ f ∈ s.port.routine, zoneKey f.body = zoneKey body) ∧ 24 ≤ s.port.fill .routine)) :
    queueZoneCommand role body s = s := by
  rcases h with h | ⟨hz, hfull⟩
  · simp only [queueZoneCommand, h]
  · rw [← hasZoneCommand_iff] at hz
    have hroom : s.port.hasRoom .routine = false :=
      decide_eq_false (fun hlt => absurd hfull (Nat.not_le.2 hlt))
    cases hd : s.talkNode role <;> simp [queueZoneCommand, hd, hz, hroom]

end ZoneCommands

/-- The ZONE_CLIMATE of a zone in the words of the statements (R103). -/
theorem zoneClimateBody_eq (s : State) (k : Nat) :
    s.zoneClimateBody k = climateCommand s k (s.zoneState k).tempSetpoint (s.zoneState k).demand := by
  simp only [State.zoneClimateBody, climateCommand]
  cases (s.zoneEntry k).form with
  | single => rfl
  | divided => rfl
  | biased =>
    simp only [firstOutput, secondOutput]
    congr 1
    omega

theorem zoneKey_climateCommand (s : State) (k : Nat) (temp demand : Int) :
    zoneKey (climateCommand s k temp demand) = some (.climate, k) := by
  rw [climateCommand]
  cases (s.zoneEntry k).form <;> rfl

theorem queueOf_climateCommand (s : State) (k : Nat) (temp demand : Int) :
    queueOf (climateCommand s k temp demand) = .routine := by
  rw [climateCommand]
  cases (s.zoneEntry k).form <;> rfl

end Sys2Proof.Machine
end

section
/-!
SUPPORT. The loss of a range of slots (R136, R137, R142, R148, R154): what each slot's report changes, and the whole run
in the words of the statements.
-/

namespace Sys2Proof.Machine

/-! ## The report of a loss by its role (R148) -/

/-- The block that takes the report, by the role. -/
theorem reportLoss_cases (role : Nat) (s : State) :
    (role = 0 ∧ reportLoss role s = speedLostTest { s with pacer := { s.pacer with lastTick := none } }) ∨
    ((role = 3 ∨ role = 4) ∧ reportLoss role s = { s with chain := { s.chain with revBaseline := false } }) ∨
    (∃ k, k < 12 ∧ role = 8 + k ∧ reportLoss role s = climateSlotLost k s) ∨
    (∃ k, k < 12 ∧ role = 20 + k ∧ reportLoss role s =
      climateSlotLost k (if k < s.canes.zoneCount then refreshDemand k s else s)) ∨
    (role ≠ 0 ∧ role ≠ 3 ∧ role ≠ 4 ∧ (role < 8 ∨ 32 ≤ role) ∧ reportLoss role s = s) := by
  by_cases h0 : role = 0
  · exact .inl ⟨h0, if_pos h0⟩
  by_cases h34 : role = 3 ∨ role = 4
  · exact .inr (.inl ⟨h34, (if_neg h0).trans (if_pos h34)⟩)
  obtain ⟨h3, h4⟩ := not_or.1 h34
  by_cases h8 : 8 ≤ role ∧ role < 20
  · exact .inr (.inr (.inl ⟨role - 8, by omega, by omega, (if_neg h0).trans ((if_neg h34).trans (if_pos h8))⟩))
  by_cases h20 : 20 ≤ role ∧ role < 32
  · exact .inr (.inr (.inr (.inl ⟨role - 20, by omega, by omega,
      (if_neg h0).trans ((if_neg h34).trans ((if_neg h8).trans (if_pos h20)))⟩)))
  · exact .inr (.inr (.inr (.inr ⟨h0, h3, h4, by omega,
      (if_neg h0).trans ((if_neg h34).trans ((if_neg h8).trans (if_neg h20)))⟩)))

/-- The timer and the mark of a zone's climate loss (R125, R137). -/
def State.lossState (s : State) (k : Nat) : LatchTimer × Bool := (s.lossTimer k, s.lossMark k)

theorem lossState_congr {s t : State} (ht : s.sequencer.lossTimers = t.sequencer.lossTimers)
    (hm : s.sequencer.lossRaised = t.sequencer.lossRaised) (k : Nat) : s.lossState k = t.lossState k := by
  simp only [State.lossState, State.lossTimer, State.lossMark, ht, hm]

theorem zoneState_congr {s t : State} (h : s.climate.zones = t.climate.zones) (k : Nat) :
    s.zoneState k = t.zoneState k := by simp only [State.zoneState, h]

/-- A climate slot's loss changes of the sequencer the loss timers and their marks. -/
theorem climateSlotLost_sequencer (k : Nat) (s : State) :
    { (climateSlotLost k s).sequencer with
      lossTimers := s.sequencer.lossTimers, lossRaised := s.sequencer.lossRaised } = s.sequencer := by
  rw [climateSlotLost]
  split <;> rfl

theorem setLoss_lossState {j : Nat} {s : State} (x : LatchTimer) (m : Bool)
    (ht : s.sequencer.lossTimers.length = 12) (hm : s.sequencer.lossRaised.length = 12) (hj : j < 12) (k : Nat) :
    (s.setLoss j x m).lossState k = if j = k then (x, m) else s.lossState k := by
  simp only [State.lossState, State.lossTimer, State.lossMark, State.setLoss, List.getD_eq_getElem?_getD,
    List.getElem?_set, ht, hm, hj, if_true]
  split <;> rfl

/-- A climate slot's loss starts a configured zone's stopped timer, and no other (R137). -/
theorem climateSlotLost_lossState (j k : Nat) {s : State} (ht : s.sequencer.lossTimers.length = 12)
    (hm : s.sequencer.lossRaised.length = 12) (hz : s.canes.zoneCount ≤ 12) :
    (climateSlotLost j s).lossState k =
      if j = k ∧ k < s.canes.zoneCount ∧ s.lossTimer k = .stopped
      then (.running (s.lineTime + s.line.climateLossLimit), false) else s.lossState k := by
  by_cases h : j < s.canes.zoneCount ∧ s.lossTimer j = .stopped
  · rw [climateSlotLost, if_pos h, setLoss_lossState _ _ ht hm (by omega)]
    by_cases hk : j = k
    · subst hk; simp [h]
    · simp [hk]
  · rw [climateSlotLost, if_neg h, if_neg (by rintro ⟨rfl, hk⟩; exact h hk)]

theorem speedLostTest_lossState (s : State) (k : Nat) : (speedLostTest s).lossState k = s.lossState k := by
  rw [speedLostTest]
  split
  · exact lossState_congr (raiseFault_loss _ _ s).1 (raiseFault_loss _ _ s).2 k
  · rfl

/-- The SPEED_LOST test with the speed slot LOST, in the words of the statements (R132, R136). -/
theorem speedLossTested_speedLostTest {s : State} (h : s.isLost 0 = true) : SpeedLossTested s (speedLostTest s) := by
  rw [speedLostTest, show s.isLost roleSpeed = true from h, Bool.true_and]
  refine ⟨fun hm => ?_, fun hm => ?_⟩
  · rw [if_pos hm]
    refine ⟨raiseFault_lists _ _ s, fun hl => ?_⟩
    obtain ⟨owed, hraise⟩ := raiseFault_sequencer .speedLost 0 s
    have hsteps : LineMode.allowsSteps s.sequencer.mode = true := by
      cases hmode : s.sequencer.mode <;> simp_all [LineMode.allowsFires, LineMode.allowsSteps]
    rw [hraise, hl]
    refine ⟨rfl, ?_⟩
    cases s.sequencer.faults <;> simp [modeAfterFault, hsteps]
  · rw [hm]
    exact ⟨rfl, rfl⟩

/-! ## A zone's demand (R102, R103) -/

theorem zoneState_setZone {j : Nat} {s : State} (z : ZoneState) (k : Nat) (h : j < s.climate.zones.length) :
    (s.setZone j z).zoneState k = if k = j then z else s.zoneState k := by
  simp only [State.zoneState, State.setZone, List.getD_eq_getElem?_getD, List.getElem?_set]
  by_cases hk : k = j
  · subst hk; simp [h]
  · simp [hk, Ne.symm hk]

/-- With the humidity slot LOST the demand becomes 0 and the neutral ZONE_CLIMATE is queued. -/
theorem refreshDemand_of_lost {k : Nat} {s : State} (hl : s.isLost (20 + k) = true)
    (h : k < s.climate.zones.length) :
    refreshDemand k s = queueZoneCommand (4 + k) (climateCommand s k (s.zoneState k).tempSetpoint 0)
      (s.setZone k { s.zoneState k with demand := 0 }) := by
  have hdemand : s.humidityDemand k = 0 := by
    simp only [State.humidityDemand, State.reading, roleZoneRh, hl, if_true]
  have hzone := zoneState_setZone { s.zoneState k with demand := 0 } k h
  rw [if_pos rfl] at hzone
  rw [refreshDemand, hdemand, queueZoneClimate, zoneClimateBody_eq, hzone]
  rfl

/-! ## One slot made LOST -/

section OneSlot

variable (role : Nat) (s : State)

/-- The slots, and nothing else, are made LOST in `s.setSlot`; the report is taken there. -/
theorem makeLost_signals :
    (makeLost role s).signals =
      { s.signals with slots := s.signals.slots.set role (s.slot role).madeLost } := by
  rcases makeLost_cases role s with ⟨-, h⟩ | ⟨-, h⟩ <;> rw [h]
  · rfl
  · rw [reportLoss_signals]; rfl

theorem slot_setSlot (x : Slot) (i : Nat) (h : role < s.signals.slots.length) :
    (s.setSlot role x).slot i = if i = role then x else s.slot i := by
  simp only [State.slot, State.setSlot_signals, List.getD_eq_getElem?_getD, List.getElem?_set]
  by_cases hi : i = role
  · subst hi; simp [h]
  · simp [hi, Ne.symm hi]

theorem makeLost_slot (i : Nat) (h : role < s.signals.slots.length) :
    (makeLost role s).slot i = if i = role then (s.slot role).madeLost else s.slot i := by
  rw [← slot_setSlot role s _ i h, State.slot, makeLost_signals]
  rfl

/-- The slot being made LOST reads as LOST when its report is taken. -/
theorem isLost_setSlot_madeLost (h : role < s.signals.slots.length) :
    (s.setSlot role (s.slot role).madeLost).isLost role = true := by
  rw [State.isLost, slot_setSlot role s _ role h, if_pos rfl]
  exact decide_eq_true rfl

/-- A loss of a slot that was LOST already reports nothing. -/
theorem makeLost_of_lost (h : s.isLost role = true) : makeLost role s = s.setSlot role (s.slot role).madeLost := by
  simp only [makeLost, h, if_true]

theorem makeLost_of_passing (h : s.isLost role = false) :
    makeLost role s = reportLoss role (s.setSlot role (s.slot role).madeLost) := by
  simp only [makeLost, h, Bool.false_eq_true, if_false]

/-- The pacer forgets its last arrival with the speed slot (R136). -/
theorem makeLost_pacer :
    (makeLost role s).pacer =
      if role = 0 ∧ s.isLost role = false then { s.pacer with lastTick := none } else s.pacer := by
  cases hl : s.isLost role with
  | true => rw [makeLost_of_lost role s hl]; simp
  | false =>
    rw [makeLost_of_passing role s hl]
    rcases reportLoss_cases role (s.setSlot role (s.slot role).madeLost) with
      ⟨hr, h⟩ | ⟨hr, h⟩ | ⟨k, -, hr, h⟩ | ⟨k, -, hr, h⟩ | ⟨hr, -, -, -, h⟩ <;> rw [h]
    · simp [hr]
    · have hne : role ≠ 0 := by omega
      simp [hne]
    · have hne : role ≠ 0 := by omega
      simp [hne]
    · have hne : role ≠ 0 := by omega
      rw [climateSlotLost_pacer]
      split <;> simp [hne]
    · simp [hr]

/-- The chain controller's revolution baseline goes with either chain slot (R148). -/
theorem makeLost_chain :
    (makeLost role s).chain =
      if (role = 3 ∨ role = 4) ∧ s.isLost role = false then { s.chain with revBaseline := false } else s.chain := by
  cases hl : s.isLost role with
  | true => rw [makeLost_of_lost role s hl]; simp
  | false =>
    rw [makeLost_of_passing role s hl]
    rcases reportLoss_cases role (s.setSlot role (s.slot role).madeLost) with
      ⟨hr, h⟩ | ⟨hr, h⟩ | ⟨k, -, hr, h⟩ | ⟨k, -, hr, h⟩ | ⟨-, h3, h4, -, h⟩ <;> rw [h]
    · simp [hr]
    · simp [hr]
    · have hne : ¬ (role = 3 ∨ role = 4) := by omega
      simp [hne]
    · have hne : ¬ (role = 3 ∨ role = 4) := by omega
      rw [climateSlotLost_chain]
      split <;> simp [hne]
    · simp [h3, h4]

/-- Every role but the speed slot's leaves the mode and the fault list. -/
theorem makeLost_faults (h : role ≠ 0 ∨ s.isLost role = true) :
    (makeLost role s).sequencer.mode = s.sequencer.mode ∧
    (makeLost role s).sequencer.faults = s.sequencer.faults := by
  have climate (k : Nat) (t : State) (ht : t.sequencer = s.sequencer) :
      (climateSlotLost k t).sequencer.mode = s.sequencer.mode ∧
      (climateSlotLost k t).sequencer.faults = s.sequencer.faults := by
    have hseq := climateSlotLost_sequencer k t
    have hmode := congrArg Sequencer.mode hseq
    have hfaults := congrArg Sequencer.faults hseq
    rw [← ht]
    exact ⟨hmode, hfaults⟩
  cases hl : s.isLost role with
  | true => rw [makeLost_of_lost role s hl]; exact ⟨rfl, rfl⟩
  | false =>
    have hne : role ≠ 0 := h.resolve_right (by simp [hl])
    rw [makeLost_of_passing role s hl]
    rcases reportLoss_cases role (s.setSlot role (s.slot role).madeLost) with
      ⟨hr, h⟩ | ⟨-, h⟩ | ⟨k, -, -, h⟩ | ⟨k, -, -, h⟩ | ⟨-, -, -, -, h⟩ <;> rw [h]
    · exact absurd hr hne
    · exact ⟨rfl, rfl⟩
    · exact climate k _ rfl
    · refine climate k _ ?_
      split <;> simp
    · exact ⟨rfl, rfl⟩

/-- The speed slot's loss makes the SPEED_LOST test (R136). -/
theorem makeLost_speed (hl : s.isLost 0 = false) (h : 0 < s.signals.slots.length) :
    SpeedLossTested s (makeLost 0 s) := by
  rw [makeLost_of_passing 0 s hl]
  exact speedLossTested_speedLostTest
    (s := { s.setSlot 0 (s.slot 0).madeLost with pacer := { s.pacer with lastTick := none } })
    (isLost_setSlot_madeLost 0 s h)

/-- A zone's demand becomes 0 with its configured humidity slot (R102). -/
theorem makeLost_zoneState (k : Nat) (h : role < s.signals.slots.length) (hz : s.climate.zones.length = 12)
    (hc : s.canes.zoneCount ≤ 12) :
    (makeLost role s).zoneState k =
      if (role = 20 + k ∧ k < s.canes.zoneCount) ∧ s.isLost role = false
      then { s.zoneState k with demand := 0 } else s.zoneState k := by
  cases hl : s.isLost role with
  | true => rw [makeLost_of_lost role s hl, if_neg (by simp)]; rfl
  | false =>
    rw [makeLost_of_passing role s hl]
    have hlost := isLost_setSlot_madeLost role s h
    rcases reportLoss_cases role (s.setSlot role (s.slot role).madeLost) with
      ⟨hr, e⟩ | ⟨hr, e⟩ | ⟨j, hj, hr, e⟩ | ⟨j, hj, hr, e⟩ | ⟨-, -, -, hr, e⟩ <;> rw [e]
    · rw [if_neg (by omega)]
      exact zoneState_congr (congrArg Climate.zones (speedLostTest_climate _)) k
    · rw [if_neg (by omega)]; rfl
    · rw [if_neg (by omega)]
      exact zoneState_congr (congrArg Climate.zones (climateSlotLost_climate _ _)) k
    · rw [zoneState_congr (congrArg Climate.zones (climateSlotLost_climate _ _)) k]
      subst hr
      by_cases hc : j < s.canes.zoneCount
      · rw [if_pos (by exact hc), refreshDemand_of_lost hlost (by exact hz ▸ hj),
          zoneState_congr (congrArg Climate.zones (queueZoneCommand_climate _ _ _)) k,
          zoneState_setZone _ _ (by exact hz ▸ hj)]
        by_cases hk : k = j
        · subst hk
          rw [if_pos rfl, if_pos ⟨⟨rfl, hc⟩, rfl⟩]
          rfl
        · rw [if_neg hk, if_neg (by omega)]; rfl
      · rw [if_neg (by exact hc), if_neg (by omega)]; rfl
    · rw [if_neg (by omega)]; rfl

/-- A configured zone's stopped loss timer starts with either of its slots (R137). -/
theorem makeLost_lossState (k : Nat) (ht : s.sequencer.lossTimers.length = 12)
    (hm : s.sequencer.lossRaised.length = 12) (hc : s.canes.zoneCount ≤ 12) :
    (makeLost role s).lossState k =
      if ((role = 8 + k ∨ role = 20 + k) ∧ s.isLost role = false) ∧ k < s.canes.zoneCount ∧ s.lossTimer k = .stopped
      then (.running (s.lineTime + s.line.climateLossLimit), false) else s.lossState k := by
  cases hl : s.isLost role with
  | true => rw [makeLost_of_lost role s hl, if_neg (by simp)]; rfl
  | false =>
    have climate (j : Nat) (w : State) (hseq : w.sequencer = s.sequencer) (hcanes : w.canes = s.canes)
        (htime : w.lineTime = s.lineTime) (hline : w.line = s.line) :
        (climateSlotLost j w).lossState k = if j = k ∧ k < s.canes.zoneCount ∧ s.lossTimer k = .stopped
          then (.running (s.lineTime + s.line.climateLossLimit), false) else s.lossState k := by
      have htimer : w.lossTimer k = s.lossTimer k := by simp only [State.lossTimer, hseq]
      rw [climateSlotLost_lossState j k (hseq ▸ ht) (hseq ▸ hm) (hcanes ▸ hc), htimer, hcanes, htime, hline,
        lossState_congr (congrArg Sequencer.lossTimers hseq) (congrArg Sequencer.lossRaised hseq) k]
    rw [makeLost_of_passing role s hl]
    rcases reportLoss_cases role (s.setSlot role (s.slot role).madeLost) with
      ⟨hr, e⟩ | ⟨hr, e⟩ | ⟨j, hj, hr, e⟩ | ⟨j, hj, hr, e⟩ | ⟨-, -, -, hr, e⟩ <;> rw [e]
    · rw [if_neg (by omega)]
      exact speedLostTest_lossState _ k
    · rw [if_neg (by omega)]; rfl
    · rw [climate j (s.setSlot role (s.slot role).madeLost) rfl rfl rfl rfl]
      by_cases hk : j = k
      · simp [hk, hr]
      · rw [if_neg (by omega), if_neg (by omega)]
    · rw [climate j _ (by split <;> simp) (by split <;> simp) (by split <;> simp) (by split <;> simp)]
      by_cases hk : j = k
      · simp [hk, hr]
      · rw [if_neg (by omega), if_neg (by omega)]
    · rw [if_neg (by omega)]; rfl

/-- The zone's humidity slot queues its neutral ZONE_CLIMATE, from a state with the port and the talk table of before
(R103). -/
theorem makeLost_zoneCommand {k : Nat} (hk : k < s.canes.zoneCount) (hc : s.canes.zoneCount ≤ 12)
    (hz : s.climate.zones.length = 12) (h : 20 + k < s.signals.slots.length) (hl : s.isLost (20 + k) = false) :
    ∃ v : State, v.port = s.port ∧ v.signals.talk = s.signals.talk ∧ (makeLost (20 + k) s).port =
      (queueZoneCommand (4 + k) (climateCommand s k (s.zoneState k).tempSetpoint 0) v).port := by
  let u := s.setSlot (20 + k) (s.slot (20 + k)).madeLost
  have hlost : u.isLost (20 + k) = true := isLost_setSlot_madeLost (20 + k) s h
  refine ⟨u.setZone k { u.zoneState k with demand := 0 }, rfl, rfl, ?_⟩
  have hlen : k < u.climate.zones.length := by exact hz ▸ Nat.lt_of_lt_of_le hk hc
  rw [makeLost_of_passing _ s hl]
  rcases reportLoss_cases (20 + k) u with ⟨hr, -⟩ | ⟨hr, -⟩ | ⟨j, hj, hr, -⟩ | ⟨j, hj, hr, e⟩ | ⟨-, -, -, hr, -⟩
  · omega
  · omega
  · omega
  · obtain rfl : j = k := by omega
    rw [e, climateSlotLost_port, if_pos (by exact hk), refreshDemand_of_lost hlost hlen]
    rfl
  · omega

/-- Every role hands to the routine queue at most one zone command, of its own zone (R103). -/
theorem makeLost_routine :
    (makeLost role s).routineView = s.routineView ∨
    ∃ k v, role = 20 + k ∧ v.port = s.port ∧ (makeLost role s).port =
      (queueZoneCommand (4 + k) (v.zoneClimateBody k) v).port := by
  cases hl : s.isLost role with
  | true => rw [makeLost_of_lost role s hl]; exact .inl rfl
  | false =>
    let u := s.setSlot role (s.slot role).madeLost
    rw [makeLost_of_passing role s hl]
    rcases reportLoss_cases role u with
      ⟨-, e⟩ | ⟨-, e⟩ | ⟨j, -, hr, e⟩ | ⟨j, -, hr, e⟩ | ⟨-, -, -, -, e⟩ <;> rw [e]
    · exact .inl (speedLostTest_routineView _)
    · exact .inl rfl
    · exact .inl (routineView_congr (climateSlotLost_port _ _))
    · by_cases hj : j < u.canes.zoneCount
      · refine .inr ⟨j, u.setZone j { u.zoneState j with demand := u.humidityDemand j }, hr, rfl, ?_⟩
        rw [climateSlotLost_port, if_pos hj]
        rfl
      · rw [if_neg hj]
        exact .inl (routineView_congr (climateSlotLost_port _ _))
    · exact .inl rfl

/-- The commands of the other zones stand. -/
theorem makeLost_commandsOf_ne {k : Nat} (h : role ≠ 20 + k) :
    commandsOf (some (.climate, k)) (makeLost role s).port.routine = commandsOf (some (.climate, k)) s.port.routine := by
  rcases makeLost_routine role s with e | ⟨j, v, hr, hp, e⟩
  · rw [show (makeLost role s).port.routine = s.port.routine from congrArg Prod.fst e]
  · have hne : some (ZoneCommandKind.climate, k) ≠ zoneKey (v.zoneClimateBody j) := by
      rw [zoneClimateBody_eq, zoneKey_climateCommand]
      rintro ⟨⟩
      exact h hr
    rw [e, queueZoneCommand_commandsOf_ne (by rw [zoneClimateBody_eq, queueOf_climateCommand]) hne, hp]

/-- The routine queue's fill does not fall, and rises by at most one at a humidity slot. -/
theorem makeLost_fill :
    s.port.fill .routine ≤ (makeLost role s).port.fill .routine ∧
    (makeLost role s).port.fill .routine ≤ s.port.fill .routine + (if 20 ≤ role then 1 else 0) ∧
    (makeLost role s).port.silent = s.port.silent := by
  rcases makeLost_routine role s with e | ⟨j, v, hr, hp, e⟩
  · have hview := congrArg Prod.snd e
    have hfill := congrArg Prod.fst hview
    have hsilent := congrArg Prod.snd hview
    simp only [State.routineView] at hfill hsilent
    rw [hfill, hsilent]
    exact ⟨Nat.le_refl _, Nat.le_add_right _ _, rfl⟩
  · rw [e, ← hp, if_pos (by omega)]
    exact queueZoneCommand_fill (by rw [zoneClimateBody_eq, queueOf_climateCommand])

theorem makeLost_talk : (makeLost role s).signals.talk = s.signals.talk := by rw [makeLost_signals]

/-- The tables of the zones keep their lengths. -/
theorem makeLost_zones_length : (makeLost role s).climate.zones.length = s.climate.zones.length := by
  have refresh (k : Nat) (u : State) : (refreshDemand k u).climate.zones.length = u.climate.zones.length := by
    rw [refreshDemand, queueZoneClimate, queueZoneCommand_climate]
    exact List.length_set
  rcases makeLost_cases role s with ⟨-, e⟩ | ⟨-, e⟩ <;> rw [e]
  · rfl
  · rcases reportLoss_cases role (s.setSlot role (s.slot role).madeLost) with
      ⟨-, e⟩ | ⟨-, e⟩ | ⟨j, -, -, e⟩ | ⟨j, -, -, e⟩ | ⟨-, -, -, -, e⟩ <;> rw [e]
    · rw [speedLostTest_climate]; rfl
    · rfl
    · rw [climateSlotLost_climate]; rfl
    · rw [climateSlotLost_climate]
      split
      · exact refresh j _
      · rfl
    · rfl

theorem makeLost_loss_length :
    (makeLost role s).sequencer.lossTimers.length = s.sequencer.lossTimers.length ∧
    (makeLost role s).sequencer.lossRaised.length = s.sequencer.lossRaised.length := by
  have climate (k : Nat) (u : State) (hu : u.sequencer = s.sequencer) :
      (climateSlotLost k u).sequencer.lossTimers.length = s.sequencer.lossTimers.length ∧
      (climateSlotLost k u).sequencer.lossRaised.length = s.sequencer.lossRaised.length := by
    rw [climateSlotLost, ← hu]
    split
    · exact ⟨List.length_set, List.length_set⟩
    · exact ⟨rfl, rfl⟩
  rcases makeLost_cases role s with ⟨-, e⟩ | ⟨-, e⟩ <;> rw [e]
  · exact ⟨rfl, rfl⟩
  · rcases reportLoss_cases role (s.setSlot role (s.slot role).madeLost) with
      ⟨-, e⟩ | ⟨-, e⟩ | ⟨j, -, -, e⟩ | ⟨j, -, -, e⟩ | ⟨-, -, -, -, e⟩ <;> rw [e]
    · rw [speedLostTest]
      split
      · rw [(raiseFault_loss _ _ _).1, (raiseFault_loss _ _ _).2]
        exact ⟨rfl, rfl⟩
      · exact ⟨rfl, rfl⟩
    · exact ⟨rfl, rfl⟩
    · exact climate j _ rfl
    · refine climate j _ ?_
      split <;> simp
    · exact ⟨rfl, rfl⟩

end OneSlot

/-! ## Statements that look at part of the state after -/

theorem speedLossTested_congr {s t u : State} (hm : u.sequencer.mode = t.sequencer.mode)
    (hf : u.sequencer.faults = t.sequencer.faults) (h : SpeedLossTested s t) : SpeedLossTested s u := by
  simp only [SpeedLossTested, Sequencer.lists, hm, hf] at h ⊢
  exact h

/-- What the statements say of a zone command among others, by the commands of its kind and zone. -/
theorem zoneCommandAmong_iff {s t : State} {role n : Nat} {body : FrameBody}
    {key : Option (ZoneCommandKind × Nat)} (h : zoneKey body = key) :
    ZoneCommandAmong s t role body n ↔
      (∀ dest, s.talkNode role = some dest → (∃ f ∈ s.port.routine, zoneKey f.body = key) ∨
          (s.port.silent = false ∧ s.port.fill .routine + n ≤ 24) →
        commandsOf key t.port.routine ≠ [] ∧ ∀ f ∈ commandsOf key t.port.routine, f.dest = dest ∧ f.body = body) ∧
      (s.talkNode role = none ∨ (¬ (∃ f ∈ s.port.routine, zoneKey f.body = key) ∧ 24 ≤ s.port.fill .routine) →
        commandsOf key t.port.routine = commandsOf key s.port.routine) := by
  subst h
  exact Iff.rfl

theorem zoneCommandAmong_congr {s t u : State} {role n : Nat} {body : FrameBody}
    {key : Option (ZoneCommandKind × Nat)} (hkey : zoneKey body = key)
    (h : commandsOf key u.port.routine = commandsOf key t.port.routine)
    (ha : ZoneCommandAmong s t role body n) : ZoneCommandAmong s u role body n := by
  rw [zoneCommandAmong_iff hkey] at ha ⊢
  rwa [h]

theorem exists_zoneKey_iff (key : Option (ZoneCommandKind × Nat)) (fs : List Frame) :
    (∃ f ∈ fs, zoneKey f.body = key) ↔ commandsOf key fs ≠ [] := by
  simp [commandsOf, List.filter_eq_nil_iff]

/-! ## A range of slots made LOST, in ascending order (R142, R154) -/

/-- The slots of `n` roles from `first` on are made LOST. -/
def lossRun (first n : Nat) (s : State) : State := forEach n (fun k => makeLost (first + k)) s

/-- The slot of the role passes into LOST in the run from `s`. -/
@[reducible] def Passes (first n : Nat) (s : State) (r : Nat) : Prop :=
  (first ≤ r ∧ r < first + n) ∧ s.isLost r = false

section LossRun

variable {first n : Nat} {s : State}

theorem lossRun_succ (first n : Nat) (s : State) :
    lossRun first (n + 1) s = makeLost (first + n) (lossRun first n s) := forEach_succ _ _ _

theorem lossRun_keeps {α : Type} (g : State → α) (h : ∀ r t, g (makeLost r t) = g t) (first n : Nat) (s : State) :
    g (lossRun first n s) = g s := forEach_keeps g _ (fun k t => h (first + k) t) n s

theorem passes_succ (r : Nat) :
    Passes first (n + 1) s r ↔ Passes first n s r ∨ (first + n = r ∧ s.isLost r = false) := by
  simp only [Passes, ← or_and_right]
  refine and_congr_left fun _ => ?_
  omega

theorem lossRun_slotCount (first n : Nat) (s : State) :
    (lossRun first n s).signals.slots.length = s.signals.slots.length :=
  lossRun_keeps (fun t => t.signals.slots.length) (fun r t => by rw [makeLost_signals, List.length_set]) first n s

/-- The run makes exactly its own slots LOST (R147, R154). -/
theorem lossRun_slot (h : first + n ≤ s.signals.slots.length) (i : Nat) :
    (lossRun first n s).slot i = if first ≤ i ∧ i < first + n then (s.slot i).madeLost else s.slot i := by
  induction n with
  | zero => rw [if_neg (by omega)]; rfl
  | succ n ih =>
    have ih := ih (by omega)
    rw [lossRun_succ, makeLost_slot _ _ _ (by rw [lossRun_slotCount]; omega), ih]
    by_cases hi : i = first + n
    · subst hi
      rw [if_pos rfl, ih, if_neg (by omega), if_pos (by omega)]
    · rw [if_neg hi]
      exact if_congr (by omega) rfl rfl

/-- The slots that the run has not reached are as before. -/
theorem lossRun_isLost (h : first + n ≤ s.signals.slots.length) {r : Nat} (hr : first + n ≤ r) :
    (lossRun first n s).isLost r = s.isLost r := by
  rw [State.isLost, lossRun_slot h, if_neg (by omega)]
  rfl

/-- What the losses of some roles change once and for all, the run changes when one of them passes, and only then. -/
theorem lossRun_changes {α : Type} (X : State → α) (F : α → α) (P : Nat → Prop) [DecidablePred P]
    (hF : ∀ x, F (F x) = F x)
    (hstep : ∀ m, m < n → X (lossRun first (m + 1) s) =
      if P (first + m) ∧ s.isLost (first + m) = false then F (X (lossRun first m s)) else X (lossRun first m s)) :
    (∀ r, P r → Passes first n s r → X (lossRun first n s) = F (X s)) ∧
    ((∀ r, P r → ¬ Passes first n s r) → X (lossRun first n s) = X s) := by
  induction n with
  | zero => exact ⟨fun r _ hr => by simp only [Passes] at hr; omega, fun _ => rfl⟩
  | succ n ih =>
    obtain ⟨ih1, ih2⟩ := ih fun m hm => hstep m (by omega)
    have hlast := hstep n (by omega)
    constructor
    · intro r hr hpass
      by_cases hn : P (first + n) ∧ s.isLost (first + n) = false
      · rw [hlast, if_pos hn]
        by_cases hsome : ∃ r, P r ∧ Passes first n s r
        · obtain ⟨r', hr', hpass'⟩ := hsome
          rw [ih1 r' hr' hpass', hF]
        · rw [ih2 fun r hr hp => hsome ⟨r, hr, hp⟩]
      · rw [hlast, if_neg hn]
        refine ih1 r hr (((passes_succ r).1 hpass).resolve_right ?_)
        rintro ⟨rfl, hl⟩
        exact hn ⟨hr, hl⟩
    · intro hnone
      rw [hlast, if_neg fun ⟨hr, hl⟩ => hnone _ hr ((passes_succ _).2 (.inr ⟨rfl, hl⟩))]
      exact ih2 fun r hr hp => hnone r hr ((passes_succ r).2 (.inl hp))

/-- The pacer's last arrival goes with the speed slot (R136). -/
theorem lossRun_pacer (h : first + n ≤ s.signals.slots.length) :
    (Passes first n s 0 → (lossRun first n s).pacer = { s.pacer with lastTick := none }) ∧
    (¬ Passes first n s 0 → (lossRun first n s).pacer = s.pacer) := by
  obtain ⟨hpass, hnone⟩ := lossRun_changes (first := first) (n := n) (s := s) State.pacer
    (fun p => { p with lastTick := none }) (· = 0) (fun _ => rfl) fun m hm => by
      rw [lossRun_succ, makeLost_pacer, lossRun_isLost (by omega) (Nat.le_refl _)]
  exact ⟨hpass 0 rfl, fun hn => hnone fun r hr => hr ▸ hn⟩

/-- The revolution baseline goes with either chain slot (R148). -/
theorem lossRun_chain (h : first + n ≤ s.signals.slots.length) :
    (Passes first n s 3 ∨ Passes first n s 4 → (lossRun first n s).chain = { s.chain with revBaseline := false }) ∧
    (¬ Passes first n s 3 → ¬ Passes first n s 4 → (lossRun first n s).chain = s.chain) := by
  obtain ⟨hpass, hnone⟩ := lossRun_changes (first := first) (n := n) (s := s) State.chain
    (fun c => { c with revBaseline := false }) (fun r => r = 3 ∨ r = 4) (fun _ => rfl) fun m hm => by
      rw [lossRun_succ, makeLost_chain, lossRun_isLost (by omega) (Nat.le_refl _)]
  refine ⟨fun hp => hp.elim (hpass 3 (.inl rfl)) (hpass 4 (.inr rfl)), fun h3 h4 => hnone fun r hr => ?_⟩
  rcases hr with rfl | rfl
  · exact h3
  · exact h4

/-- The run leaves the configuration and the clocks. -/
theorem lossRun_canes (first n : Nat) (s : State) : (lossRun first n s).canes = s.canes :=
  lossRun_keeps State.canes makeLost_canes first n s

theorem lossRun_zones_length (first n : Nat) (s : State) :
    (lossRun first n s).climate.zones.length = s.climate.zones.length :=
  lossRun_keeps (fun t => t.climate.zones.length) makeLost_zones_length first n s

/-- A zone's demand goes to 0 with its configured humidity slot (R102). -/
theorem lossRun_zoneState (h : first + n ≤ s.signals.slots.length) (hz : s.climate.zones.length = 12)
    (hc : s.canes.zoneCount ≤ 12) (k : Nat) :
    (k < s.canes.zoneCount → Passes first n s (20 + k) →
      (lossRun first n s).zoneState k = { s.zoneState k with demand := 0 }) ∧
    (s.canes.zoneCount ≤ k ∨ ¬ Passes first n s (20 + k) → (lossRun first n s).zoneState k = s.zoneState k) := by
  obtain ⟨hpass, hnone⟩ := lossRun_changes (first := first) (n := n) (s := s) (fun t => t.zoneState k)
    (fun z => { z with demand := 0 }) (fun r => r = 20 + k ∧ k < s.canes.zoneCount) (fun _ => rfl) fun m hm => by
      have hslots := lossRun_slotCount first m s
      have hzones := lossRun_zones_length first m s
      have hcanes := lossRun_canes first m s
      rw [lossRun_succ, makeLost_zoneState _ _ k (by omega) (by omega) (by rw [hcanes]; exact hc), hcanes,
        lossRun_isLost (by omega) (Nat.le_refl _)]
  exact ⟨fun hk hp => hpass _ ⟨rfl, hk⟩ hp, fun hn => hnone fun r ⟨hr, hk⟩ hp => by
    rcases hn with hn | hn
    · omega
    · exact hn (hr ▸ hp)⟩

/-- A configured zone's stopped loss timer starts with either of its slots (R137). -/
theorem lossRun_lossState (h : first + n ≤ s.signals.slots.length) (ht : s.sequencer.lossTimers.length = 12)
    (hm : s.sequencer.lossRaised.length = 12) (hc : s.canes.zoneCount ≤ 12) (k : Nat) :
    (k < s.canes.zoneCount → s.lossTimer k = .stopped → Passes first n s (8 + k) ∨ Passes first n s (20 + k) →
      (lossRun first n s).lossState k = (.running (s.lineTime + s.line.climateLossLimit), false)) ∧
    (s.canes.zoneCount ≤ k ∨ s.lossTimer k ≠ .stopped ∨ (¬ Passes first n s (8 + k) ∧ ¬ Passes first n s (20 + k)) →
      (lossRun first n s).lossState k = s.lossState k) := by
  obtain ⟨hpass, hnone⟩ := lossRun_changes (first := first) (n := n) (s := s) (fun t => t.lossState k)
    (fun x => if k < s.canes.zoneCount ∧ x.1 = .stopped
      then (.running (s.lineTime + s.line.climateLossLimit), false) else x)
    (fun r => r = 8 + k ∨ r = 20 + k) (fun x => by by_cases hx : k < s.canes.zoneCount ∧ x.1 = .stopped <;> simp [hx])
    fun m hm' => by
      have htimers := lossRun_keeps (fun t => t.sequencer.lossTimers.length) (fun r t => (makeLost_loss_length r t).1)
        first m s
      have hmarks := lossRun_keeps (fun t => t.sequencer.lossRaised.length) (fun r t => (makeLost_loss_length r t).2)
        first m s
      have hcanes := lossRun_canes first m s
      rw [lossRun_succ, makeLost_lossState _ _ k (htimers.trans ht) (hmarks.trans hm) (by rw [hcanes]; exact hc), hcanes,
        lossRun_isLost (by omega) (Nat.le_refl _), lossRun_keeps State.lineTime makeLost_lineTime first m s,
        lossRun_keeps State.line makeLost_line first m s, ite_and]
      rfl
  refine ⟨fun hk hstop hp => ?_, fun hn => ?_⟩
  · have hstart : (if k < s.canes.zoneCount ∧ (s.lossState k).1 = .stopped
        then (LatchTimer.running (s.lineTime + s.line.climateLossLimit), false) else s.lossState k) =
        (.running (s.lineTime + s.line.climateLossLimit), false) := if_pos ⟨hk, hstop⟩
    rcases hp with hp | hp
    · exact (hpass _ (.inl rfl) hp).trans hstart
    · exact (hpass _ (.inr rfl) hp).trans hstart
  · by_cases hsome : Passes first n s (8 + k) ∨ Passes first n s (20 + k)
    · have hstay : ¬ (k < s.canes.zoneCount ∧ (s.lossState k).1 = .stopped) := by
        rintro ⟨hk, hstop⟩
        rcases hn with hn | hn | ⟨h8, h20⟩
        · omega
        · exact hn hstop
        · exact hsome.elim h8 h20
      have hsame : (if k < s.canes.zoneCount ∧ (s.lossState k).1 = .stopped
          then (LatchTimer.running (s.lineTime + s.line.climateLossLimit), false) else s.lossState k) =
          s.lossState k := if_neg hstay
      rcases hsome with hp | hp
      · exact (hpass _ (.inl rfl) hp).trans hsame
      · exact (hpass _ (.inr rfl) hp).trans hsame
    · obtain ⟨h8, h20⟩ := not_or.1 hsome
      refine hnone fun r hr => ?_
      rcases hr with rfl | rfl
      · exact h8
      · exact h20

/-- Every role but the speed slot's leaves the mode and the fault list; that one makes the SPEED_LOST test (R136). -/
theorem lossRun_speed (h : first + n ≤ s.signals.slots.length) :
    (Passes first n s 0 → SpeedLossTested s (lossRun first n s)) ∧
    (¬ Passes first n s 0 → (lossRun first n s).sequencer.mode = s.sequencer.mode ∧
      (lossRun first n s).sequencer.faults = s.sequencer.faults) := by
  induction n with
  | zero => exact ⟨fun hp => by simp only [Passes] at hp; omega, fun _ => ⟨rfl, rfl⟩⟩
  | succ n ih =>
    obtain ⟨ih1, ih2⟩ := ih (by omega)
    rw [lossRun_succ]
    by_cases h0 : first + n = 0
    · obtain ⟨rfl, rfl⟩ : first = 0 ∧ n = 0 := by omega
      refine ⟨fun hp => makeLost_speed s hp.2 (by omega), fun hp => makeLost_faults 0 s (.inr ?_)⟩
      exact Bool.eq_true_of_not_eq_false fun hl => hp ⟨by omega, hl⟩
    · obtain ⟨hmode, hfaults⟩ := makeLost_faults (first + n) (lossRun first n s) (.inl h0)
      have hiff : Passes first (n + 1) s 0 ↔ Passes first n s 0 := by
        rw [passes_succ]
        exact or_iff_left fun hl => h0 hl.1
      rw [hiff]
      exact ⟨fun hp => speedLossTested_congr hmode hfaults (ih1 hp),
        fun hp => ⟨hmode.trans (ih2 hp).1, hfaults.trans (ih2 hp).2⟩⟩

/-- The routine queue's fill rises by at most one at each humidity slot. -/
theorem lossRun_fill (first n : Nat) (s : State) :
    s.port.fill .routine ≤ (lossRun first n s).port.fill .routine ∧
    (lossRun first n s).port.fill .routine ≤ s.port.fill .routine + (first + n - 20) ∧
    (lossRun first n s).port.silent = s.port.silent := by
  induction n with
  | zero => exact ⟨Nat.le_refl _, Nat.le_add_right _ _, rfl⟩
  | succ n ih =>
    obtain ⟨hle, hup, hsilent⟩ := ih
    obtain ⟨hle1, hup1, hsilent1⟩ := makeLost_fill (first + n) (lossRun first n s)
    rw [lossRun_succ]
    refine ⟨Nat.le_trans hle hle1, ?_, hsilent1.trans hsilent⟩
    split at hup1 <;> omega

/-- A zone's neutral ZONE_CLIMATE is queued with its configured humidity slot, among at most one of every configured
zone (R102, R103, R104); without it the zone's commands stand. -/
theorem lossRun_zoneCommand (h : first + n ≤ s.signals.slots.length) (hz : s.climate.zones.length = 12)
    (hc : s.canes.zoneCount ≤ 12) {k : Nat} (hk : k < s.canes.zoneCount) :
    (Passes first n s (20 + k) → ZoneCommandAmong s (lossRun first n s) (4 + k)
      (climateCommand s k (s.zoneState k).tempSetpoint 0) s.canes.zoneCount) ∧
    (¬ Passes first n s (20 + k) →
      commandsOf (some (.climate, k)) (lossRun first n s).port.routine =
        commandsOf (some (.climate, k)) s.port.routine) := by
  induction n with
  | zero => exact ⟨fun hp => by simp only [Passes] at hp; omega, fun _ => rfl⟩
  | succ n ih =>
    obtain ⟨ih1, ih2⟩ := ih (by omega)
    let t := lossRun first n s
    rw [lossRun_succ]
    by_cases hr : first + n = 20 + k
    · have hfresh : ¬ Passes first n s (20 + k) := by simp only [Passes]; omega
      have hl : t.isLost (20 + k) = s.isLost (20 + k) := lossRun_isLost (by omega) (by omega)
      rw [hr]
      refine ⟨fun hp => ?_, fun hp => ?_⟩
      · have hcanes := lossRun_canes first n s
        have hslots : t.signals.slots.length = s.signals.slots.length := lossRun_slotCount first n s
        obtain ⟨hle, hup, hsilent⟩ : s.port.fill .routine ≤ t.port.fill .routine ∧
            t.port.fill .routine ≤ s.port.fill .routine + (first + n - 20) ∧ t.port.silent = s.port.silent :=
          lossRun_fill first n s
        obtain ⟨v, hport, htalk, hlast⟩ := makeLost_zoneCommand t (k := k) (by rw [hcanes]; exact hk)
          (by rw [hcanes]; exact hc) ((lossRun_zones_length first n s).trans hz) (by omega) (hl.trans hp.2)
        have hbody : climateCommand t k (t.zoneState k).tempSetpoint 0 =
            climateCommand s k (s.zoneState k).tempSetpoint 0 := by
          rw [(lossRun_zoneState (by omega) hz hc k).2 (.inr hfresh)]
          simp only [climateCommand, State.zoneEntry, t, hcanes]
        have htalk' (role : Nat) : v.talkNode role = s.talkNode role := by
          rw [State.talkNode, htalk, lossRun_keeps (fun u => u.signals.talk) makeLost_talk first n s]
          rfl
        have hkey : zoneKey (climateCommand s k (s.zoneState k).tempSetpoint 0) = some (.climate, k) :=
          zoneKey_climateCommand ..
        have hqueue := queueOf_climateCommand s k (s.zoneState k).tempSetpoint 0
        have hbefore : commandsOf (some (.climate, k)) v.port.routine =
            commandsOf (some (.climate, k)) s.port.routine := by rw [hport]; exact ih2 hfresh
        have hstands : (∃ f ∈ v.port.routine, zoneKey f.body = some (.climate, k)) ↔
            ∃ f ∈ s.port.routine, zoneKey f.body = some (.climate, k) := by
          rw [exists_zoneKey_iff, exists_zoneKey_iff, hbefore]
        rw [hbody] at hlast
        rw [zoneCommandAmong_iff hkey, hlast]
        refine ⟨fun dest hd hroom => ?_, fun hnot => ?_⟩
        · have hq := queueZoneCommand_queued hqueue ((htalk' _).trans hd) (s := v)
          rw [hkey, hstands, hport] at hq
          exact hq (hroom.imp_right fun ⟨h1, h2⟩ => ⟨hsilent.trans h1, by omega⟩)
        · rw [queueZoneCommand_unqueued, hbefore]
          rw [htalk', hkey, hstands, hport]
          exact hnot.imp_right fun ⟨h1, h2⟩ => ⟨h1, Nat.le_trans h2 hle⟩
      · rw [makeLost_of_lost _ _ (Bool.eq_true_of_not_eq_false fun hf => hp ⟨by omega, hl ▸ hf⟩)]
        exact ih2 hfresh
    · have hkeep := makeLost_commandsOf_ne (first + n) t hr
      have hiff : Passes first (n + 1) s (20 + k) ↔ Passes first n s (20 + k) := by
        rw [passes_succ]
        exact or_iff_left fun hl => hr hl.1
      rw [hiff]
      exact ⟨fun hp => zoneCommandAmong_congr (zoneKey_climateCommand ..) hkeep (ih1 hp), fun hp => hkeep.trans (ih2 hp)⟩

/-- The run of losses in the words of the statements (R148). -/
theorem lossesReported_lossRun (h : first + n ≤ s.signals.slots.length) :
    LossesReported s (lossRun first n s) (fun r => first ≤ r ∧ r < first + n) := by
  obtain ⟨hpacer, hpacer'⟩ := lossRun_pacer h
  obtain ⟨hspeed, hspeed'⟩ := lossRun_speed h
  obtain ⟨hchain, hchain'⟩ := lossRun_chain h
  refine ⟨fun hp => ⟨hpacer hp, hspeed hp⟩, fun hp => ⟨hpacer' hp, hspeed' hp⟩, hchain, hchain',
    fun hz hc => ⟨fun k hk => (lossRun_zoneState h hz hc k).2 hk, fun k hk hp =>
      ⟨(lossRun_zoneState h hz hc k).1 hk hp, (lossRun_zoneCommand h hz hc hk).1 hp⟩⟩,
    fun ht hm hc => ⟨fun k hk hstop hp => ?_, fun k hk => ?_⟩⟩
  · exact Prod.ext_iff.1 ((lossRun_lossState h ht hm hc k).1 hk hstop hp)
  · exact Prod.ext_iff.1 ((lossRun_lossState h ht hm hc k).2 hk)

end LossRun

/-- Only the roles whose slots were not yet LOST are reported. -/
theorem lossesReported_congr {s t : State} {roles roles' : Nat → Prop}
    (h : ∀ r, s.isLost r = false → (roles r ↔ roles' r)) (hr : LossesReported s t roles) :
    LossesReported s t roles' := by
  have hlost (r : Nat) : roles' r ∧ s.isLost r = false ↔ roles r ∧ s.isLost r = false :=
    and_congr_left fun hl => (h r hl).symm
  simp only [LossesReported, hlost] at hr ⊢
  exact hr

end Sys2Proof.Machine
end

section
/-!
SUPPORT. The rows of the six blocks at a trunk reset (R28, R45, R72, R124, R128, R138, R154, R167), and the obligation
about them.
-/

namespace Sys2Proof.Machine

/-! ## The press command and the report of a mode change (R128, R129, R171) -/

/-- Without a PRESS entry or room in the urgent queue the port is left (R129). -/
theorem queuePressCommand_unqueued {s : State} (h : s.talkNode 2 = none ∨ 4 ≤ s.port.fill .urgent) :
    (queuePressCommand s).port = s.port := by
  rcases queuePressCommand_cases s with ⟨dest, hd, hroom, -⟩ | ⟨-, e⟩
  · have hfill := (hasRoom_urgent_iff _).1 hroom
    have hd' : s.talkNode 2 = some dest := hd
    rw [hd'] at h
    exact absurd hfill (Nat.not_lt.2 (h.resolve_left nofun))
  · rw [e]

/-- With both the command of the present mode joins the urgent queue's tail in an ordinary node (R128, R129). -/
theorem queuePressCommand_queued {s : State} {dest : Nat} (hd : s.talkNode 2 = some dest)
    (hf : s.port.fill .urgent < 4) (hs : s.port.silent = false) :
    (queuePressCommand s).port.urgent = s.port.urgent ++
      [{ number := inc32 s.port.frameCount, dest := dest,
         body := .pressCmd (LineMode.pressRuns s.sequencer.mode) }] := by
  have hroom := (hasRoom_urgent_iff s.port).2 hf
  rcases queuePressCommand_cases s with ⟨d, hd', -, e⟩ | ⟨hn, -⟩
  · obtain rfl : dest = d := Option.some.inj (hd.symm.trans hd')
    have hentries := handFrame_entries_self dest (.pressCmd (LineMode.pressRuns s.sequencer.mode)) s
    rw [if_pos ⟨hs, hroom⟩] at hentries
    rw [e]
    exact hentries
  · rcases hn with hn | hn
    · exact absurd (hd.symm.trans hn) nofun
    · rw [hroom] at hn; cases hn

/-- The press command leaves the management queue, its fill and the node. -/
theorem queuePressCommand_management (s : State) :
    (queuePressCommand s).port.management = s.port.management ∧
    (queuePressCommand s).port.fill .management = s.port.fill .management ∧
    (queuePressCommand s).port.silent = s.port.silent := by
  rcases queuePressCommand_cases s with ⟨dest, -, -, h⟩ | ⟨-, h⟩ <;> rw [h]
  · exact ⟨handFrame_entries_ne (q := .management) _ _ s nofun, handFrame_fill_ne (q := .management) _ _ s nofun,
      handFrame_silent _ _ s⟩
  · exact ⟨rfl, rfl, rfl⟩

/-- The port at an entry to a mode with a press command (R128). -/
theorem enterModeCore_port {m : LineMode} (h : entersWithPressCommand m = true) (r : ModeReason)
    (c : Option FaultCode) (s : State) :
    (enterModeCore m r c s).port =
      (queueReport (.modeChange s.sequencer.mode m r c) (queuePressCommand (setMode m s))).port := by
  simp only [enterModeCore, h, if_true, State.hand_port]

/-- The pacer and the chain controller are told of a change of the mode (R128). -/
theorem enterModeCore_handed (m : LineMode) (r : ModeReason) (c : Option FaultCode) (s : State) :
    .pacerModeChange s.sequencer.mode m ∈ (enterModeCore m r c s).handed ∧
    .chainModeChange s.sequencer.mode m ∈ (enterModeCore m r c s).handed := by
  simp [enterModeCore, State.hand]

/-- What an entry to a mode leaves. -/
theorem enterModeCore_frame (m : LineMode) (r : ModeReason) (c : Option FaultCode) (s : State) :
    { enterModeCore m r c s with
      sequencer := s.sequencer, port := s.port, agent := s.agent, handed := s.handed } = s := by
  simp only [enterModeCore_clock, enterModeCore_lineTime, enterModeCore_lots, enterModeCore_pacer, enterModeCore_chain,
    enterModeCore_canes, enterModeCore_drying, enterModeCore_climate, enterModeCore_discharge, enterModeCore_signals,
    enterModeCore_line, enterModeCore_pending]

/-! ## The signal unit (R154) -/

/-- All slots are made LOST. -/
theorem exec_signalUnitTrunkReset (s : State) :
    exec .signalUnitTrunkReset s = .next (lossRun 0 32 (s.took .signalUnitTrunkReset)) := by
  change Host.Outcome.next (forEach 32 makeLost _) = _
  simp only [lossRun, Nat.zero_add]

/-- A run over all roles leaves the entries of the two tables and makes every slot LOST. -/
theorem lossRun_all_signals {n : Nat} {s : State} (h : s.signals.slots.length = n) :
    (lossRun 0 n s).signals = { s.signals with slots := s.signals.slots.map Slot.madeLost } := by
  have hslots : (lossRun 0 n s).signals.slots = s.signals.slots.map Slot.madeLost := by
    refine List.ext_getElem ?_ fun i h1 h2 => ?_
    · rw [lossRun_slotCount, List.length_map]
    · have hi : i < s.signals.slots.length := by simpa using h2
      have hslot := lossRun_slot (first := 0) (n := n) (s := s) (by omega) i
      rw [if_pos (by omega)] at hslot
      simpa [State.slot, List.getD_eq_getElem?_getD, h1, hi] using hslot
  have hrest := lossRun_keeps (fun t => { t.signals with slots := [] }) (fun r t => by rw [makeLost_signals]) 0 n s
  rw [← hslots]
  exact congrArg (fun x : Signals => { x with slots := (lossRun 0 n s).signals.slots }) hrest

/-- What a run of losses leaves. -/
theorem lossRun_frame (first n : Nat) (s : State) :
    { lossRun first n s with signals := s.signals, pacer := s.pacer, chain := s.chain, climate := s.climate,
                             sequencer := s.sequencer, port := s.port, agent := s.agent,
                             handed := s.handed } = s := by
  have hclock := lossRun_keeps State.clock makeLost_clock first n s
  have htime := lossRun_keeps State.lineTime makeLost_lineTime first n s
  have hlots := lossRun_keeps State.lots makeLost_lots first n s
  have hdrying := lossRun_keeps State.drying makeLost_drying first n s
  have hdischarge := lossRun_keeps State.discharge makeLost_discharge first n s
  have hline := lossRun_keeps State.line makeLost_line first n s
  have hpending := lossRun_keeps State.pending makeLost_pending first n s
  simp only [hclock, htime, hlots, lossRun_canes, hdrying, hdischarge, hline, hpending]

/-- A role without a slot reads as LOST. -/
theorem isLost_of_length_le {s : State} {r : Nat} (h : s.signals.slots.length ≤ r) : s.isLost r = true := by
  simp [State.isLost, State.slot, List.getD_eq_getElem?_getD, h, Slot.initial]

theorem signalUnitTrunkReset_taken {s : State} (h : s.signals.slots.length = 32) :
    ∃ t, exec .signalUnitTrunkReset s = .next t ∧
      t.signals = { s.signals with slots := s.signals.slots.map (fun x =>
        { x with freshness := .lost, staleTimer := .stopped, lostTimer := .stopped, baseline := none }) } ∧
      LossesReported s t (fun _ => True) ∧
      { t with signals := s.signals, pacer := s.pacer, chain := s.chain, climate := s.climate,
               sequencer := s.sequencer, port := s.port, agent := s.agent, handed := s.handed } = s := by
  let u := s.took .signalUnitTrunkReset
  rw [exec_signalUnitTrunkReset, ← h]
  refine ⟨_, rfl, lossRun_all_signals (s := u) rfl,
    lossesReported_congr (roles := fun r => 0 ≤ r ∧ r < 0 + s.signals.slots.length) (fun r hr => ?_)
      (lossesReported_lossRun (s := u) (Nat.le_of_eq (Nat.zero_add _))), ?_⟩
  · have hlt : r < s.signals.slots.length := by
      by_contra hge
      rw [isLost_of_length_le (Nat.not_lt.1 hge)] at hr
      cases hr
    simp [hlt]
  · exact congrArg (fun v : State => { v with handed := s.handed }) (lossRun_frame 0 s.signals.slots.length u)

/-! ## The chain controller (R72) -/

/-- A step not yet acknowledged gets the step timer. -/
theorem chainTrunkReset_taken (s : State) :
    exec .chainTrunkReset s = .next { s with
      handed := s.handed.erase .chainTrunkReset,
      chain := { s.chain with stepTimer :=
        match s.chain.stepState with
        | .stepping st => if st.acknowledged then s.chain.stepTimer
                          else .running (s.clock + s.line.stepTimeout * 10)
        | _ => s.chain.stepTimer } } := by
  change Host.Outcome.next _ = _
  simp only [State.took, Chain.step?]
  cases hst : s.chain.stepState with
  | stepping st =>
    cases hack : st.acknowledged with
    | true => simp only [hack, if_true]; rw [← hst]
    | false => simp only [hack, Bool.false_eq_true, if_false]; rw [← hst]; rfl
  | idle => simp only; rw [← hst]
  | waitingRoom => simp only; rw [← hst]

/-! ## The pacer and the line sequencer (R45, R138) -/

/-- A fire in flight is cancelled without a miss (R45). -/
theorem exec_pacerTrunkReset_firing {s : State} {f : Fire} (h : s.pacer.state = .firing f) :
    exec .pacerTrunkReset s = .next (afterFireEnd { s with
      handed := s.handed.erase .pacerTrunkReset, pacer := { s.pacer with knifeTimer := .stopped } }) := by
  change Host.Outcome.next (cancelFire _) = _
  simp only [cancelFire, State.took, (fire?_eq_some_iff _ _).2 h]
  rfl

theorem pacerTrunkReset_firing {s : State} {f : Fire} (h : s.pacer.state = .firing f) :
    ∃ t, exec .pacerTrunkReset s = .next t ∧
      t.pacer = { s.pacer with knifeTimer := .stopped, state := t.pacer.state } ∧
      FireDiscarded s t ∧
      t.canes.records = s.canes.records ∧ t.discharge.entries = s.discharge.entries ∧ t.lots = s.lots ∧
      t.sequencer = s.sequencer := by
  obtain ⟨hrecords, hentries⟩ := afterFireEnd_places { s with
    handed := s.handed.erase .pacerTrunkReset, pacer := { s.pacer with knifeTimer := .stopped } }
  exact ⟨_, exec_pacerTrunkReset_firing h, afterFireEnd_pacer _, fireDiscarded_afterFireEnd rfl rfl, hrecords, hentries,
    afterFireEnd_lots _, afterFireEnd_sequencer _⟩

/-- A stepping mode goes to HOLDING, with the press command owed in any case (R138). -/
theorem exec_lineSequencerTrunkReset_steps {s : State} (h : LineMode.allowsSteps s.sequencer.mode = true) :
    exec .lineSequencerTrunkReset s = .next (State.setSequencer
      (enterModeCore .holding .trunkReset none (s.took .lineSequencerTrunkReset))
      { (enterModeCore .holding .trunkReset none (s.took .lineSequencerTrunkReset)).sequencer with
        pressOwed := true }) := by
  change Host.Outcome.next _ = _
  rw [if_pos (by exact h)]
  rfl

theorem lineSequencerTrunkReset_steps {s : State} (h : LineMode.allowsSteps s.sequencer.mode = true) :
    ∃ t, exec .lineSequencerTrunkReset s = .next t ∧
      t.sequencer = { s.sequencer with mode := .holding, pressOwed := true } ∧
      .pacerModeChange s.sequencer.mode .holding ∈ t.handed ∧
      .chainModeChange s.sequencer.mode .holding ∈ t.handed ∧
      { t with sequencer := s.sequencer, port := s.port, agent := s.agent, handed := s.handed } = s ∧
      (s.talkNode 2 = none ∨ 4 ≤ s.port.fill .urgent → t.port.urgent = s.port.urgent) ∧
      (∀ dest, s.talkNode 2 = some dest → s.port.fill .urgent < 4 → s.port.silent = false → ∃ number,
        t.port.urgent = s.port.urgent ++ [{ number := number, dest := dest, body := .pressCmd false }]) ∧
      (s.port.silent = false → s.port.fill .management < 5 →
        t.port.management.map Frame.body = s.port.management.map Frame.body ++
          [.report s.agent.missed s.lineTime (.modeChange s.sequencer.mode .holding .trunkReset none)]) := by
  let u := s.took .lineSequencerTrunkReset
  let e := enterModeCore .holding .trunkReset none u
  let report : Report := .modeChange s.sequencer.mode .holding .trunkReset none
  let pressed := queuePressCommand (setMode .holding u)
  have hport : e.port = (queueReport report pressed).port := enterModeCore_port rfl .trunkReset none u
  have hurgent : e.port.urgent = pressed.port.urgent := by rw [hport]; exact (queueReport_urgent report pressed).1
  obtain ⟨hpacer, hchain⟩ := enterModeCore_handed .holding .trunkReset none u
  obtain ⟨hman, hfill, hsilent⟩ := queuePressCommand_management (setMode .holding u)
  refine ⟨_, exec_lineSequencerTrunkReset_steps h, ?_, hpacer, hchain,
    congrArg (fun v : State => { v with handed := s.handed }) (enterModeCore_frame .holding .trunkReset none u),
    fun hn => hurgent.trans ?_, fun dest hd hf hs => ⟨_, hurgent.trans (queuePressCommand_queued hd hf hs)⟩,
    fun hs hf => ?_⟩
  · rw [State.setSequencer, enterModeCore_sequencer]
    rfl
  · rw [queuePressCommand_unqueued (s := setMode .holding u) hn]
    rfl
  · change e.port.management.map Frame.body = _
    rw [hport, queueReport_of_room report (hsilent.trans hs) (by rw [hfill]; exact hf)]
    simp only [Port.withReport, hman, queuePressCommand_agent, queuePressCommand_lineTime, List.map_append]
    rfl

/-- Settles O33: each block's row by itself. -/
theorem theSixBlocksTakeTheTrunkReset : Obligations.TheSixBlocksTakeTheTrunkReset := by
  constructor
  · intro s
    exact ⟨signalUnitTrunkReset_taken, chainTrunkReset_taken s, rfl, rfl⟩
  · intro s
    refine ⟨fun hf => ?_, fun f hf => pacerTrunkReset_firing hf, fun hm => ?_, lineSequencerTrunkReset_steps⟩
    · change Host.Outcome.next (cancelFire _) = _
      simp only [cancelFire, State.took, hf]
    · change Host.Outcome.next _ = _
      rw [if_neg (by exact fun h => Bool.false_ne_true (hm.symm.trans h))]
      rfl

end Sys2Proof.Machine
end

section
/-!
SUPPORT. Sequence numbers and positions of the cane queue (R48, R50, R51), the readings (R44, R69, R175), and the
obligation about them.
-/

namespace Sys2Proof.Machine

/-! ## Consecutive numbers (R48, R51) -/

/-- Of numbers that run up to `next`, the one with `k` numbers from it to the end is `k` below `next`, modulo 2^24. -/
theorem sequencesRun_getElem? {next : Nat} (hn : next < 16777216) {l : List Nat} (h : sequencesRun next l) {i a : Nat}
    (hi : l[i]? = some a) : (a + (l.length - i)) % 16777216 = next := by
  induction l generalizing i a with
  | nil => cases hi
  | cons x rest ih =>
    cases rest with
    | nil =>
      cases i with
      | zero =>
        obtain rfl : x = a := Option.some.inj hi
        exact h
      | succ i => cases hi
    | cons y rest =>
      obtain ⟨hnext, hrun⟩ := h
      cases i with
      | zero =>
        obtain rfl : x = a := Option.some.inj hi
        have hy := ih hrun (i := 0) rfl
        have hstep : (x + 1) % 16777216 = y := hnext
        simp only [List.length_cons] at hy ⊢
        omega
      | succ i =>
        have hrest := ih hrun (i := i) hi
        rwa [List.length_cons, Nat.succ_sub_succ]

section CanePositions

variable {s : State}

/-- A record of the cane queue and the number of records, it included, from it to the loading station. -/
theorem CaneLaw.sequence_at (h : CaneLaw s) {i : Nat} (hi : i < s.canes.records.length) :
    (s.canes.records[i].sequence + (s.canes.records.length - i + s.chain.station.toList.length)) % 16777216 =
      s.canes.nextSequence := by
  obtain ⟨hnext, -, hrun, -⟩ := h
  have hat := sequencesRun_getElem? hnext hrun (i := i) (a := s.canes.records[i].sequence)
    (by rw [List.getElem?_map, List.getElem?_append_left hi, List.getElem?_eq_getElem hi]; rfl)
  rw [List.length_map, List.length_append] at hat
  rwa [show s.canes.records.length - i + s.chain.station.toList.length =
    s.canes.records.length + s.chain.station.toList.length - i by omega]

/-- A position names the record that many before the tail (R50). -/
theorem at?_eq_some {q : CaneQueue} {pos : Nat} {c : Cane} (h : q.at? pos = some c) :
    ∃ hi : q.records.length - 1 - pos < q.records.length, pos < q.records.length ∧
      q.records[q.records.length - 1 - pos] = c := by
  rw [CaneQueue.at?] at h
  split at h
  case isTrue hp =>
    obtain ⟨hi, hc⟩ := List.getElem?_eq_some_iff.1 h
    exact ⟨hi, hp, hc⟩
  case isFalse => cases h

/-- The record at a position is that many numbers below the tail's (R51). -/
theorem CaneLaw.sequence_below_tail (h : CaneLaw s) {pos : Nat} {c : Cane} (hc : s.canes.at? pos = some c) :
    c.sequence < 16777216 ∧ pos < s.canes.records.length ∧ ∃ tail, s.canes.records.getLast? = some tail ∧
      tail.sequence < 16777216 ∧ (c.sequence + pos) % 16777216 = tail.sequence := by
  obtain ⟨hi, hpos, rfl⟩ := at?_eq_some hc
  have hlast : s.canes.records.length - 1 < s.canes.records.length := by omega
  have hcane := h.sequence_at hi
  have htail := h.sequence_at hlast
  obtain ⟨-, hbelow, -⟩ := h
  have below (j : Nat) (hj : j < s.canes.records.length) : s.canes.records[j].sequence < 16777216 :=
    hbelow _ (List.mem_append_left _ (List.getElem_mem hj))
  have htailBelow := below _ hlast
  refine ⟨below _ hi, hpos, s.canes.records[s.canes.records.length - 1], ?_, htailBelow, by omega⟩
  rw [List.getLast?_eq_getElem?, List.getElem?_eq_getElem hlast]

theorem seqDistance_eq {a b : Nat} (ha : a < 16777216) : seqDistance a b = (b + (16777216 - a)) % 16777216 := by
  rw [seqDistance, Config.seqModulus, Nat.mod_eq_of_lt ha]

/-- The position of a record's number is the record's (R51). -/
theorem CaneLaw.positionOf_sequence (h : CaneLaw s) {pos : Nat} {c : Cane} (hc : s.canes.at? pos = some c)
    (hp : pos < 16777216) : s.canes.positionOf c.sequence = some pos := by
  obtain ⟨hbelow, hpos, tail, htail, htailBelow, hdist⟩ := h.sequence_below_tail hc
  have hseq : seqDistance c.sequence tail.sequence = pos := by
    rw [seqDistance_eq hbelow]
    omega
  simp only [CaneQueue.positionOf, htail, hseq, if_pos hpos]

/-- The record at the position of a number has that number (R51). -/
theorem CaneLaw.sequence_of_positionOf (h : CaneLaw s) {n pos : Nat} (hn : n < 16777216)
    (hp : s.canes.positionOf n = some pos) : ∃ c, s.canes.at? pos = some c ∧ c.sequence = n := by
  rw [CaneQueue.positionOf] at hp
  split at hp
  case h_1 => cases hp
  case h_2 tail htail =>
    simp only at hp
    split at hp
    case isFalse => cases hp
    case isTrue hlt =>
      have hpos : seqDistance n tail.sequence = pos := Option.some.inj hp
      rw [hpos] at hlt
      have hi : s.canes.records.length - 1 - pos < s.canes.records.length := by omega
      have hc : s.canes.at? pos = some s.canes.records[s.canes.records.length - 1 - pos] := by
        rw [CaneQueue.at?, if_pos hlt, List.getElem?_eq_getElem hi]
      obtain ⟨hbelow, -, tail', htail', htailBelow, hdist⟩ := h.sequence_below_tail hc
      obtain rfl : tail = tail' := Option.some.inj (htail.symm.trans htail')
      refine ⟨_, hc, ?_⟩
      rw [seqDistance_eq hn] at hpos
      omega

/-- The cane queue holds at most 2,048 records (R50, R53). -/
theorem CaneLaw.length_le (h : CaneLaw s) (hz : ZoneMapLaw s) : s.canes.records.length ≤ 2048 := by
  obtain ⟨-, -, -, hexit, hempty, -⟩ := h
  obtain ⟨hlength, hcount, hrange, -, hpExit⟩ := hz
  by_cases h0 : s.canes.zoneCount = 0
  · rw [hempty (by rw [hpExit, State.exitFor, if_pos h0])]
    exact Nat.zero_le _
  · have hk : s.canes.zoneCount - 1 < s.canes.zones.length := by omega
    have hlast : (s.zoneEntry (s.canes.zoneCount - 1)).last ≤ 2047 := by
      have hmem : s.zoneEntry (s.canes.zoneCount - 1) ∈ s.canes.zones := by
        rw [State.zoneEntry, List.getD_eq_getElem _ _ hk]
        exact List.getElem_mem hk
      obtain ⟨-, hl, -⟩ := (zone_inRange_iff _).1 (hrange _ hmem)
      exact hl
    have hle := hexit _ (by rw [hpExit, State.exitFor, if_neg h0])
    omega

/-- The station's record has a number that no record of the cane queue has. -/
theorem CaneLaw.station_ne (h : CaneLaw s) (hz : ZoneMapLaw s) {pos : Nat} {c d : Cane}
    (hc : s.canes.at? pos = some c) (hd : s.chain.station = some d) : d.sequence ≠ c.sequence := by
  have hle := h.length_le hz
  obtain ⟨hi, hpos, rfl⟩ := at?_eq_some hc
  have hcane := h.sequence_at hi
  obtain ⟨hnext, -, hrun, -⟩ := h
  have hstation := sequencesRun_getElem? hnext hrun (i := s.canes.records.length) (a := d.sequence)
    (by rw [List.getElem?_map, List.getElem?_append_right (Nat.le_refl _), Nat.sub_self, hd]; rfl)
  rw [List.length_map, List.length_append] at hstation
  simp only [hd, Option.toList_some, List.length_singleton] at hstation hcane
  omega

end CanePositions

/-! ## READ_CANE (R69) -/

section ReadCane

variable {s : State} {r : Request}

theorem exec_readCane_done {body : List Byte} (hs : Starts s (directiveOf 0x03 [] r)) (hlen : r.args.length = 4)
    (h : readCaneAnswer r.args (popDirective s) = doneWith body (popDirective s)) :
    exec (.readCane r) s = .next (answered s (directiveOf 0x03 [] r) .done body id) :=
  congrArg _ (runDirective_done (effect := id) hs ((withLength_of_length _ hlen).trans h) rfl)

theorem exec_readCane_refuse {o : OutcomeCode} (hs : Starts s (directiveOf 0x03 [] r)) (hlen : r.args.length = 4)
    (h : readCaneAnswer r.args (popDirective s) = refuse o (popDirective s)) :
    exec (.readCane r) s = .next (answered s (directiveOf 0x03 [] r) o [] id) :=
  congrArg _ (runDirective_refuse hs ((withLength_of_length _ hlen).trans h))

/-- Selector 0 names a record by its sequence number. -/
theorem readCaneAnswer_sequence {n : Nat} (hn : n < 16777216) (s : State) :
    readCaneAnswer (0 :: be 3 n) s = readBySequence n s := by
  have hfield : field (0 :: be 3 n) 1 3 = n := by
    rw [field_cons_skip (Nat.le_refl 1)]
    exact field_be_self hn
  rw [readCaneAnswer, field_cons_head, hfield]
  rfl

/-- Selector 1 names a record by its position. -/
theorem readCaneAnswer_position {pos : Nat} (hp : pos < 16777216) (s : State) :
    readCaneAnswer (1 :: be 3 pos) s = readByPosition pos s := by
  have hfield : field (1 :: be 3 pos) 1 3 = pos := by
    rw [field_cons_skip (Nat.le_refl 1)]
    exact field_be_self hp
  rw [readCaneAnswer, field_cons_head, hfield]
  rfl

/-- Another selector is refused (R181). -/
theorem readCaneAnswer_selector {b : Byte} (rest : List Byte) (h : 2 ≤ b.toNat) (s : State) :
    readCaneAnswer (b :: rest) s = refuse .badValue s := by
  rw [readCaneAnswer, field_cons_head, if_neg (by omega), if_neg (by omega)]

theorem stationCane_of_sequence {c : Cane} (hc : s.chain.station = some c) : s.stationCane c.sequence = some c := by
  simp [State.stationCane, hc]

theorem stationCane_of_ne {n : Nat} (h : ∀ c, s.chain.station = some c → c.sequence ≠ n) : s.stationCane n = none := by
  cases hc : s.chain.station with
  | none => simp [State.stationCane, hc]
  | some c => simp [State.stationCane, hc, h c hc]

/-- The record of the cane queue with a number is the one at its position (R51). -/
theorem queuedCane_of_at {pos : Nat} {c : Cane} (h : CaneLaw s) (hz : ZoneMapLaw s)
    (hc : s.canes.at? pos = some c) : s.queuedCane c.sequence = some (pos, c) := by
  obtain ⟨-, hpos, -⟩ := h.sequence_below_tail hc
  have hle := h.length_le hz
  simp [State.queuedCane, h.positionOf_sequence hc (by omega), hc]

theorem at?_mem {q : CaneQueue} {pos : Nat} {c : Cane} (h : q.at? pos = some c) : c ∈ q.records := by
  obtain ⟨hi, -, rfl⟩ := at?_eq_some h
  exact List.getElem_mem hi

/-- A number that no record of the cane queue has names none of them. -/
theorem queuedCane_of_ne {n : Nat} (h : CaneLaw s) (hn : n < 16777216) (hne : ∀ c ∈ s.canes.records, c.sequence ≠ n) :
    s.queuedCane n = none := by
  cases hp : s.canes.positionOf n with
  | none => simp only [State.queuedCane, hp]
  | some pos =>
    obtain ⟨c, hc, hseq⟩ := h.sequence_of_positionOf hn hp
    exact absurd hseq (hne c (at?_mem hc))

/-- The flags of a discharge entry as a sum (section 11.4). -/
theorem entryFlags_eq (e : DischargeEntry) (b : Bool) :
    entryFlags e b = (if e.late = true then 1 else 0) + (if b = true then 2 else 0) := by
  rw [entryFlags]
  cases e.late <;> cases b <;> rfl

theorem readBySequence_station {c : Cane} (hc : s.chain.station = some c) :
    readBySequence c.sequence s = doneWith (0 :: caneBytes c) s := by
  simp only [readBySequence, stationCane_of_sequence hc, stationBody]

theorem readBySequence_queue {pos k : Nat} {c : Cane} (h : CaneLaw s) (hz : ZoneMapLaw s)
    (hc : s.canes.at? pos = some c) (hk : s.zoneAt pos = some k) :
    readBySequence c.sequence s = doneWith (1 :: be 2 pos ++ be 1 k ++ caneBytes c) s := by
  rw [readBySequence, stationCane_of_ne fun d hd => h.station_ne hz hc hd]
  simp only [queuedCane_of_at h hz hc, State.queueBody, hk, Option.getD_some, List.append_assoc, List.cons_append]

section OffLine

variable {n : Nat} (h : CaneLaw s) (hn : n < 16777216)
  (hne : ∀ c ∈ s.chain.station.toList ++ s.canes.records, c.sequence ≠ n)

include h hn hne

/-- A number that is neither in the station nor in the cane queue is looked for in the discharge queue. -/
theorem readBySequence_offLine :
    readBySequence n s = (s.discharge.entries.findIdx? (fun e => decide (e.sequence = n))).elim (refuse .notFound s)
      fun i => doneWith (s.entryBody i (s.discharge.entries.getD i default)) s := by
  have hstation := stationCane_of_ne (s := s) (n := n)
    fun c hc => hne c (List.mem_append_left _ (by rw [hc]; exact List.mem_singleton_self c))
  have hqueue := queuedCane_of_ne h hn fun c hc => hne c (List.mem_append_right _ hc)
  simp only [readBySequence, hstation, hqueue]
  cases s.discharge.entries.findIdx? (fun e => decide (e.sequence = n)) <;> rfl

theorem readBySequence_discharge {i : Nat} {e : DischargeEntry} (he : s.discharge.entries[i]? = some e)
    (hseq : e.sequence = n) (hfirst : ∀ f ∈ s.discharge.entries.take i, f.sequence ≠ n) :
    readBySequence n s = doneWith
      (2 :: be 1 i ++ [dispositionCode e.disposition] ++ be 1 e.pieces ++ be 4 e.scrap ++
        [(if e.late = true then 1 else 0) +
          (if i = 0 ∧ s.discharge.orderOutstanding = true then 2 else 0)] ++
        caneBytes { sequence := e.sequence, hangTime := e.hangTime, product := some e.product }) s := by
  have hidx : s.discharge.entries.findIdx? (fun e => decide (e.sequence = n)) = some i := by
    obtain ⟨hi, rfl⟩ := List.getElem?_eq_some_iff.1 he
    rw [List.findIdx?_eq_some_iff_getElem]
    refine ⟨hi, decide_eq_true hseq, fun j hj => ?_⟩
    have hmem : s.discharge.entries[j] ∈ s.discharge.entries.take i :=
      List.mem_take_iff_getElem.2 ⟨j, by omega, rfl⟩
    simp [hfirst _ hmem]
  rw [readBySequence_offLine h hn hne, hidx]
  simp only [Option.elim_some, State.entryBody, List.getD_eq_getElem?_getD, he, Option.getD_some, entryFlags_eq, DischargeEntry.cane,
    Bool.and_eq_true, decide_eq_true_eq, List.append_assoc, List.cons_append]

theorem readBySequence_notFound (hd : ∀ e ∈ s.discharge.entries, e.sequence ≠ n) :
    readBySequence n s = refuse .notFound s := by
  have hidx : s.discharge.entries.findIdx? (fun e => decide (e.sequence = n)) = none :=
    List.findIdx?_eq_none_iff.2 fun e he => decide_eq_false (hd e he)
  rw [readBySequence_offLine h hn hne, hidx, Option.elim_none]

end OffLine

/-- READ_CANE by sequence number (R69). -/
theorem readCane_sequence (hs : Starts s (directiveOf 0x03 [] r)) {n : Nat} (hn : n < 16777216)
    (hargs : r.args = 0 :: be 3 n) :
    let onLine := s.chain.station.toList ++ s.canes.records
    (∀ c, s.chain.station = some c → c.sequence = n → exec (.readCane r) s =
      .next (answered s (directiveOf 0x03 [] r) .done (0 :: caneBytes c) id)) ∧
    (∀ pos c k, CaneLaw s → ZoneMapLaw s → s.canes.at? pos = some c → c.sequence = n →
      s.zoneAt pos = some k → exec (.readCane r) s = .next (answered s (directiveOf 0x03 [] r) .done
        (1 :: be 2 pos ++ be 1 k ++ caneBytes c) id)) ∧
    (∀ i e, CaneLaw s → (∀ c ∈ onLine, c.sequence ≠ n) → s.discharge.entries[i]? = some e →
      e.sequence = n → (∀ f ∈ s.discharge.entries.take i, f.sequence ≠ n) →
      exec (.readCane r) s = .next (answered s (directiveOf 0x03 [] r) .done
        (2 :: be 1 i ++ [dispositionCode e.disposition] ++ be 1 e.pieces ++ be 4 e.scrap ++
          [(if e.late = true then 1 else 0) +
            (if i = 0 ∧ s.discharge.orderOutstanding = true then 2 else 0)] ++
          caneBytes { sequence := e.sequence, hangTime := e.hangTime, product := some e.product }) id)) ∧
    (CaneLaw s → (∀ c ∈ onLine, c.sequence ≠ n) → (∀ e ∈ s.discharge.entries, e.sequence ≠ n) →
      exec (.readCane r) s = .next (answered s (directiveOf 0x03 [] r) .notFound [] id)) := by
  have hlen : r.args.length = 4 := by rw [hargs, List.length_cons, be_length]
  have hanswer (u : State) : readCaneAnswer r.args u = readBySequence n u := by
    rw [hargs, readCaneAnswer_sequence hn]
  refine ⟨fun c hc hseq => ?_, fun pos c k hl hz hc hseq hk => ?_, fun i e hl hne he hseq hfirst => ?_,
    fun hl hne hd => ?_⟩
  · subst hseq
    exact exec_readCane_done hs hlen ((hanswer _).trans (readBySequence_station (s := popDirective s) hc))
  · subst hseq
    exact exec_readCane_done hs hlen ((hanswer _).trans (readBySequence_queue (s := popDirective s) hl hz hc hk))
  · exact exec_readCane_done hs hlen
      ((hanswer _).trans (readBySequence_discharge (s := popDirective s) hl hn hne he hseq hfirst))
  · exact exec_readCane_refuse hs hlen ((hanswer _).trans (readBySequence_notFound (s := popDirective s) hl hn hne hd))

/-- READ_CANE by position (R69). -/
theorem readCane_position (hs : Starts s (directiveOf 0x03 [] r)) {pos : Nat} (hp : pos < 16777216)
    (hargs : r.args = 1 :: be 3 pos) :
    (2047 < pos → exec (.readCane r) s = .next (answered s (directiveOf 0x03 [] r) .badIndex [] id)) ∧
    (pos ≤ 2047 → s.canes.records.length ≤ pos →
      exec (.readCane r) s = .next (answered s (directiveOf 0x03 [] r) .notFound [] id)) ∧
    (∀ c k, pos ≤ 2047 → s.canes.at? pos = some c → s.zoneAt pos = some k → exec (.readCane r) s =
      .next (answered s (directiveOf 0x03 [] r) .done (1 :: be 2 pos ++ be 1 k ++ caneBytes c) id)) := by
  have hlen : r.args.length = 4 := by rw [hargs, List.length_cons, be_length]
  have hanswer (u : State) : readCaneAnswer r.args u = readByPosition pos u := by
    rw [hargs, readCaneAnswer_position hp]
  refine ⟨fun h => ?_, fun h hout => ?_, fun c k h hc hk => ?_⟩
  · exact exec_readCane_refuse hs hlen ((hanswer _).trans (if_pos h))
  · have hnone : (popDirective s).canes.at? pos = none := if_neg (Nat.not_lt.2 hout)
    exact exec_readCane_refuse hs hlen ((hanswer _).trans (by
      simp only [readByPosition, if_neg (Nat.not_lt.2 h), hnone]))
  · have hc' : (popDirective s).canes.at? pos = some c := hc
    have hk' : (popDirective s).zoneAt pos = some k := hk
    exact exec_readCane_done hs hlen ((hanswer _).trans (by
      simp only [readByPosition, if_neg (Nat.not_lt.2 h), hc', State.queueBody, hk', Option.getD_some,
        List.append_assoc, List.cons_append]))

end ReadCane

/-! ## READ_STATUS, READ_TOTALS and CLEAR_TOTALS (R44, R175) -/

theorem directiveOf_args (code : Byte) (r : Request) : (directiveOf code [] r).args = r.args := rfl

section ReadStatus

variable {s : State} {r : Request}

/-- A known page is answered with its number and its fields. -/
theorem exec_readStatus_shows (hs : Starts s (directiveOf 0x12 [] r)) {page : Byte} {fields : List Byte}
    (h : (popDirective s).statusPage page.toNat = some fields) (hargs : r.args = [page]) :
    exec (.readStatus r) s = .next (answered s (directiveOf 0x12 [] r) .done (page :: fields) id) := by
  refine congrArg _ (runDirective_done (effect := id) hs ((withLength_of_length _ (by
    rw [directiveOf_args, hargs]; rfl)).trans ?_) rfl)
  have hpage : be 1 page.toNat = [page] := by simp [be]
  rw [directiveOf_args, hargs, readStatusAnswer, field_cons_head, h, hpage]
  rfl

theorem statusPage_of_lt {n : Nat} (h : 17 < n) (s : State) : s.statusPage n = none := by
  rw [State.statusPage] <;> rintro rfl <;> omega

theorem exec_readStatus_badIndex (hs : Starts s (directiveOf 0x12 [] r)) {page : Byte} (h : 17 < page.toNat)
    (hargs : r.args = [page]) :
    exec (.readStatus r) s = .next (answered s (directiveOf 0x12 [] r) .badIndex [] id) := by
  refine congrArg _ (runDirective_refuse hs ((withLength_of_length _ (by
    rw [directiveOf_args, hargs]; rfl)).trans ?_))
  rw [directiveOf_args, hargs, readStatusAnswer, field_cons_head,
    statusPage_of_lt h]

end ReadStatus

/-! ## The fields of the pages -/

theorem flatten_map_range_succ {α : Type} (f : Nat → List α) (n : Nat) :
    ((List.range (n + 1)).map f).flatten = ((List.range n).map f).flatten ++ f n := by
  simp [List.range_succ]

theorem faultBytes_eq (e : Option FaultEntry) :
    faultBytes e = match e with
      | some e => faultByte e.code :: be 4 e.time ++ be 1 e.count ++ be 1 e.detail
      | none => [0, 0, 0, 0, 0, 0, 0] := by
  cases e <;> rfl

/-- A zone at or above the zone count shows a stopped air timer. -/
theorem zonePart_eq (s : State) (k : Nat) :
    s.zonePart k = beInt 2 (s.zoneState k).tempSetpoint ++ be 2 (s.zoneState k).rhSetpoint ++
      beInt 1 (s.zoneState k).demand ++ [directionCode (s.zoneState k).direction] ++
      (match (s.zoneState k).airTimer with
       | .running e => if k < s.canes.zoneCount then be 4 e else [0xFF, 0xFF, 0xFF, 0xFF]
       | .stopped => [0xFF, 0xFF, 0xFF, 0xFF]) := by
  rw [State.zonePart]
  congr 1
  change timerBytes (if _ then (s.zoneState k).airTimer else _) = _
  by_cases hk : k < s.canes.zoneCount
  · simp only [if_pos hk]
    cases (s.zoneState k).airTimer <;> rfl
  · simp only [if_neg hk]
    cases (s.zoneState k).airTimer <;> rfl

theorem baselineBytes_eq (b : Option Nat) :
    flagByte b.isSome ++ be 2 (b.getD 0) = match b with | some c => 1 :: be 2 c | none => [0, 0, 0] := by
  cases b <;> rfl

theorem latchTimerCode_bytes (x : LatchTimer) :
    [latchTimerCode x] ++ latchTimerBytes x = match x with
      | .stopped => [0, 0xFF, 0xFF, 0xFF, 0xFF]
      | .running e => 1 :: be 4 e
      | .expired => [2, 0xFF, 0xFF, 0xFF, 0xFF] := by
  cases x <;> rfl

theorem sweepBytes_eq (w : Option Sweep) :
    sweepBytes w = match w with
      | some w => be 4 w.time ++ (match w.next with | some n => 1 :: be 3 n | none => [0, 0, 0, 0])
      | none => [] := by
  cases w <;> rfl

/-- Settles O44: each reading by its selector or page. -/
theorem readingsAnswerAndTotalsClear : Obligations.ReadingsAnswerAndTotalsClear := by
  refine ⟨fun s r hs => ⟨fun n hn hargs => readCane_sequence hs hn hargs,
    fun pos hp hargs => readCane_position hs hp hargs, fun selector rest hargs hlen h => ?_⟩, fun s r hs => ?_,
    fun s r hs hargs => ?_, fun s r hs => ⟨fun hargs => ?_, fun hargs => ?_⟩⟩
  · exact exec_readCane_refuse hs (by rw [hargs, List.length_cons, hlen])
      (by rw [hargs]; exact readCaneAnswer_selector rest h _)
  · intro shows flag noExpiry number kind pointer fault zone slot baseline stall sweep
    have page (p : Byte) (fields : List Byte) (h : (popDirective s).statusPage p.toNat = some fields) :
        shows p fields := exec_readStatus_shows hs h
    have hflag (b : Bool) : flagByte b = [flag b] := rfl
    have hnumber (q : Option Nat) : presentSequence q = number q := by cases q <;> rfl
    have hkind (c : Option Cane) : kindByte c = [kind c] := by cases c <;> rfl
    have hpointer (i : Option Nat) : slotByte i = pointer i := by cases i <;> rfl
    have hfault (i : Nat) : faultBytes s.sequencer.faults[i]? = fault i := faultBytes_eq _
    have hzone (k : Nat) : s.zonePart k = zone k := zonePart_eq s k
    have hslot (role : Nat) : s.slotPart role = slot role := rfl
    have hbaseline (role : Nat) : s.baselinePart role = baseline role := baselineBytes_eq _
    have hstall : [latchTimerCode s.discharge.stallTimer] ++ latchTimerBytes s.discharge.stallTimer = stall :=
      latchTimerCode_bytes _
    have hsweep : sweepBytes s.drying.sweep = sweep := sweepBytes_eq _
    have hfaults (i : Nat) : s.faultPage i = fault i ++ fault (i + 1) ++ fault (i + 2) ++ fault (i + 3) := by
      simp only [State.faultPage, flatten_map_range_succ, hfault]
      rfl
    have hzones (k : Nat) : s.zonePage k = zone k ++ zone (k + 1) ++ zone (k + 2) ++ zone (k + 3) := by
      simp only [State.zonePage, flatten_map_range_succ, hzone]
      rfl
    have hrun4 (i : Nat) : s.slotRun i 4 = slot i ++ slot (i + 1) ++ slot (i + 2) ++ slot (i + 3) := by
      simp only [State.slotRun, flatten_map_range_succ, hslot]
      rfl
    have hrun5 (i : Nat) : s.slotRun i 5 = slot i ++ slot (i + 1) ++ slot (i + 2) ++ slot (i + 3) ++ slot (i + 4) := by
      rw [← hrun4, State.slotRun, flatten_map_range_succ, hslot]
      rfl
    have hrun6 (i : Nat) : s.slotRun i 6 =
        slot i ++ slot (i + 1) ++ slot (i + 2) ++ slot (i + 3) ++ slot (i + 4) ++ slot (i + 5) := by
      rw [← hrun5, State.slotRun, flatten_map_range_succ, hslot]
      rfl
    refine ⟨fun p hargs hp => exec_readStatus_badIndex hs hp hargs, page 0 _ (congrArg some ?_),
      page 1 _ (congrArg some (hfaults 0)), page 2 _ (congrArg some (hfaults 4)),
      page 3 _ (congrArg some (?_ : s.page3 = _)), page 4 _ (congrArg some (?_ : s.page4 = _)),
      page 5 _ (congrArg some (?_ : s.page5 = _)), page 6 _ (congrArg some (?_ : s.page6 = _)),
      page 7 _ (congrArg (fun bytes => some (bytes ++ be 2 s.climate.stagger.toNat)) (hzones 0)),
      page 8 _ (congrArg some (hzones 4)), page 9 _ (congrArg some (hzones 8)),
      page 10 _ (congrArg some (hrun6 0)), page 11 _ (congrArg some (?_ : s.page11 = _)),
      page 12 _ (congrArg some (hrun5 8)), page 13 _ (congrArg some (hrun5 13)),
      page 14 _ (congrArg some (hrun5 18)), page 15 _ (congrArg some (hrun5 23)),
      page 16 _ (congrArg some (hrun4 28)), page 17 _ rfl⟩
    · simp only [State.page0, hflag, List.append_assoc, List.cons_append, List.nil_append]
      rfl
    · simp only [State.page3, hflag, hpointer, List.append_assoc, List.cons_append, List.nil_append]
    · simp only [State.page4, sequenceBytes, hflag, hkind, List.append_assoc, List.cons_append, List.nil_append]
    · rw [State.page5, ← hstall]
      simp only [hflag, hnumber, List.append_assoc]
    · simp only [State.page6, hflag, hsweep, List.append_assoc, List.cons_append, List.nil_append]
    · simp only [State.page11, State.slotRun, flatten_map_range_succ, hslot, List.map_cons, List.map_nil,
        List.flatten_cons, List.flatten_nil, hbaseline, List.append_assoc, List.append_nil]
      rfl
  · have hlen : (directiveOf 0x13 [] r).args.length = 0 := by rw [directiveOf_args, hargs]; rfl
    exact congrArg _ (runDirective_done (act := withLength 0 fun _ t => doneWith (totalsBody t.pacer) t)
      (effect := id) hs (if_pos hlen) rfl)
  · have hlen : (directiveOf 0x14 [] r).args.length = 0 := by rw [directiveOf_args, hargs]; rfl
    exact congrArg _ (runDirective_done
      (act := withLength 0 fun _ t => doneWith [] { t with pacer := t.pacer.zeroTotals })
      (effect := fun u => { u with pacer := { u.pacer with extruded := 0, hung := 0, waste := 0 } })
      hs (if_pos hlen) rfl)
  · exact congrArg _ (runDirective_refuse hs (if_neg fun hlen => hargs (List.length_eq_zero_iff.1 hlen)))

end Sys2Proof.Machine
end

section
/-!
SUPPORT. The cane line: what the laws of the zone map, the canes and the discharge queue read of a state, and what one
row can do to it, said once as its moves. A record is placed at most once in a row, which the order of the sequence
numbers needs.
-/

namespace Sys2Proof.Machine

/-! ## The cane line and its moves -/

/-- What the laws read of a record: its sequence number, and whether it is PRODUCT. -/
def Cane.key (c : Cane) : Nat × Bool := (c.sequence, c.isProduct)

/-- What the laws read of a state: the loading station, the cane queue with the next sequence number and the zone map,
the discharge queue by its numbers and its order mark, and whether a step is in flight. -/
structure CaneLine where
  station : Option (Nat × Bool)
  records : List (Nat × Bool)
  next : Nat
  zoneCount : Nat
  pExit : Option Nat
  zones : List ZoneEntry
  entries : List Nat
  ordered : Bool
  stepping : Bool

/-- The cane line of a state. -/
def State.caneLine (s : State) : CaneLine :=
  { station := s.chain.station.map Cane.key, records := s.canes.records.map Cane.key, next := s.canes.nextSequence,
    zoneCount := s.canes.zoneCount, pExit := s.canes.pExit, zones := s.canes.zones,
    entries := s.discharge.entries.map DischargeEntry.sequence, ordered := s.discharge.orderOutstanding,
    stepping := s.chain.step?.isSome }

/-- No room at the exit (R56, case 2). -/
def CaneLine.NoRoom (l : CaneLine) : Prop :=
  ∃ p n, l.pExit = some p ∧ l.records.length = p + 1 ∧ l.records.head? = some (n, true) ∧ l.entries.length = 8

/-- P_exit for a zone count (R53). -/
def CaneLine.exitFor (l : CaneLine) (n : Nat) : Option Nat :=
  if n = 0 then none else some (l.zones.getD (n - 1) .zero).last

/-- The records of the cane queue, with the loading station behind its tail (R50). -/
def CaneLine.held (l : CaneLine) : List (Nat × Bool) := l.records ++ l.station.toList

/-- The line after a step-done that leaves `rest` in the cane queue and `entries` in the discharge queue (R61). -/
def CaneLine.advanced (l : CaneLine) (rest : List (Nat × Bool)) (entries : List Nat) : CaneLine :=
  { l with station := none, records := rest, entries := entries, stepping := false }

/-- One change of the cane line, but for the placing of a record. -/
inductive CaneLine.Move (l : CaneLine) : CaneLine → Prop where
  /-- A step-done moves the station's record to the tail of a cane queue with room (R61). -/
  | arrived (going : l.stepping = true) (room : ∀ p, l.pExit = some p → l.held.length ≤ p + 1) :
      Move l (l.advanced l.held l.entries)
  /-- A step-done pushes an EMPTY head out of a full cane queue (R61, R62). -/
  | dropped (n p : Nat) (rest : List (Nat × Bool)) (exit : l.pExit = some p) (long : p + 1 < l.held.length)
      (queue : l.held = (n, false) :: rest) : Move l (l.advanced rest l.entries)
  /-- A step-done pushes a PRODUCT head out of a full cane queue into the discharge queue (R61, R62, R113). -/
  | departed (n p : Nat) (rest : List (Nat × Bool)) (going : l.stepping = true) (exit : l.pExit = some p)
      (long : p + 1 < l.held.length) (queue : l.held = (n, true) :: rest) :
      Move l (l.advanced rest (l.entries ++ [n]))
  /-- A step is sent with a record in the station, room at the exit and a zone map (R56, R58). -/
  | stepSent (full : l.station ≠ none) (room : ¬ l.NoRoom) (mapped : l.zoneCount ≠ 0) : Move l { l with stepping := true }
  /-- No step is in flight any more (R59, R60). -/
  | stepEnded : Move l { l with stepping := false }
  /-- The head's order is sent (R117). -/
  | orderSent (held : l.entries ≠ []) : Move l { l with ordered := true }
  /-- The head's order is withdrawn (R118, R124). -/
  | orderEnded : Move l { l with ordered := false }
  /-- The head of the discharge queue is completed (R119). -/
  | completed (n : Nat) (rest : List Nat) (held : l.entries = n :: rest) :
      Move l { l with entries := rest, ordered := false }
  /-- The line is cleared, with no step in flight (R70). -/
  | cleared (still : l.stepping = false) :
      Move l { l with station := none, records := [], entries := [], ordered := false }
  /-- Zone entries are written, with a zone count of 0 (R52, R96). -/
  | zonesWritten (zones : List ZoneEntry) (unmapped : l.zoneCount = 0) (length : l.zones.length = 12 → zones.length = 12)
      (ranged : (∀ z ∈ l.zones, z.inRange = true) → ∀ z ∈ zones, z.inRange = true) : Move l { l with zones := zones }
  /-- A zone count is written, with no record on the line (R53). -/
  | zoneCounted (n : Nat) (small : n ≤ 12) (joined : contiguousFrom 0 (l.zones.take n) = true)
      (empty : l.station = none ∧ l.records = [] ∧ l.entries = []) : Move l { l with zoneCount := n, pExit := l.exitFor n }

/-- Some changes of the cane line, one after another. -/
abbrev CaneLine.Moves : CaneLine → CaneLine → Prop := Relation.ReflTransGen CaneLine.Move

/-- A record with the next sequence number is placed in the station (R48, R49), which is empty in a lawful state. -/
inductive CaneLine.Placed (lawful : Prop) (l : CaneLine) : CaneLine → Prop where
  | placed (product : Bool) (empty : lawful → l.station = none) :
      Placed lawful l { l with station := some (l.next, product), next := nextSeq l.next }

/-- What one row can make of the cane line: moves, with at most one record placed among them. -/
def CaneLine.Row (lawful : Prop) (l l' : CaneLine) : Prop :=
  CaneLine.Moves l l' ∨ ∃ m m', CaneLine.Moves l m ∧ m.Placed lawful m' ∧ CaneLine.Moves m' l'

theorem CaneLine.Row.of_moves {lawful : Prop} {l l' : CaneLine} (h : CaneLine.Moves l l') : l.Row lawful l' := .inl h

theorem CaneLine.Row.after_moves {lawful : Prop} {l m l' : CaneLine} (h : CaneLine.Moves l m) (k : m.Row lawful l') :
    l.Row lawful l' := by
  rcases k with k | ⟨a, b, ha, hp, hb⟩
  · exact .inl (h.trans k)
  · exact .inr ⟨a, b, h.trans ha, hp, hb⟩

theorem CaneLine.Row.then_moves {lawful : Prop} {l m l' : CaneLine} (h : l.Row lawful m) (k : CaneLine.Moves m l') :
    l.Row lawful l' := by
  rcases h with h | ⟨a, b, ha, hp, hb⟩
  · exact .inl (h.trans k)
  · exact .inr ⟨a, b, ha, hp, hb.trans k⟩

/-- The cane line is read from the chain controller, the cane queue and the discharge unit alone. -/
theorem caneLine_congr {s t : State} (hc : t.chain = s.chain) (hq : t.canes = s.canes)
    (hd : t.discharge = s.discharge) : t.caneLine = s.caneLine := by
  rw [State.caneLine, State.caneLine, hc, hq, hd]

/-- The exit has no room on the line just when it has none in the machine. -/
theorem noExitRoom_iff_noRoom (s : State) : s.noExitRoom = true ↔ s.caneLine.NoRoom := by
  rw [noExitRoom_iff]
  simp only [NoRoomAtTheExit, CaneLine.NoRoom, State.caneLine, List.length_map, List.head?_map,
    Option.map_eq_some_iff, Cane.key, Prod.mk.injEq]
  constructor
  · rintro ⟨p, c, hp, hl, hh, hc, he⟩
    exact ⟨p, c.sequence, hp, hl, ⟨c, hh, rfl, hc⟩, he⟩
  · rintro ⟨p, n, hp, hl, ⟨c, hh, -, hc⟩, he⟩
    exact ⟨p, c, hp, hl, hh, hc, he⟩

/-! ## The chain controller and the station -/

/-- A change of the step state changes of the line whether a step is in flight. -/
theorem setStepState_caneLine (st : StepState) (s : State) :
    (setStepState st s).caneLine =
      { s.caneLine with stepping := match st with | .stepping _ => true | _ => false } := by
  cases st <;> rfl

/-- An evaluation of the chain controller sends a step or leaves the line. -/
theorem evaluateChain_moves (s : State) : CaneLine.Moves s.caneLine (evaluateChain s).caneLine := by
  have idle (hs : s.chain.step? = none) : (setStepState .idle s).caneLine = s.caneLine := by
    rw [setStepState_caneLine, State.caneLine, hs]; rfl
  have waiting (hs : s.chain.step? = none) : (setStepState .waitingRoom s).caneLine = s.caneLine := by
    rw [setStepState_caneLine, State.caneLine, hs]; rfl
  rcases evaluateChain_cases s with ⟨-, h⟩ |
    ⟨hstep, ⟨-, h⟩ | ⟨c, hc, ⟨-, h⟩ | ⟨-, -, h⟩ | ⟨hroom, hallowed, dest, -, h⟩⟩⟩ <;> rw [h]
  · rw [idle hstep]
  · rw [waiting hstep]
  · rw [idle hstep]
  · have hsent : (sendStep c dest s).caneLine = { s.caneLine with stepping := true } := by
      simp only [sendStep, setStepState_caneLine]
      simp [State.caneLine]
    rw [hsent]
    refine .single (.stepSent ?_ (fun hno => ?_) ?_)
    · rw [State.caneLine, hc]; nofun
    · rw [(noExitRoom_iff_noRoom s).2 hno] at hroom
      cases hroom
    · simp only [State.stepAllowed, Bool.and_eq_true, decide_eq_true_eq] at hallowed
      exact hallowed.2

theorem placeRecord_row {lawful : Prop} (product : Option Product) {s : State}
    (h : lawful → s.chain.station = none) : s.caneLine.Row lawful (placeRecord product s).caneLine := by
  have hplaced : s.caneLine.Placed lawful (stationed product s).caneLine :=
    .placed product.isSome fun ok => by rw [State.caneLine, h ok]; rfl
  exact .inr ⟨_, _, .refl, hplaced, evaluateChain_moves (stationed product s)⟩

theorem tryInsertion_row {lawful : Prop} (s : State) : s.caneLine.Row lawful (tryInsertion s).caneLine := by
  rcases tryInsertion_cases s with ⟨hdue, h⟩ | ⟨-, h⟩ <;> rw [h]
  · simp only [State.insertionDue, Bool.and_eq_true, Option.isNone_iff_eq_none] at hdue
    exact placeRecord_row none (s := { s with chain := { s.chain with drainTimer := .stopped } }) fun _ => hdue.1.1.2
  · exact .of_moves .refl

/-! ## The pacer's rows (R32 to R45) -/

theorem evaluateFire_caneLine (s : State) : (evaluateFire s).caneLine = s.caneLine :=
  caneLine_congr (by simp) (by simp) (by simp)

theorem afterFireEnd_row {lawful : Prop} (s : State) : s.caneLine.Row lawful (afterFireEnd s).caneLine := by
  have h := tryInsertion_row (lawful := lawful) (evaluateFire (setPacerState s.restState s))
  rw [evaluateFire_caneLine] at h
  exact h

theorem miss_row {lawful : Prop} (s : State) : s.caneLine.Row lawful (miss s).caneLine := by
  rw [miss_eq]
  refine CaneLine.Row.after_moves ?_ (afterFireEnd_row _)
  rw [missCounted]
  split <;> exact .refl

theorem takeFireOutcome_row {lawful : Prop} (n : Nat) (o : FrameOutcome) (s : State) :
    s.caneLine.Row lawful (takeFireOutcome n o s).caneLine := by
  have unchanged : s.caneLine.Row lawful s.caneLine := .of_moves .refl
  rw [takeFireOutcome]
  split
  · exact unchanged
  split
  · exact unchanged
  split
  · split
    · exact unchanged
    · exact unchanged
  · exact miss_row s
  · exact miss_row s

theorem cancelFire_row {lawful : Prop} (s : State) : s.caneLine.Row lawful (cancelFire s).caneLine := by
  rw [cancelFire]
  split
  · exact afterFireEnd_row (s.setPacer { s.pacer with knifeTimer := .stopped })
  · exact .of_moves .refl

/-- Speed arrivals touch the pacer only (R24, R25, R42, R43). -/
theorem takeSpeed_caneLine (v tick : Nat) (s : State) : (takeSpeed v tick s).caneLine = s.caneLine := by
  have watch (u : State) : (settleWatch v u).caneLine = u.caneLine := by rw [settleWatch]; split <;> rfl
  have check (u : State) : (overlengthCheck u).caneLine = u.caneLine := by rw [overlengthCheck]; split <;> rfl
  rw [takeSpeed]
  split
  · rw [watch]; rfl
  · rw [evaluateFire_caneLine, watch, check]; rfl

theorem pacerModeChange_caneLine (old new : LineMode) (s : State) :
    (pacerFollowsMode new (settleModeChange old new s)).caneLine = s.caneLine := by
  have settle : (settleModeChange old new s).caneLine = s.caneLine := by
    rw [settleModeChange]; (repeat' split) <;> rfl
  rw [pacerFollowsMode, ← settle]
  split
  · rw [evaluateFire_caneLine]; split <;> rfl
  · split <;> rfl

/-! ## Cuts (R35 to R40) -/

/-- The switch moves the pointers of the lot table and no record (R13). -/
theorem switchTest_places (s : State) :
    (switchTest s).canes = s.canes ∧ (switchTest s).chain = s.chain ∧ (switchTest s).discharge = s.discharge := by
  rw [switchTest]
  split
  case h_1 new old _ _ =>
    split
    · obtain ⟨hq, hc, hd, -⟩ := switchLots_places old new s
      exact ⟨hq, hc, hd⟩
    · exact ⟨rfl, rfl, rfl⟩
  case h_2 => exact ⟨rfl, rfl, rfl⟩

/-- A cut leaves the line, or places a record, which then stands in the station. -/
theorem cutHandled_row {lawful : Prop} (f : Fire) {s : State} (h : lawful → s.chain.station = none) :
    (cutHandled f s).caneLine = s.caneLine ∨
    (cutHandled f s).chain.station ≠ none ∧ s.caneLine.Row lawful (cutHandled f s).caneLine := by
  obtain ⟨p, hcut⟩ := cutHandled_eq f s
  rw [hcut]
  change (cutPlaced f _ _).caneLine = s.caneLine ∨
    (cutPlaced f _ _).chain.station ≠ none ∧ s.caneLine.Row lawful (cutPlaced f _ _).caneLine
  let u := s.setPacer (s.pacer.closeCurtain f.kind)
  have placed (r : Option Product) {v : State} (hv : v.caneLine = u.caneLine)
      (hst : lawful → v.chain.station = none) :
      (placeRecord r v).chain.station ≠ none ∧ s.caneLine.Row lawful (placeRecord r v).caneLine :=
    ⟨by rw [(recordPlaced_placeRecord r v).1]; nofun, hv ▸ placeRecord_row r hst⟩
  unfold cutPlaced hangCane
  split
  · split
    case h_1 a _ => exact .inr (placed _ (v := raiseRef a u) rfl h)
    case h_2 => exact .inl rfl
  · exact .inr (placed none (v := u) rfl h)
  · exact .inl rfl

/-- A completed cut: a record placed by it leaves the insertion nothing to do. -/
theorem completeCut_row {lawful : Prop} (f : Fire) {s : State} (h : lawful → s.chain.station = none) :
    s.caneLine.Row lawful (completeCut f s).caneLine := by
  obtain ⟨hq, hc, hd⟩ := switchTest_places (cutHandled f s)
  rw [completeCut_eq]
  rcases cutHandled_row f h with hcut | ⟨hst, hcut⟩
  · have hswitch := caneLine_congr hc hq hd
    exact hcut ▸ hswitch ▸ afterFireEnd_row _
  · obtain ⟨hc', hq', hd', -⟩ := afterFireEnd_of_station (s := switchTest (cutHandled f s)) (by rw [hc]; exact hst)
    rw [caneLine_congr (hc'.trans hc) (hq'.trans hq) (hd'.trans hd)]
    exact hcut

theorem unexpectedCuts_caneLine (n : Nat) (s : State) : (unexpectedCuts n s).caneLine = s.caneLine := by
  rw [unexpectedCuts_eq, evaluateFire_caneLine]
  exact caneLine_congr (by simp) (by simp) (by simp)

/-- A group of knife-count events: in a lawful state the station is empty while a fire is in flight (R29). -/
theorem takeKnifeCount_row (n : Nat) (s : State) :
    s.caneLine.Row (FireStepLaw s) (takeKnifeCount n s).caneLine := by
  rw [takeKnifeCount]
  split
  · exact .of_moves .refl
  split
  case h_1 f hf =>
    have hcut := completeCut_row (lawful := FireStepLaw s) f (s := s) fun hfs => (hfs.1 (by rw [hf]; rfl)).1
    split
    · exact hcut
    · rw [unexpectedCuts_caneLine]; exact hcut
  case h_2 => rw [unexpectedCuts_caneLine]; exact .of_moves .refl

/-! ## The chain controller's rows (R59 to R72) -/

theorem afterStepEnd_row {lawful : Prop} (s : State) : s.caneLine.Row lawful (afterStepEnd s).caneLine := by
  have h := tryInsertion_row (lawful := lawful) (evaluateFire s)
  rw [evaluateFire_caneLine] at h
  exact h

theorem failStep_row {lawful : Prop} (d : Nat) (s : State) : s.caneLine.Row lawful (failStep d s).caneLine :=
  CaneLine.Row.after_moves (m := { s.caneLine with stepping := false }) (.single .stepEnded)
    (afterStepEnd_row (State.hand (setStepState .idle
      (s.setChain { s.chain with recommands := 0, stepTimer := .stopped })) (.faultRaise .chainTimeout d)))

/-- A step sent again stays in flight (R59). -/
theorem recommandStep_caneLine {st : StepInFlight} {s : State} (h : s.chain.step? = some st) :
    (recommandStep st s).caneLine = s.caneLine := by
  rw [recommandStep]
  split
  · rw [setStepState_caneLine]
    simp [State.caneLine, h]
  · rfl

theorem takeStepOutcome_row {lawful : Prop} (n : Nat) (o : FrameOutcome) (s : State) :
    s.caneLine.Row lawful (takeStepOutcome n o s).caneLine := by
  have unchanged : s.caneLine.Row lawful s.caneLine := .of_moves .refl
  rw [takeStepOutcome]
  split
  case h_1 => exact unchanged
  case h_2 st hst =>
    split
    · exact unchanged
    split
    · split
      · exact unchanged
      · have hmarked : (startStepTimer (setStepState (.stepping { st with acknowledged := true }) s)).caneLine =
            s.caneLine := by
          change (setStepState (.stepping { st with acknowledged := true }) s).caneLine = s.caneLine
          rw [setStepState_caneLine, State.caneLine, hst]; rfl
        rw [hmarked]; exact unchanged
    split
    · rw [recommandStep_caneLine hst]; exact unchanged
    · exact failStep_row 1 s

/-- A cane queue gives up its head just when it holds more than P_exit + 1 records (R61 step 2). -/
theorem departingHead_cases (q : CaneQueue) :
    (departingHead q = none ∧ ∀ p, q.pExit = some p → q.records.length ≤ p + 1) ∨
    ∃ p h rest, departingHead q = some h ∧ q.pExit = some p ∧ q.records = h :: rest ∧ p < rest.length := by
  cases hp : q.pExit with
  | none => exact .inl ⟨by simp [departingHead, hp], nofun⟩
  | some p =>
    by_cases hlong : p + 1 < q.records.length
    · obtain ⟨h, rest, hr⟩ := List.exists_cons_of_length_pos (Nat.zero_lt_of_lt hlong)
      have hrest : p < rest.length := by simpa [hr] using hlong
      exact .inr ⟨p, h, rest, by simp [departingHead, hp, hr, hrest], rfl, hr, hrest⟩
    · refine .inl ⟨by simp [departingHead, hp, hlong], fun p' hp' => ?_⟩
      cases hp'
      exact Nat.le_of_not_lt hlong

/-- The head that the arrival of the station's record pushes out (R61 steps 1 and 2). -/
def pushedOut (s : State) : Option Cane := departingHead (stationJoins s).canes

/-- The state of a step-done once the records have moved (R61 steps 1 and 2, R62). -/
def recordsMoved (s : State) : State :=
  match pushedOut s with
  | some h => departHead h (stationJoins s)
  | none => stationJoins s

theorem stepDone_eq (s : State) :
    stepDone s = climateCheck (reportDeparture (pushedOut s) (afterStepEnd (endStep (recordsMoved s)))) := rfl

/-- The discharge unit after the departure of a head: a PRODUCT record joins the tail, an EMPTY one is dropped
(R62, R113). -/
def Discharge.received (d : Discharge) (s : State) (h : Cane) : Discharge :=
  match h.product with
  | some q => { d with entries := d.entries ++ [newEntry (s.lotSlot q.lot).header h q] }
  | none => d

/-- The station's record behind the tail of the cane queue (R61 step 1). -/
theorem stationJoins_eq (s : State) :
    stationJoins s = { s with chain := { s.chain with station := none },
                              canes := { s.canes with records := s.canes.records ++ s.chain.station.toList } } := by
  rw [stationJoins]
  cases hc : s.chain.station with
  | some c => rfl
  | none =>
    have same : { s.chain with station := none } = s.chain := by rw [← hc]
    rw [Option.toList_none, List.append_nil, same]

/-- The station's record joins a queue with room, or pushes out the head of a full one. -/
theorem recordsMoved_cases (s : State) :
    (pushedOut s = none ∧
      (∀ p, s.canes.pExit = some p → (s.canes.records ++ s.chain.station.toList).length ≤ p + 1) ∧
      recordsMoved s = { s with chain := { s.chain with station := none },
                                canes := { s.canes with records := s.canes.records ++ s.chain.station.toList } }) ∨
    ∃ p h rest, pushedOut s = some h ∧ s.canes.pExit = some p ∧
      p + 1 < (s.canes.records ++ s.chain.station.toList).length ∧
      s.canes.records ++ s.chain.station.toList = h :: rest ∧
      recordsMoved s = { s with chain := { s.chain with station := none },
                                canes := { s.canes with records := rest },
                                discharge := s.discharge.received s h } := by
  rcases departingHead_cases (stationJoins s).canes with ⟨hnone, hroom⟩ | ⟨p, h, rest, hsome, hp, hr, hlong⟩
  · have hnone' : pushedOut s = none := hnone
    rw [stationJoins_eq] at hroom
    exact .inl ⟨hnone, hroom, by rw [recordsMoved, hnone', stationJoins_eq]⟩
  · have hsome' : pushedOut s = some h := hsome
    rw [stationJoins_eq] at hp hr
    have htail : (s.canes.records ++ s.chain.station.toList).tail = rest := congrArg List.tail hr
    refine .inr ⟨p, h, rest, hsome, hp, ?_, hr, ?_⟩
    · rw [show s.canes.records ++ s.chain.station.toList = h :: rest from hr]
      exact Nat.succ_lt_succ hlong
    · rw [recordsMoved, hsome', stationJoins_eq]
      cases hprod : h.product <;>
        simp [departHead, Discharge.received, enterDischarge, State.setDischarge, hprod, htail, State.lotSlot]

/-- The keys of the records of the cane queue and the loading station. -/
theorem held_caneLine (s : State) : s.caneLine.held = (s.canes.records ++ s.chain.station.toList).map Cane.key := by
  rw [CaneLine.held, List.map_append, State.caneLine]
  cases s.chain.station <;> rfl

/-- The line once the step has ended, before anything evaluates. -/
theorem endStep_caneLine (s : State) : (endStep s).caneLine = { s.caneLine with stepping := false } := by
  rw [endStep]; split <;> rfl

/-- The end of a drain enters a mode, which leaves the line (R131). -/
theorem reportDeparture_caneLine (d : Option Cane) (s : State) : (reportDeparture d s).caneLine = s.caneLine := by
  cases d with
  | none => rfl
  | some c =>
    rw [reportDeparture]
    split
    · exact caneLine_congr (by simp) (by simp) (by simp)
    · rfl

/-- The records of a step-done, before anything evaluates: the arrival and the departure it may bring (R61, R62). -/
theorem recordsMoved_moves {s : State} (hst : s.chain.step?.isSome = true) :
    CaneLine.Moves s.caneLine (endStep (recordsMoved s)).caneLine := by
  have hlen : s.caneLine.held.length = (s.canes.records ++ s.chain.station.toList).length := by
    rw [held_caneLine, List.length_map]
  rw [endStep_caneLine]
  rcases recordsMoved_cases s with ⟨-, hroom, hmoved⟩ | ⟨p, h, rest, -, hp, hlong, hqueue, hmoved⟩ <;> rw [hmoved]
  · have harrived := CaneLine.Move.arrived (l := s.caneLine) hst (by rw [hlen]; exact hroom)
    rw [held_caneLine] at harrived
    exact .single harrived
  · have hkeys : s.caneLine.held = (h.sequence, h.isProduct) :: rest.map Cane.key := by
      rw [held_caneLine, hqueue]; rfl
    cases hprod : h.product with
    | none =>
      rw [Cane.isProduct, hprod] at hkeys
      rw [Discharge.received, hprod]
      exact .single (.dropped h.sequence p _ hp (by rw [hlen]; exact hlong) hkeys)
    | some q =>
      rw [Cane.isProduct, hprod] at hkeys
      have hdeparted := CaneLine.Move.departed h.sequence p _ hst hp (by rw [hlen]; exact hlong) hkeys
      have hentries : (s.discharge.entries ++ [newEntry (s.lotSlot q.lot).header h q]).map DischargeEntry.sequence =
          s.caneLine.entries ++ [h.sequence] := List.map_append
      rw [← hentries] at hdeparted
      rw [Discharge.received, hprod]
      exact .single hdeparted

/-- A step-done: the arrival and the departure, and then perhaps an insertion (R61, R62, R67). -/
theorem stepDone_row {lawful : Prop} {s : State} (hst : s.chain.step?.isSome = true) :
    s.caneLine.Row lawful (stepDone s).caneLine := by
  rw [stepDone_eq, caneLine_congr (climateCheck_chain _) (climateCheck_canes _) (climateCheck_discharge _),
    reportDeparture_caneLine]
  exact .after_moves (recordsMoved_moves hst) (afterStepEnd_row _)

theorem takeChainCount_row {lawful : Prop} (n : Nat) (s : State) :
    s.caneLine.Row lawful (takeChainCount n s).caneLine := by
  rw [takeChainCount]
  split
  · exact .of_moves .refl
  split
  case h_1 st hst =>
    have hdone := stepDone_row (lawful := lawful) (s := s) (by rw [hst]; rfl)
    split
    · exact hdone
    · exact hdone
  case h_2 => exact .of_moves .refl

end Sys2Proof.Machine
end

section
/-!
SUPPORT. The moves of the cane line through the rows of the other blocks and the directives, and what every row makes
of the line.
-/

namespace Sys2Proof.Machine

/-! ## The discharge unit's rows (R117 to R120) -/

theorem completeHead_moves {s : State} {e : DischargeEntry} {rest : List DischargeEntry}
    (he : s.discharge.entries = e :: rest) : CaneLine.Moves s.caneLine (completeHead e rest s).caneLine := by
  obtain ⟨hentries, horder, -⟩ := completed_fields e rest s.discharge
  have hheld : s.caneLine.entries = e.sequence :: rest.map DischargeEntry.sequence := by
    rw [State.caneLine, he]; rfl
  have hgone : (releaseRef e.product.lot (headGone e rest s)).caneLine =
      { s.caneLine with entries := rest.map DischargeEntry.sequence, ordered := false } := by
    simp [State.caneLine, headGone, State.setDischarge, hentries, horder]
  rw [completeHead_eq]
  refine .trans ?_ (evaluateChain_moves _)
  rw [hgone]
  exact .single (.completed e.sequence _ hheld)

theorem strayEvents_caneLine (n : Nat) (s : State) : (strayEvents n s).caneLine = s.caneLine :=
  caneLine_congr (queueReport_chain _ s) (queueReport_canes _ s) (queueReport_discharge _ s)

theorem takeStripperCount_moves (n : Nat) (s : State) :
    CaneLine.Moves s.caneLine (takeStripperCount n s).caneLine := by
  rw [takeStripperCount]
  split
  · exact .refl
  split
  case h_1 e rest he =>
    split
    · split
      · exact completeHead_moves he
      · rw [strayEvents_caneLine]; exact completeHead_moves he
    · rw [strayEvents_caneLine]
  case h_2 => rw [strayEvents_caneLine]

/-- An order is sent for a head only (R117). -/
theorem orderHead_moves (s : State) : CaneLine.Moves s.caneLine (orderHead s).caneLine := by
  rw [orderHead]
  split
  case h_1 e rest dest he _ =>
    split
    · have hsent (u : State) (hu : u.caneLine = s.caneLine) :
          (u.setDischarge { u.discharge with orderOutstanding := true }).caneLine =
            { s.caneLine with ordered := true } := by rw [← hu]; rfl
      simp only [hsent _ (caneLine_congr (handFrame_chain _ _ s) (handFrame_canes _ _ s) (handFrame_discharge _ _ s))]
      exact .single (.orderSent (by rw [State.caneLine, he]; nofun))
    · exact .refl
  case h_2 => exact .refl

/-- An order withdrawn decides its entry again and keeps its number (R118). -/
theorem takeOrderOutcome_moves (q : Nat) (o : FrameOutcome) (s : State) :
    CaneLine.Moves s.caneLine (takeOrderOutcome q o s).caneLine := by
  rw [takeOrderOutcome]
  split
  case h_1 e rest he =>
    split
    · have hended : (withdrawOrder e rest s).caneLine = { s.caneLine with ordered := false } := by
        simp [withdrawOrder, State.setDischarge, State.caneLine, he, DischargeEntry.redecided]
      rw [hended]
      exact .single .orderEnded
    · exact .refl
  case h_2 => exact .refl

/-! ## Visits, marks and sweeps (R68, R80, R116) -/

/-- A record replaced by one with the same key leaves the keys. -/
theorem map_key_set {cs : List Cane} {k : Nat} {c d : Cane} (hk : cs[k]? = some c) (hd : d.key = c.key) :
    (cs.set k d).map Cane.key = cs.map Cane.key := by
  have hkey : (cs.map Cane.key)[k]? = some d.key := by rw [List.getElem?_map, hk, hd]; rfl
  obtain ⟨hlt, hget⟩ := List.getElem?_eq_some_iff.1 hkey
  rw [List.map_set, ← hget, List.set_getElem_self]

/-- A visited record stays where it is, with its number and its kind. -/
theorem setProduct_caneLine {s : State} {pos : Nat} {c : Cane} {p : Product} (q : Product)
    (hc : s.canes.at? pos = some c) (hp : c.product = some p) : (s.setProduct pos c q).caneLine = s.caneLine := by
  rw [CaneQueue.at?] at hc
  split at hc
  case isTrue hpos =>
    have hkey : ({ c with product := some q } : Cane).key = c.key := by simp [Cane.key, Cane.isProduct, hp]
    simp only [State.setProduct, CaneQueue.setAt, hpos, if_true, State.caneLine, map_key_set hc hkey]
  case isFalse => cases hc

theorem reportExcursion_caneLine (p q : Product) (n : Nat) (s : State) :
    (reportExcursion p q n s).caneLine = s.caneLine := by
  rw [reportExcursion]
  split
  · exact caneLine_congr (queueReport_chain _ s) (queueReport_canes _ s) (queueReport_discharge _ s)
  · rfl

theorem takeNumber_caneLine (w : Sweep) (n : Nat) (s : State) : (takeNumber w n s).caneLine = s.caneLine := by
  simp only [takeNumber]
  split
  case h_1 => rfl
  case h_2 pos _ =>
    split
    case h_1 => rfl
    case h_2 c hc =>
      split
      case h_1 => rfl
      case h_2 p hp =>
        rw [visitProduct]
        split
        · rw [reportExcursion_caneLine]; exact setProduct_caneLine _ hc hp
        · exact setProduct_caneLine _ hc hp

/-- A mark keeps a record's number and kind. -/
theorem marked_key (c : Cane) (m : CaneMark) (first last : Nat) : (c.marked m first last).key = c.key := by
  rw [Cane.marked]
  split
  · simp [Cane.key, Cane.isProduct]
  · rfl

/-- A mark keeps the numbers of the discharge queue. -/
theorem markEntries_sequences (s : State) (m : CaneMark) (first last : Nat) (ordered : Bool)
    (es : List DischargeEntry) :
    (markEntries s m first last ordered es).map DischargeEntry.sequence = es.map DischargeEntry.sequence := by
  induction es generalizing ordered with
  | nil => rfl
  | cons e es ih =>
    rw [markEntries, List.map_cons, List.map_cons, ih]
    congr 1
    split
    · cases ordered <;> rfl
    · rfl

theorem markRecords_caneLine (m : CaneMark) (first last : Nat) (s : State) :
    (markRecords m first last s).caneLine = s.caneLine := by
  simp [markRecords, State.caneLine, markEntries_sequences, Function.comp_def, marked_key, Chain.step?]

theorem deriveClimate_caneLine (s : State) : (deriveClimate s).caneLine = s.caneLine :=
  forEach_keeps State.caneLine deriveZone (fun k _ => caneLine_congr (refreshDemand_chain k _)
    (refreshDemand_canes k _) (refreshDemand_discharge k _)) _ s

theorem closeSweep_caneLine (w : Sweep) (s : State) : (closeSweep w s).caneLine = s.caneLine := by
  rw [closeSweep, caneLine_congr (climateCheck_chain _) (climateCheck_canes _) (climateCheck_discharge _)]
  exact deriveClimate_caneLine s

theorem finishSweep_caneLine (w : Sweep) (s : State) : (finishSweep w s).caneLine = s.caneLine := by
  have owed (u : State) : (startAndCloseEmpty u).caneLine = u.caneLine := by
    simp only [startAndCloseEmpty]
    split
    · split
      · exact closeSweep_caneLine _ (startSweep u)
      · rfl
    · rfl
  simp only [finishSweep]
  split
  · rw [owed]; exact closeSweep_caneLine w s
  · exact closeSweep_caneLine w s

theorem onSweepExpiry_caneLine (s : State) : (onSweepExpiry s).caneLine = s.caneLine := by
  simp only [onSweepExpiry]
  split
  · rfl
  split
  · split
    · exact finishSweep_caneLine _ (startSweep s)
    · rfl
  · rfl

/-! ## The zones and the signals -/

theorem configureZones_caneLine (n : Nat) (s : State) : (configureZones n s).caneLine = s.caneLine := by
  rw [configureZones, stopAirTimersFrom, forEach_keeps State.caneLine, forEach_keeps State.caneLine]
  · intro k t
    simp only [configureZone]
    split <;> exact caneLine_congr (by simp [State.setSetpoints]) (by simp [State.setSetpoints])
      (by simp [State.setSetpoints])
  · intro k t
    split <;> rfl

theorem State.setLoss_caneLine (s : State) (k : Nat) (x : LatchTimer) (m : Bool) :
    (s.setLoss k x m).caneLine = s.caneLine := rfl

theorem restartLossTimers_caneLine (n : Nat) (s : State) : (restartLossTimers n s).caneLine = s.caneLine := by
  rw [restartLossTimers]
  split
  · exact forEach_keeps State.caneLine _ (fun k t => State.setLoss_caneLine t k _ _) _ s
  · exact forEach_keeps State.caneLine _ (fun k t => by split <;> rfl) _ s

/-- A loss clears at most the revolution baseline, which the line does not hold (R148). -/
theorem makeLost_caneLine (role : Nat) (s : State) : (makeLost role s).caneLine = s.caneLine := by
  simp only [State.caneLine, makeLost_canes, makeLost_discharge, makeLost_chain]
  split <;> rfl

/-- A gain lets the pacer or the chain controller evaluate (R148). -/
theorem reportGain_moves (role : Nat) (s : State) : CaneLine.Moves s.caneLine (reportGain role s).caneLine := by
  have back (k : Nat) : (climateSlotBack k s).caneLine = s.caneLine :=
    caneLine_congr (climateSlotBack_chain k s) (climateSlotBack_canes k s) (climateSlotBack_discharge k s)
  rw [reportGain]
  split
  · rw [evaluateFire_caneLine]
  split
  · exact evaluateChain_moves s
  split
  · rw [back]
  split
  · rw [back]
  · exact .refl

theorem acceptItem_moves (role : Nat) (v : Int) (st : SampleStatus) (tick : Nat) (s : State) :
    CaneLine.Moves s.caneLine (acceptItem role v st tick s).caneLine := by
  rw [acceptItem, foldl_keeps State.caneLine State.hand (fun _ _ => rfl)]
  split
  · exact reportGain_moves role (s.setSlot role _)
  · exact .refl

theorem takeItem_moves (source tick : Nat) (i : SampleItem) (s : State) :
    CaneLine.Moves s.caneLine (takeItem source tick i s).caneLine := by
  rw [takeItem]
  split
  · exact .refl
  split
  · exact acceptItem_moves _ _ _ _ s
  split
  · exact acceptItem_moves _ _ _ _ s
  · exact .refl

theorem takeSample_moves (source : Nat) (payload : List Byte) (s : State) :
    CaneLine.Moves s.caneLine (takeSample source payload s).caneLine := by
  have items (is : List SampleItem) (u : State) :
      CaneLine.Moves u.caneLine (is.foldl (fun t i => takeItem source s.clock i t) u).caneLine := by
    induction is generalizing u with
    | nil => exact .refl
    | cons i is ih => exact (takeItem_moves source s.clock i u).trans (ih _)
  rw [takeSample]
  split
  · exact items _ s
  · exact .refl

theorem cutOffReception_caneLine (cs : List RxChar) (s : State) : (cutOffReception cs s).caneLine = s.caneLine := by
  rw [cutOffReception]; (repeat' split) <;> rfl

theorem endReception_moves (cs : List RxChar) (e : ReceptionEnding) (s : State) :
    CaneLine.Moves s.caneLine (endReception cs e s).caneLine := by
  simp only [endReception, takeFrame]
  split
  · exact .refl
  split
  · exact .refl
  split
  · exact takeSample_moves _ _ (setTrunk .busy .closed s)
  · exact .refl

theorem endFrame_caneLine (o : FrameOutcome) (s : State) : (endFrame o s).caneLine = s.caneLine := by
  rw [endFrame]; split <;> rfl

/-- An outcome row makes of the line what its action makes of it. -/
theorem takeOutcome_row {lawful : Prop} {act : State → State} (e : Instr)
    (h : ∀ u : State, u.caneLine.Row lawful (act u).caneLine) (s : State) :
    s.caneLine.Row lawful (takeOutcome e act s).caneLine := by
  rcases takeOutcome_cases e act s with ⟨-, ht⟩ | ⟨-, ht⟩ <;> rw [ht]
  · exact h (s.took e)
  · exact .of_moves .refl

theorem enterMode_caneLine (m : LineMode) (r : ModeReason) (s : State) : (enterMode m r s).caneLine = s.caneLine :=
  caneLine_congr (enterMode_chain m r s) (enterMode_canes m r s) (enterMode_discharge m r s)

/-! ## Directives -/

/-- The line goes from `u` to `v` by moves. -/
def LineMoves (u v : State) : Prop := CaneLine.Moves u.caneLine v.caneLine

theorem LineMoves.refl (u : State) : LineMoves u u := Relation.ReflTransGen.refl

theorem LineMoves.of_eq {u v : State} (h : v.caneLine = u.caneLine) : LineMoves u v := by rw [LineMoves, h]

/-- A directive row makes the moves of its execution: the queue and the response are not in the line. -/
theorem runDirective_row {lawful : Prop} {d : Directive} {gap : Bool} {act : List Byte → State → Answer}
    (h : Effects LineMoves act) (s : State) : s.caneLine.Row lawful (runDirective d gap act s).caneLine := by
  rcases runDirective_cases d gap act s with ⟨-, hr⟩ | ⟨-, hr⟩ <;> rw [hr]
  · rw [respond, caneLine_congr (handFrame_chain _ _ _) (handFrame_canes _ _ _) (handFrame_discharge _ _ _)]
    exact .of_moves (h d.args (popDirective s))
  · exact .of_moves .refl

/-! ### The reading, lot and mark directives -/

theorem readTable_lineMoves : Effects LineMoves readTableAnswer := by
  intro args u
  simp only [readTableAnswer, readKnownTable, readLot]
  (repeat' split) <;> exact .refl u

theorem readCane_lineMoves : Effects LineMoves readCaneAnswer := by
  intro args u
  simp only [readCaneAnswer, readBySequence, readByPosition]
  (repeat' split) <;> exact .refl u

theorem readStatus_lineMoves : Effects LineMoves readStatusAnswer := by
  intro args u
  rw [readStatusAnswer]
  split <;> exact .refl u

theorem markCanes_lineMoves : Effects LineMoves markCanesAnswer := by
  intro args u
  simp only [markCanesAnswer]
  split
  · exact .refl u
  · exact .of_eq (markRecords_caneLine _ _ _ u)

theorem openLot_lineMoves (h : Option LotHeader) (i : Nat) (u : State) : LineMoves u (openLot h i u).state := by
  unfold openLot
  (repeat' split) <;> exact .refl u

theorem appendStage_lineMoves (g : Stage) (i : Nat) (u : State) : LineMoves u (appendStage g i u).state := by
  rw [appendStage]
  (repeat' split) <;> exact .refl u

theorem sealLot_lineMoves (i : Nat) (u : State) : LineMoves u (sealLot i u).state := by
  rw [sealLot]
  (repeat' split) <;> exact .refl u

theorem discardLot_lineMoves (i : Nat) (u : State) : LineMoves u (discardLot i u).state := by
  rw [discardLot]
  split <;> exact .refl u

theorem armLot_lineMoves (b : Nat) (u : State) : LineMoves u (armLot b u).state := by
  rw [armLot]
  (repeat' split) <;> exact .refl u

/-- With no step in flight the three places are emptied, and both evaluate (R70). -/
theorem clearLine_lineMoves : Effects LineMoves clearLineAnswer := by
  intro args u
  rw [clearLineAnswer]
  split
  · exact .refl u
  split
  · exact .refl u
  case isFalse h =>
    have still : u.chain.step? = none := by simpa using h
    rw [LineMoves, doneWith_state, clearLine_eq still, evaluateFire_caneLine, setStepState_caneLine]
    have hplaces := lineEmptied_places u
    have emptied : { (lineEmptied u).caneLine with stepping := false } =
        { u.caneLine with station := none, records := [], entries := [], ordered := false } := by
      simp [State.caneLine, hplaces, still]
    exact emptied ▸ .single (.cleared (by rw [State.caneLine, still]; rfl))

/-! ### The modes and the faults -/

theorem enterPriming_lineMoves (u : State) : LineMoves u (enterPriming u).state := by
  rw [enterPriming]
  split
  · exact .refl u
  split
  · exact .refl u
  · exact .of_eq (enterMode_caneLine _ _ u)

theorem enterRunning_lineMoves (u : State) : LineMoves u (enterRunning u).state := by
  rw [enterRunning]
  split
  · exact .refl u
  split
  · exact .refl u
  · exact .of_eq (enterMode_caneLine _ _ u)

theorem enterDraining_lineMoves (u : State) : LineMoves u (enterDraining u).state := by
  simp only [enterDraining, doneWith_state]
  split
  · exact .of_eq (enterMode_caneLine _ _ u)
  · exact .of_eq ((enterMode_caneLine _ _ _).trans (enterMode_caneLine _ _ u))

theorem enterStopped_lineMoves (u : State) : LineMoves u (enterStopped u).state := by
  rw [enterStopped]
  split
  · split
    · exact .of_eq (enterMode_caneLine _ _ u)
    · exact .refl u
  split
  · exact .refl u
  · exact .of_eq (enterMode_caneLine _ _ u)

theorem enterSafe_lineMoves (u : State) : LineMoves u (enterSafe u).state := by
  rw [enterSafe]
  split
  · exact .refl u
  · exact .of_eq (enterMode_caneLine _ _ u)

theorem leaveSafe_lineMoves (u : State) : LineMoves u (leaveSafe u).state := by
  rw [leaveSafe]
  split
  · exact .refl u
  · exact .of_eq (enterMode_caneLine _ _ u)

theorem ackFault_lineMoves (b : Nat) (u : State) : LineMoves u (ackFaultCode b u).state := by
  rw [ackFaultCode]
  (repeat' split) <;> exact .refl u

/-! ### The table writes -/

theorem writeListen_lineMoves : WriteEffects LineMoves writeListen := by
  intro first es u
  rw [writeListen]
  split
  · exact .refl u
  split
  · exact .of_eq (forEach_keeps State.caneLine _ (fun k t => makeLost_caneLine _ t) _ _)
  · exact .refl u

/-- A TALK write lets the pacer and the chain controller evaluate (R152). -/
theorem writeTalk_lineMoves : WriteEffects LineMoves writeTalk := by
  intro first es u
  rw [writeTalk]
  split
  case h_1 => exact .refl u
  case h_2 new _ =>
    simp only [LineMoves, doneWith_state, storeTalk]
    let t : State := { u with signals := { u.signals with talk := replaced u.signals.talk first new } }
    have fired : (if first ≤ talkKnife ∧ talkKnife < first + new.length then evaluateFire t else t).caneLine =
        u.caneLine := by
      split
      · exact evaluateFire_caneLine t
      · rfl
    have chained (v : State) (hv : v.caneLine = u.caneLine) (c : Prop) [Decidable c] :
        CaneLine.Moves u.caneLine (if c then evaluateChain v else v).caneLine := by
      rw [← hv]
      split
      · exact evaluateChain_moves v
      · exact .refl
    exact chained _ fired _

/-- The entries that a ZONE write replaces are as many as it brings (R52, R173). -/
theorem replaced_length {α : Type} {table : List α} {first : Nat} {new : List α}
    (h : first + new.length ≤ table.length) : (replaced table first new).length = table.length := by
  simp only [replaced, List.length_append, List.length_take, List.length_drop]
  omega

theorem parseAll_length {α : Type} {f : List Byte → Option α} {es : List (List Byte)} {xs : List α}
    (h : parseAll f es = some xs) : xs.length = es.length := by
  induction es generalizing xs with
  | nil => cases h; rfl
  | cons e es ih =>
    rw [parseAll] at h
    split at h
    case h_1 x ys _ hys =>
      cases h
      rw [List.length_cons, List.length_cons, ih hys]
    case h_2 => cases h

/-- What is parsed of a write has the property that every parsed entry has. -/
theorem parseAll_forall {α : Type} {P : α → Prop} {f : List Byte → Option α} (hf : ∀ e x, f e = some x → P x)
    {es : List (List Byte)} {xs : List α} (h : parseAll f es = some xs) : ∀ x ∈ xs, P x := by
  induction es generalizing xs with
  | nil => cases h; nofun
  | cons e es ih =>
    rw [parseAll] at h
    split at h
    case h_1 x ys hx hys =>
      cases h
      intro y hy
      rcases List.mem_cons.1 hy with rfl | hy
      · exact hf e y hx
      · exact ih hys y hy
    case h_2 => cases h

/-- A zone entry is parsed only within its ranges (R52, R96). -/
theorem parseZone_inRange (bs : List Byte) (z : ZoneEntry) (h : parseZone bs = some z) : z.inRange = true := by
  unfold parseZone at h
  split at h
  · cases h
  · simp only [Option.ite_none_right_eq_some, Option.some.injEq] at h
    exact h.2 ▸ h.1

/-- An entry of a table partly replaced is an old or a new one. -/
theorem mem_of_mem_replaced {α : Type} {table new : List α} {first : Nat} {x : α} (h : x ∈ replaced table first new) :
    x ∈ table ∨ x ∈ new := by
  simp only [replaced, List.mem_append] at h
  rcases h with (h | h) | h
  · exact .inl (List.mem_of_mem_take h)
  · exact .inr h
  · exact .inl (List.mem_of_mem_drop h)

/-- A ZONE write replaces entries within the table by entries in range, with a zone count of 0 (R52, R96). -/
theorem writeZone_lineMoves (u : State) (first : Nat) (es : List (List Byte)) :
    LineMoves u (withZoneCountZero (withRange .zone writeZone) first es u).state := by
  rw [withZoneCountZero]
  split
  case isFalse => exact .refl u
  case isTrue hcount =>
    rw [withRange]
    split
    case isFalse => exact .refl u
    case isTrue hrange =>
      rw [writeZone]
      split
      case h_1 => exact .refl u
      case h_2 new hnew =>
        rw [LineMoves, doneWith_state]
        have hfits : first + new.length ≤ 12 := by
          rw [parseAll_length hnew]
          exact of_decide_eq_true (Bool.and_eq_true_iff.1 hrange).2
        refine .single (.zonesWritten _ hcount
          (fun hlen => (replaced_length (hlen ▸ hfits)).trans hlen) fun hold z hz => ?_)
        rcases mem_of_mem_replaced hz with hz | hz
        · exact hold z hz
        · exact parseAll_forall parseZone_inRange hnew z hz

/-- A ZONE_COUNT write is taken with no record on the line, and the chain controller then evaluates (R53, R57). -/
theorem writeZoneCount_lineMoves (n : Nat) (u : State) : LineMoves u (writeZoneCount n u).state := by
  rw [writeZoneCount]
  split
  · exact .refl u
  split
  · exact .refl u
  split
  · exact .refl u
  case isFalse hcount hrecords =>
    split
    case isFalse => exact .refl u
    case isTrue hjoined =>
      obtain ⟨⟨hst, hrec⟩, hent⟩ : (u.chain.station = none ∧ u.canes.records = []) ∧ u.discharge.entries = [] := by
        simpa [State.holdsRecords] using hrecords
      rw [LineMoves, doneWith_state, storeZoneCount]
      refine .trans ?_ (evaluateChain_moves _)
      rw [restartLossTimers_caneLine, configureZones_caneLine]
      have hempty : u.caneLine.station = none ∧ u.caneLine.records = [] ∧ u.caneLine.entries = [] := by
        simp [State.caneLine, hst, hrec, hent]
      exact .single (.zoneCounted n (Nat.le_of_not_lt hcount) hjoined hempty)

theorem writeMeq_lineMoves : WriteEffects LineMoves writeMeq := by
  intro first es u
  unfold writeMeq
  cases parseAll parseMeq es <;> exact .refl u

theorem writeModel_lineMoves (entry : List Byte) (u : State) : LineMoves u (writeModel entry u).state := by
  unfold writeModel
  cases parseModel entry <;> exact .refl u

theorem writePacer_lineMoves (entry : List Byte) (u : State) : LineMoves u (writePacer entry u).state := by
  unfold writePacer
  cases parsePacer entry <;> exact .refl u

theorem writeLine_lineMoves (entry : List Byte) (u : State) : LineMoves u (writeLine entry u).state := by
  unfold writeLine
  cases parseLine u.port.node entry <;> exact .refl u

end Sys2Proof.Machine
end

section
/-!
SUPPORT. What every row makes of the cane line, the laws of the line that its moves keep, and the obligation about them.
-/

namespace Sys2Proof.Machine

/-! ## Every row -/

/-- A row but a power-on reset makes moves of the cane line, with at most one record placed. -/
theorem exec_caneRow {c : Instr} {s t : State} (hpower : ∀ x, c ≠ .powerOnReset x) (ht : exec c s = .next t) :
    s.caneLine.Row (FireStepLaw s) t.caneLine := by
  have row {u : State} (hu : (.next u : Host.Outcome State Fault Refusal) = .next t)
      (h : s.caneLine.Row (FireStepLaw s) u.caneLine) : s.caneLine.Row (FireStepLaw s) t.caneLine :=
    of_next (P := fun v => s.caneLine.Row (FireStepLaw s) v.caneLine) hu h
  -- a row that places no record
  have moves {u : State} (hu : (.next u : Host.Outcome State Fault Refusal) = .next t)
      (h : CaneLine.Moves s.caneLine u.caneLine) : s.caneLine.Row (FireStepLaw s) t.caneLine := row hu (.of_moves h)
  -- a row that leaves the line
  have same {u : State} (hu : (.next u : Host.Outcome State Fault Refusal) = .next t) (h : u.caneLine = s.caneLine) :
      s.caneLine.Row (FireStepLaw s) t.caneLine := moves hu (by rw [h])
  -- a row that leaves the three blocks that the line reads
  have apart {u : State} (hu : (.next u : Host.Outcome State Fault Refusal) = .next t)
      (h : u.chain = s.chain ∧ u.canes = s.canes ∧ u.discharge = s.discharge) : s.caneLine.Row (FireStepLaw s) t.caneLine :=
    same hu (caneLine_congr h.1 h.2.1 h.2.2)
  -- a directive row
  have dir {d : Directive} {gap : Bool} {act : List Byte → State → Answer}
      (hu : (.next (runDirective d gap act s) : Host.Outcome State Fault Refusal) = .next t)
      (h : Effects LineMoves act) : s.caneLine.Row (FireStepLaw s) t.caneLine := row hu (runDirective_row h s)
  have unchanged : s.caneLine.Row (FireStepLaw s) s.caneLine := .of_moves .refl
  have refused : Effects LineMoves (fun _ => refuse .badForm) := fun _ => .refl
  cases c with
  | powerOnReset straps => exact absurd rfl (hpower straps)
  | trunkReset =>
    refine same ht ?_
    split
    · rfl
    · exact foldl_keeps State.caneLine State.hand (fun _ _ => rfl) _ _
  | signalUnitTrunkReset => exact same ht (forEach_keeps State.caneLine _ (fun _ _ => makeLost_caneLine _ _) 32 _)
  | pacerTrunkReset => exact row ht (cancelFire_row (s.took .pacerTrunkReset))
  | chainTrunkReset => exact same ht (by (repeat' split) <;> rfl)
  | dischargeTrunkReset => exact moves ht (.single .orderEnded)
  | lineSequencerTrunkReset =>
    refine apart ht ?_
    split <;> simp
  | agentTrunkReset => exact same ht rfl
  | idleGap received =>
    refine same ht ?_
    split
    · rfl
    · exact cutOffReception_caneLine received s
  | receptionEnd received ending => exact moves ht (endReception_moves received ending s)
  | directiveAcknowledge received => exact same ht (by (repeat' split) <;> rfl)
  | frameDraw => exact same ht (by split <;> rfl)
  | claimLost => exact same ht (by (repeat' split) <;> rfl)
  | transmissionBroken => exact same ht (endFrame_caneLine _ s)
  | acknowledgeSlotOutcome dominant => exact same ht (endFrame_caneLine _ s)
  | knifeFireOutcome f o => exact row ht (takeOutcome_row _ (takeFireOutcome_row _ o) s)
  | chainStepOutcome f o => exact row ht (takeOutcome_row _ (takeStepOutcome_row _ o) s)
  | pressCmdOutcome f run o =>
    refine row ht (takeOutcome_row _ (fun u => ?_) s)
    rw [takePressOutcome]
    split <;> exact .of_moves .refl
  | zoneCommandOutcome f o => exact row ht (takeOutcome_row _ (fun _ => .of_moves .refl) s)
  | stripOrderOutcome f q o =>
    exact row ht (takeOutcome_row _ (fun u => .of_moves (takeOrderOutcome_moves q o u)) s)
  | managementFrameOutcome f o => exact row ht (takeOutcome_row _ (fun _ => .of_moves .refl) s)
  | speedArrival v tick => exact same ht (takeSpeed_caneLine v tick (s.took (.speedArrival v tick)))
  | spreaderStateArrival v =>
    refine same ht ?_
    split
    · exact evaluateFire_caneLine (s.took (.spreaderStateArrival v))
    · rfl
  | knifeCountEvents n => exact row ht (takeKnifeCount_row n (s.took (.knifeCountEvents n)))
  | knifeTimerExpiry =>
    refine row ht ?_
    split
    · exact miss_row s
    · exact unchanged
  | settleTimerExpiry => exact same ht (by split <;> rfl)
  | pacerModeChange old new => exact same ht (pacerModeChange_caneLine old new (s.took (.pacerModeChange old new)))
  | chainModeChange old new =>
    have followed : (drainModeChange old new (s.took (.chainModeChange old new))).caneLine = s.caneLine := by
      rw [drainModeChange]
      (repeat' split) <;> rfl
    refine moves ht ?_
    rw [← followed]
    split
    · exact evaluateChain_moves _
    · exact .refl
  | chainCountEvents n => exact row ht (takeChainCount_row n (s.took (.chainCountEvents n)))
  | chainIndexEvents n =>
    exact same ht (forEach_keeps State.caneLine _ (fun _ u => by rw [indexEvent]; split <;> rfl) n _)
  | stepTimerExpiry =>
    refine row ht ?_
    split
    · exact failStep_row 2 s
    · exact unchanged
  | drainTimerExpiry =>
    refine row ht ?_
    split
    · exact (tryInsertion_row (s.setChain { s.chain with drainTimer := .expired })).then_moves (evaluateChain_moves _)
    · exact unchanged
  | stripperStateArrival v =>
    refine moves ht ?_
    split
    · exact orderHead_moves (s.took (.stripperStateArrival v))
    · exact .refl
  | stripperCountEvents n => exact moves ht (takeStripperCount_moves n (s.took (.stripperCountEvents n)))
  | stallTimerExpiry => exact same ht (by split <;> rfl)
  | pressStateArrival v =>
    refine apart ht ?_
    rw [sendOwedCommand]
    (repeat' split) <;> simp
  | zoneRhArrival k => exact apart ht (by split <;> simp)
  | staleTimerExpiry role => exact same ht (by rw [staleExpiry]; split <;> rfl)
  | lostTimerExpiry role =>
    refine same ht ?_
    rw [lostExpiry]
    split
    · exact makeLost_caneLine role s
    · rfl
  | climateLossTimerExpiry k => exact apart ht (by split <;> simp)
  | airTimerExpiry k => exact apart ht (by split <;> simp [alternateAir])
  | sweepTimerExpiry =>
    refine same ht ?_
    split
    · exact onSweepExpiry_caneLine (s.setDrying _)
    · rfl
  | caneVisit =>
    refine same ht ?_
    split
    · rfl
    split
    · rfl
    · exact takeNumber_caneLine _ _ s
  | sweepEnd =>
    refine same ht ?_
    split
    · rfl
    split
    · exact finishSweep_caneLine _ s
    · rfl
  | faultRaise code d => exact apart ht (by simp)
  | readTable r => exact dir ht readTable_lineMoves
  | writeTableListen r =>
    exact dir ht (effects_withEntries .refl
      (writeEffects_withModes .refl (writeEffects_withRange .refl writeListen_lineMoves)))
  | writeTableTalk r =>
    exact dir ht (effects_withEntries .refl
      (writeEffects_withModes .refl (writeEffects_withRange .refl writeTalk_lineMoves)))
  | writeTableZone r => exact dir ht (effects_withEntries .refl fun first es u => writeZone_lineMoves u first es)
  | writeTableZoneCount r =>
    exact dir ht (effects_withEntries .refl (writeEffects_withRange .refl fun _ _ => writeZoneCount_lineMoves _))
  | writeTableMeq r => exact dir ht (effects_withEntries .refl (writeEffects_withRange .refl writeMeq_lineMoves))
  | writeTableKd r => exact dir ht (effects_withEntries .refl (writeEffects_withRange .refl fun _ _ => .refl))
  | writeTableModel r =>
    exact dir ht (effects_withEntries .refl (writeEffects_withRange .refl fun _ _ => writeModel_lineMoves _))
  | writeTableGap r => exact dir ht (effects_withEntries .refl (writeEffects_withRange .refl fun _ _ => .refl))
  | writeTablePacer r =>
    exact dir ht (effects_withEntries .refl (writeEffects_withRange .refl fun _ _ => writePacer_lineMoves _))
  | writeTableLine r =>
    exact dir ht (effects_withEntries .refl (writeEffects_withRange .refl fun _ _ => writeLine_lineMoves _))
  | writeTableUnwritable r =>
    refine row ht ?_
    split
    · exact unchanged
    · exact runDirective_row (fun args u => by rw [refuseTable]; split <;> exact .refl u) s
  | readCane r => exact dir ht (effects_withLength .refl readCane_lineMoves)
  | markCanes r => exact dir ht (effects_withLength .refl markCanes_lineMoves)
  | clearLine r => exact dir ht (effects_withLength .refl clearLine_lineMoves)
  | lotOpen r => exact dir ht (effects_withLength .refl (effects_withSlot .refl fun _ => openLot_lineMoves _))
  | lotStage r => exact dir ht (effects_withLength .refl (effects_withSlot .refl fun _ => appendStage_lineMoves _))
  | lotSeal r => exact dir ht (effects_withLength .refl (effects_withSlot .refl fun _ => sealLot_lineMoves))
  | lotDiscard r => exact dir ht (effects_withLength .refl (effects_withSlot .refl fun _ => discardLot_lineMoves))
  | lotArm r => exact dir ht (effects_withLength .refl fun _ => armLot_lineMoves _)
  | modePrime r => exact dir ht (effects_modeFrom .refl enterPriming_lineMoves)
  | modeRun r => exact dir ht (effects_modeFrom .refl enterRunning_lineMoves)
  | modeHold r => exact dir ht (effects_modeFrom .refl fun u => .of_eq (enterMode_caneLine _ _ u))
  | modeResume r => exact dir ht (effects_modeFrom .refl enterPriming_lineMoves)
  | modeDrain r => exact dir ht (effects_modeFrom .refl enterDraining_lineMoves)
  | modeStop r => exact dir ht (effects_modeFrom .refl enterStopped_lineMoves)
  | modeSafe r => exact dir ht (effects_modeFrom .refl enterSafe_lineMoves)
  | modeLeaveSafe r => exact dir ht (effects_modeFrom .refl leaveSafe_lineMoves)
  | ackFault r => exact dir ht (effects_withLength .refl fun _ => ackFault_lineMoves _)
  | readStatus r => exact dir ht (effects_withLength .refl readStatus_lineMoves)
  | readTotals r => exact dir ht (effects_withLength .refl fun _ => .refl)
  | clearTotals r => exact dir ht (effects_withLength .refl fun _ => .refl)
  | unknownDirective sender payload =>
    refine row ht ?_
    split
    · exact unchanged
    · exact runDirective_row refused s
  | lineClockTick => exact same ht rfl
  | startMark received =>
    refine same ht ?_
    split
    · rfl
    · exact cutOffReception_caneLine received s
  | dominantRun bits => exact same ht (by split <;> rfl)
  | trunkResetReleased => exact same ht (by split <;> rfl)
  | modeUnknownArgument r =>
    refine row ht ?_
    split
    · exact unchanged
    · exact runDirective_row (fun args u => by rw [refuseMode]; split <;> exact .refl u) s

/-! ## The laws on the line -/

/-- The zone map law on the line (R52, R53, R96). -/
def CaneLine.Mapped (l : CaneLine) : Prop :=
  l.zones.length = 12 ∧ l.zoneCount ≤ 12 ∧ (∀ z ∈ l.zones, z.inRange = true) ∧
  contiguousFrom 0 (l.zones.take l.zoneCount) = true ∧ l.pExit = l.exitFor l.zoneCount

/-- A step in flight has its record in the station (R58). -/
def CaneLine.Loaded (l : CaneLine) : Prop := l.stepping = true → l.station ≠ none

/-- The cane queue has no more than P_exit + 1 records (R50). -/
def CaneLine.Short (l : CaneLine) : Prop := ∀ p, l.pExit = some p → l.records.length ≤ p + 1

/-- The cane law on the line (R48, R50). -/
structure CaneLine.Numbered (l : CaneLine) : Prop where
  next_lt : l.next < Config.seqModulus
  held_lt : ∀ c ∈ l.held, c.1 < Config.seqModulus
  run : sequencesRun l.next (l.held.map Prod.fst)
  short : l.Short
  none_held : l.pExit = none → l.records = []
  mapped_of_stepping : l.stepping = true → l.zoneCount ≠ 0

/-- The discharge law on the line (R56, R112, R113), with the length of the cane queue that it leans on. -/
structure CaneLine.Roomy (l : CaneLine) : Prop where
  short : l.Short
  entries_le : l.entries.length ≤ 8
  unordered : l.entries = [] → l.ordered = false
  room : l.stepping = true → ¬ l.NoRoom

theorem loaded_of_fireStepLaw {s : State} (h : FireStepLaw s) : s.caneLine.Loaded := by
  intro hs hnone
  have hfull := h.2 hs
  rw [Option.map_eq_none_iff.1 hnone] at hfull
  cases hfull

/-- The tail of the line is the cane queue of a step-done. -/
theorem CaneLine.held_advanced (l : CaneLine) (rest : List (Nat × Bool)) (entries : List Nat) :
    (l.advanced rest entries).held = rest := List.append_nil _

/-- The loading station holds one record at most. -/
theorem CaneLine.held_length_le (l : CaneLine) : l.held.length ≤ l.records.length + 1 := by
  rw [CaneLine.held, List.length_append]
  cases l.station <;> simp

theorem zoneMapLaw_iff (s : State) : ZoneMapLaw s ↔ s.caneLine.Mapped := Iff.rfl

theorem caneLaw_iff (s : State) : CaneLaw s ↔ s.caneLine.Numbered := by
  have hnumbers : s.caneLine.held.map Prod.fst =
      (s.canes.records ++ s.chain.station.toList).map Cane.sequence := by
    rw [held_caneLine, List.map_map]; rfl
  have hbelow : (∀ c ∈ s.caneLine.held, c.1 < Config.seqModulus) ↔
      ∀ c ∈ s.canes.records ++ s.chain.station.toList, c.sequence < Config.seqModulus := by
    rw [held_caneLine, List.forall_mem_map]; rfl
  have hshort : s.caneLine.Short ↔ ∀ p, s.canes.pExit = some p → s.canes.records.length ≤ p + 1 := by
    rw [CaneLine.Short, State.caneLine, List.length_map]
  have hnone : s.caneLine.records = [] ↔ s.canes.records = [] := List.map_eq_nil_iff
  constructor
  · rintro ⟨hnext, hlt, hrun, hlen, hempty, hstep⟩
    exact ⟨hnext, hbelow.2 hlt, hnumbers ▸ hrun, hshort.2 hlen, fun h => hnone.2 (hempty h), hstep⟩
  · rintro ⟨hnext, hlt, hrun, hlen, hempty, hstep⟩
    exact ⟨hnext, hbelow.1 hlt, hnumbers ▸ hrun, hshort.1 hlen, fun h => hnone.1 (hempty h), hstep⟩

theorem dischargeLaw_iff {s : State} (hs : s.caneLine.Short) : DischargeLaw s ↔ s.caneLine.Roomy := by
  have hlen : s.caneLine.entries.length = s.discharge.entries.length := List.length_map _
  have hempty : s.caneLine.entries = [] ↔ s.discharge.entries = [] := List.map_eq_nil_iff
  have hroom : s.noExitRoom = false ↔ ¬ s.caneLine.NoRoom := by
    rw [← noExitRoom_iff_noRoom, Bool.not_eq_true]
  constructor
  · rintro ⟨hle, horder, hstep⟩
    exact ⟨hs, hlen ▸ hle, fun h => horder (hempty.1 h), fun h => hroom.1 (hstep h)⟩
  · rintro ⟨-, hle, horder, hstep⟩
    exact ⟨hlen ▸ hle, fun h => horder (hempty.2 h), fun h => hroom.2 (hstep h)⟩

/-- What every move and every placing keep, a row keeps. -/
theorem CaneLine.Row.keeps {lawful : Prop} {P : CaneLine → Prop} (hmove : ∀ {l l'}, CaneLine.Move l l' → P l → P l')
    (hplaced : ∀ {l l'}, CaneLine.Placed lawful l l' → P l → P l') {l l' : CaneLine} (h : l.Row lawful l')
    (hl : P l) : P l' := by
  have moves {a b : CaneLine} (hm : CaneLine.Moves a b) (ha : P a) : P b := by
    induction hm with
    | refl => exact ha
    | tail _ hlast ih => exact hmove hlast ih
  rcases h with h | ⟨m, m', hm, hp, hm'⟩
  · exact moves h hl
  · exact moves hm' (hplaced hp (moves hm hl))

/-! ### The station (R58) and the zone map (R52, R53, R96) -/

theorem CaneLine.Move.keeps_loaded {l l' : CaneLine} (h : l.Move l') (hl : l.Loaded) : l'.Loaded := by
  cases h with
  | stepSent full => exact fun _ => full
  | arrived | dropped | departed | stepEnded => nofun
  | cleared still => exact fun hs => absurd (still.symm.trans hs) nofun
  | orderSent | orderEnded | completed | zonesWritten | zoneCounted => exact hl

theorem CaneLine.Placed.keeps_loaded {lawful : Prop} {l l' : CaneLine} (h : l.Placed lawful l') : l'.Loaded := by
  cases h with
  | placed => exact fun _ => nofun

theorem CaneLine.Move.keeps_mapped {l l' : CaneLine} (h : l.Move l') (hl : l.Mapped) : l'.Mapped := by
  obtain ⟨hlength, hcount, hranges, hjoined, hexit⟩ := hl
  cases h with
  | zonesWritten zones unmapped length ranged =>
    refine ⟨length hlength, hcount, ranged hranges, ?_, ?_⟩
    · rw [unmapped]; rfl
    · rw [hexit, unmapped]; rfl
  | zoneCounted n small joined empty => exact ⟨hlength, small, hranges, joined, rfl⟩
  | arrived | dropped | departed | stepSent | stepEnded | orderSent | orderEnded | completed | cleared =>
    exact ⟨hlength, hcount, hranges, hjoined, hexit⟩

theorem CaneLine.Placed.keeps_mapped {lawful : Prop} {l l' : CaneLine} (h : l.Placed lawful l') (hl : l.Mapped) : l'.Mapped := by
  cases h with
  | placed => exact hl

/-! ### The numbers of the canes (R48, R50) -/

theorem sequencesRun_tail {n a : Nat} {L : List Nat} (h : sequencesRun n (a :: L)) : sequencesRun n L := by
  cases L with
  | nil => trivial
  | cons b L => exact h.2

/-- A run goes on with the number after its last. -/
theorem sequencesRun_append {n : Nat} {L : List Nat} (h : sequencesRun n L) : sequencesRun (nextSeq n) (L ++ [n]) := by
  induction L with
  | nil => rfl
  | cons a L ih =>
    cases L with
    | nil => exact ⟨h, rfl⟩
    | cons b L => exact ⟨h.1, ih h.2⟩

theorem nextSeq_lt (n : Nat) : nextSeq n < Config.seqModulus := Nat.mod_lt _ (by decide)

/-- With a zone map there is an exit (R53). -/
theorem CaneLine.Mapped.exit_of_stepping {l : CaneLine} (hl : l.Mapped) (hn : l.Numbered) (h : l.stepping = true) :
    l.pExit ≠ none := by
  obtain ⟨-, -, -, -, hexit⟩ := hl
  rw [hexit, CaneLine.exitFor, if_neg (hn.mapped_of_stepping h)]
  nofun

/-- The head of the line leaves, and the rest runs on. -/
theorem CaneLine.Numbered.tail {l : CaneLine} (hl : l.Numbered) {d : Nat × Bool} {rest : List (Nat × Bool)}
    {entries : List Nat} {p : Nat} (exit : l.pExit = some p) (queue : l.held = d :: rest) :
    (l.advanced rest entries).Numbered := by
  have hlen : rest.length ≤ l.records.length := by
    have hheld := l.held_length_le
    rw [queue] at hheld
    exact Nat.le_of_succ_le_succ hheld
  refine ⟨hl.next_lt, ?_, ?_, fun q hq => hlen.trans (hl.short q hq), ?_, nofun⟩
  · rw [CaneLine.held_advanced]
    intro x hx
    exact hl.held_lt x (queue ▸ List.mem_cons_of_mem d hx)
  · have hrun := hl.run
    rw [queue] at hrun
    rw [CaneLine.held_advanced]
    exact sequencesRun_tail hrun
  · intro hnone
    exact absurd (exit.symm.trans hnone) nofun

/-- The zone map and the cane law are kept together: without a zone map no step is sent and no record arrives. -/
theorem CaneLine.Move.keeps_numbered {l l' : CaneLine} (h : l.Move l') (hl : l.Loaded ∧ l.Mapped ∧ l.Numbered) :
    l'.Loaded ∧ l'.Mapped ∧ l'.Numbered := by
  obtain ⟨hloaded, hmap, hnum⟩ := hl
  refine ⟨h.keeps_loaded hloaded, h.keeps_mapped hmap, ?_⟩
  obtain ⟨hnext, hlt, hrun, hshort, hnone, hstep⟩ := id hnum
  cases h with
  | arrived going room =>
    have hheld := l.held_advanced l.held l.entries
    exact ⟨hnext, hheld.symm ▸ hlt, hheld.symm ▸ hrun, room, fun hp => absurd hp (hmap.exit_of_stepping hnum going),
      nofun⟩
  | dropped n p rest exit long queue => exact hnum.tail exit queue
  | departed n p rest going exit long queue => exact hnum.tail exit queue
  | stepSent full room mapped => exact ⟨hnext, hlt, hrun, hshort, hnone, fun _ => mapped⟩
  | stepEnded => exact ⟨hnext, hlt, hrun, hshort, hnone, nofun⟩
  | cleared still => exact ⟨hnext, nofun, trivial, fun _ _ => Nat.zero_le _, fun _ => rfl, hstep⟩
  | zoneCounted n small joined empty =>
    obtain ⟨hstation, hrecords, -⟩ := empty
    refine ⟨hnext, hlt, hrun, fun p _ => ?_, fun _ => hrecords, fun hs => absurd hstation (hloaded hs)⟩
    rw [hrecords]
    exact Nat.zero_le _
  | orderSent | orderEnded | completed | zonesWritten => exact ⟨hnext, hlt, hrun, hshort, hnone, hstep⟩

theorem CaneLine.Placed.keeps_numbered {lawful : Prop} (ok : lawful) {l l' : CaneLine} (h : l.Placed lawful l')
    (hl : l.Loaded ∧ l.Mapped ∧ l.Numbered) : l'.Loaded ∧ l'.Mapped ∧ l'.Numbered := by
  obtain ⟨-, hmap, hnum⟩ := hl
  refine ⟨h.keeps_loaded, h.keeps_mapped hmap, ?_⟩
  obtain ⟨hnext, hlt, hrun, hshort, hnone, hstep⟩ := hnum
  cases h with
  | placed product empty =>
    have hheld : CaneLine.held { l with station := some (l.next, product), next := nextSeq l.next } =
        l.held ++ [(l.next, product)] := by
      rw [CaneLine.held, CaneLine.held, empty ok, Option.toList_none, List.append_nil]
      rfl
    refine ⟨nextSeq_lt _, ?_, ?_, hshort, hnone, hstep⟩
    · rw [hheld]
      intro c hc
      rcases List.mem_append.1 hc with hc | hc
      · exact hlt c hc
      · rw [List.mem_singleton.1 hc]; exact hnext
    · rw [hheld, List.map_append]
      exact sequencesRun_append hrun

/-! ### Room in the discharge queue (R56, R112, R113) -/

theorem CaneLine.Move.keeps_roomy {l l' : CaneLine} (h : l.Move l') (hl : l.Loaded ∧ l.Roomy) :
    l'.Loaded ∧ l'.Roomy := by
  obtain ⟨hloaded, hroomy⟩ := hl
  refine ⟨h.keeps_loaded hloaded, ?_⟩
  obtain ⟨hshort, hle, horder, hroom⟩ := id hroomy
  have hheld := l.held_length_le
  cases h with
  | arrived going room => exact ⟨room, hle, horder, nofun⟩
  | dropped n p rest exit long queue =>
    rw [queue] at hheld
    exact ⟨fun q hq => (Nat.le_of_succ_le_succ hheld).trans (hshort q hq), hle, horder, nofun⟩
  | departed n p rest going exit long queue =>
    have hfull : l.records.length = p + 1 :=
      Nat.le_antisymm (hshort p exit) (Nat.le_of_lt_succ (Nat.lt_of_lt_of_le long hheld))
    -- the head that leaves was the head of the queue when the step was sent
    have hhead : l.records.head? = some (n, true) := by
      cases hr : l.records with
      | nil => rw [hr] at hfull; exact absurd hfull (Nat.succ_ne_zero p).symm
      | cons d ds =>
        rw [CaneLine.held, hr] at queue
        rw [List.head?_cons, (List.cons.inj queue).1]
    have hfree : l.entries.length ≠ 8 := fun h8 => hroom going ⟨p, n, exit, hfull, hhead, h8⟩
    rw [queue] at hheld
    refine ⟨fun q hq => (Nat.le_of_succ_le_succ hheld).trans (hshort q hq), ?_,
      fun he => absurd he (by simp [CaneLine.advanced]), nofun⟩
    rw [CaneLine.advanced, List.length_append, List.length_singleton]
    omega
  | stepSent full room mapped => exact ⟨hshort, hle, horder, fun _ => room⟩
  | stepEnded => exact ⟨hshort, hle, horder, nofun⟩
  | orderSent held => exact ⟨hshort, hle, fun he => absurd he held, hroom⟩
  | orderEnded => exact ⟨hshort, hle, fun _ => rfl, hroom⟩
  | completed n rest held =>
    have hlen : rest.length < l.entries.length := by rw [held]; exact Nat.lt_succ_self _
    refine ⟨hshort, hlen.le.trans hle, fun _ => rfl, fun _ => ?_⟩
    rintro ⟨p, m, -, -, -, h8⟩
    have hrest : rest.length = 8 := h8
    omega
  | cleared still =>
    exact ⟨fun _ _ => Nat.zero_le _, Nat.zero_le _, fun _ => rfl, fun hs => absurd (still.symm.trans hs) nofun⟩
  | zonesWritten => exact ⟨hshort, hle, horder, hroom⟩
  | zoneCounted n small joined empty =>
    obtain ⟨hstation, hrecords, -⟩ := empty
    refine ⟨fun p _ => ?_, hle, horder, fun hs => absurd hstation (hloaded hs)⟩
    rw [hrecords]
    exact Nat.zero_le _

theorem CaneLine.Placed.keeps_roomy {lawful : Prop} {l l' : CaneLine} (h : l.Placed lawful l')
    (hl : l.Loaded ∧ l.Roomy) : l'.Loaded ∧ l'.Roomy := by
  refine ⟨h.keeps_loaded, ?_⟩
  obtain ⟨hshort, hle, horder, hroom⟩ := hl.2
  cases h with
  | placed product empty => exact ⟨hshort, hle, horder, hroom⟩

end Sys2Proof.Machine
end

section
/-!
SUPPORT. The order of the sequence numbers on the cane line (R113): what distances through the wrap say, what a row
keeps of the order, and the obligation about the line's laws.
-/

namespace Sys2Proof.Machine

/-! ## Distances through the wrap -/

/-- Distances counted from a nearer number: what lies at or beyond `a`, seen from `f`, lies by so much less from `a`. -/
theorem seqDistance_of_le {f a x : Nat} (h : seqDistance f a ≤ seqDistance f x) :
    seqDistance a x = seqDistance f x - seqDistance f a := by
  simp only [seqDistance, Config.seqModulus] at *
  omega

/-- The number after `n` lies one further, unless the count has gone all the way round. -/
theorem seqDistance_nextSeq {a n : Nat} (h : seqDistance a (nextSeq n) ≠ 0) :
    seqDistance a (nextSeq n) = seqDistance a n + 1 := by
  simp only [seqDistance, nextSeq, Config.seqModulus] at *
  omega

theorem seqDistance_add {a i : Nat} (h : i < Config.seqModulus) :
    seqDistance a ((a + i) % Config.seqModulus) = i := by
  simp only [seqDistance, Config.seqModulus] at *
  omega

/-! ## Ascending lists -/

/-- Counted upward from the first number, each number lies beyond the one before it. -/
def Ascending (L : List Nat) : Prop := ∀ f, L.head? = some f → (L.map (seqDistance f)).Pairwise (· < ·)

/-- Seen from a number `f`, each number lies beyond the one before it. -/
def AscendingFrom (f : Nat) (L : List Nat) : Prop := L.Pairwise fun x y => seqDistance f x < seqDistance f y

theorem ascending_iff (L : List Nat) : Ascending L ↔ ∀ f, L.head? = some f → AscendingFrom f L := by
  simp only [Ascending, AscendingFrom, List.pairwise_map]

/-- What ascends as seen from some number ascends. -/
theorem AscendingFrom.ascending {f : Nat} {L : List Nat} (h : AscendingFrom f L) : Ascending L := by
  rw [ascending_iff]
  intro a ha
  cases L with
  | nil => cases ha
  | cons b L =>
    obtain rfl : b = a := Option.some.inj ha
    have hbeyond : ∀ x ∈ b :: L, seqDistance f b ≤ seqDistance f x := by
      intro x hx
      rcases List.mem_cons.1 hx with rfl | hx
      · exact Nat.le_refl _
      · exact Nat.le_of_lt (List.rel_of_pairwise_cons h hx)
    refine List.Pairwise.imp_of_mem (fun hx hy hxy => ?_) h
    have hbx := hbeyond _ hx
    rw [seqDistance_of_le hbx, seqDistance_of_le (hbeyond _ hy)]
    omega

/-- A run of numbers, with the number it runs on to, counts upward from its first. -/
theorem sequencesRun_eq_map {n a : Nat} {L : List Nat} (h : sequencesRun n (a :: L)) (ha : a < Config.seqModulus) :
    a :: L ++ [n] = (List.range (L.length + 2)).map fun i => (a + i) % Config.seqModulus := by
  induction L generalizing a with
  | nil =>
    rw [← show nextSeq a = n from h]
    simp [List.range_succ, nextSeq, Nat.mod_eq_of_lt ha]
  | cons b L ih =>
    obtain ⟨hnext, hrun⟩ := h
    subst hnext
    have htail := ih hrun (nextSeq_lt a)
    rw [List.cons_append, htail, List.length_cons, List.range_succ_eq_map (n := L.length + 2), List.map_cons,
      List.map_map]
    refine congr (congrArg _ (Nat.mod_eq_of_lt ha).symm) (List.map_congr_left fun i _ => ?_)
    simp only [nextSeq, Function.comp, Nat.mod_add_mod]
    congr 1
    omega

/-- A run shorter than the wrap ascends. -/
theorem ascending_of_run {n : Nat} {L : List Nat} (h : sequencesRun n L) (hlt : ∀ x ∈ L, x < Config.seqModulus)
    (hlen : L.length < Config.seqModulus) : Ascending (L ++ [n]) := by
  cases L with
  | nil => exact AscendingFrom.ascending (f := n) (List.pairwise_singleton _ _)
  | cons a L =>
    refine AscendingFrom.ascending (f := a) ?_
    rw [AscendingFrom, sequencesRun_eq_map h (hlt a List.mem_cons_self), List.pairwise_map]
    refine List.Pairwise.imp_of_mem (fun {i j} hi hj hij => ?_) List.pairwise_lt_range
    rw [List.mem_range] at hi hj
    rw [List.length_cons] at hlen
    rw [seqDistance_add (by omega), seqDistance_add (by omega)]
    exact hij

/-! ## The order on the line -/

/-- The numbers given out and still held, oldest first, and the next number. -/
def CaneLine.numbers (l : CaneLine) : List Nat := l.entries ++ l.held.map Prod.fst ++ [l.next]

theorem sequenceOrderLaw_iff (s : State) : SequenceOrderLaw s ↔ Ascending s.caneLine.numbers := by
  have hnumbers : s.caneLine.numbers = s.sequences := by
    rw [CaneLine.numbers, held_caneLine, List.map_map]; rfl
  rw [hnumbers]; rfl

/-- A move drops numbers from the line at most, and gives none out. -/
theorem CaneLine.Move.numbers_sublist {l l' : CaneLine} (h : l.Move l') :
    l'.next = l.next ∧ l'.numbers.Sublist l.numbers := by
  -- the numbers of the line after a step-done
  have advanced (rest : List (Nat × Bool)) (es : List Nat) :
      (l.advanced rest es).numbers = es ++ rest.map Prod.fst ++ [l.next] := by
    rw [CaneLine.numbers, CaneLine.held_advanced]; rfl
  have same {m : CaneLine} (hm : m.numbers = l.numbers) : m.numbers.Sublist l.numbers := by rw [hm]
  cases h with
  | arrived going room => exact ⟨rfl, same (advanced _ _)⟩
  | dropped n p rest exit long queue =>
    refine ⟨rfl, ?_⟩
    rw [advanced, CaneLine.numbers, queue]
    exact ((List.sublist_cons_self _ _).append_left _).append_right _
  | departed n p rest going exit long queue =>
    refine ⟨rfl, same ?_⟩
    rw [advanced, CaneLine.numbers, queue]
    simp
  | completed n rest held =>
    refine ⟨rfl, ?_⟩
    rw [CaneLine.numbers, CaneLine.numbers, held]
    exact List.sublist_cons_self _ _
  | cleared still => exact ⟨rfl, List.sublist_append_right (l.entries ++ l.held.map Prod.fst) [l.next]⟩
  | stepSent | stepEnded | orderSent | orderEnded | zonesWritten | zoneCounted => exact ⟨rfl, same rfl⟩

theorem CaneLine.Moves.numbers_sublist {l l' : CaneLine} (h : CaneLine.Moves l l') :
    l'.next = l.next ∧ l'.numbers.Sublist l.numbers := by
  induction h with
  | refl => exact ⟨rfl, .refl _⟩
  | tail _ hmove ih => exact ⟨hmove.numbers_sublist.1.trans ih.1, hmove.numbers_sublist.2.trans ih.2⟩

/-- A record placed takes the next number, and the number after it is next. -/
theorem CaneLine.Placed.numbers_sublist {lawful : Prop} {l l' : CaneLine} (h : l.Placed lawful l') :
    l'.next = nextSeq l.next ∧ l'.numbers.Sublist (l.numbers ++ [nextSeq l.next]) := by
  cases h with
  | placed product empty =>
    refine ⟨rfl, ?_⟩
    simp only [CaneLine.numbers, CaneLine.held, List.map_append, List.append_assoc]
    exact ((List.sublist_append_right _ _).append_left _).append_left _

/-- What a row leaves of the numbers, with at most one more given out. -/
theorem CaneLine.Row.numbers_sublist {lawful : Prop} {l l' : CaneLine} (h : l.Row lawful l') :
    (l'.next = l.next ∧ l'.numbers.Sublist l.numbers) ∨
    (l'.next = nextSeq l.next ∧ l'.numbers.Sublist (l.numbers ++ [nextSeq l.next])) := by
  rcases h with h | ⟨m, m', hm, hp, hm'⟩
  · exact .inl h.numbers_sublist
  · obtain ⟨hn, hs⟩ := hm.numbers_sublist
    obtain ⟨hn', hs'⟩ := hp.numbers_sublist
    obtain ⟨hn'', hs''⟩ := hm'.numbers_sublist
    rw [hn] at hn' hs'
    exact .inr ⟨hn''.trans hn', hs''.trans (hs'.trans (hs.append_right _))⟩

/-- Numbers held of an ascending line still ascend with one more given out, which does not come round to the first. -/
theorem ascending_append_nextSeq {K L : List Nat} {n f : Nat} (hL : Ascending (L ++ [n]))
    (hK : (f :: K).Sublist (L ++ [n])) (hround : seqDistance f (nextSeq n) ≠ 0) :
    Ascending (f :: K ++ [nextSeq n]) := by
  obtain ⟨g, hg⟩ : ∃ g, (L ++ [n]).head? = some g := by cases L <;> exact ⟨_, rfl⟩
  have hfrom : AscendingFrom g (L ++ [n]) := (ascending_iff _).1 hL g hg
  have hkept : AscendingFrom g (f :: K) := List.Pairwise.sublist hK hfrom
  -- the last number given out lies farthest
  have hlast : ∀ x ∈ L ++ [n], seqDistance g x ≤ seqDistance g n := by
    intro x hx
    rcases List.mem_append.1 hx with hx | hx
    · exact Nat.le_of_lt ((List.pairwise_append.1 hfrom).2.2 x hx n List.mem_cons_self)
    · rw [List.mem_singleton.1 hx]
  have hown : AscendingFrom f (f :: K) := (ascending_iff _).1 hkept.ascending f rfl
  refine AscendingFrom.ascending (f := f) (List.pairwise_append.2 ⟨hown, List.pairwise_singleton _ _, ?_⟩)
  intro x hx y hy
  have hfirst : seqDistance g f ≤ seqDistance g x := by
    rcases List.mem_cons.1 hx with rfl | hx
    · exact Nat.le_refl _
    · exact Nat.le_of_lt (List.rel_of_pairwise_cons hkept hx)
  have hxn := hlast x (hK.subset hx)
  rw [List.mem_singleton.1 hy, seqDistance_nextSeq hround, seqDistance_of_le hfirst,
    seqDistance_of_le (hfirst.trans hxn)]
  omega

/-- With no discharge entry the line's numbers are a run no longer than the line (R48, R50, R53). -/
theorem CaneLine.Numbered.ascending {l : CaneLine} (hl : l.Numbered) (hmap : l.Mapped) (he : l.entries = []) :
    Ascending l.numbers := by
  obtain ⟨hlength, hcount, hranges, -, hexit⟩ := hmap
  have hrecords : l.records.length ≤ 2048 := by
    cases hp : l.pExit with
    | none => rw [hl.none_held hp]; exact Nat.zero_le _
    | some p =>
      rw [hp, CaneLine.exitFor] at hexit
      split at hexit
      · cases hexit
      · have hlast : p ≤ 2047 := by
          have hindex : l.zoneCount - 1 < l.zones.length := by omega
          have hrange := hranges _ (List.getElem_mem hindex)
          rw [Option.some.inj hexit, ← List.getElem_eq_getD (h := hindex)]
          simp only [ZoneEntry.inRange, Bool.and_eq_true, decide_eq_true_eq] at hrange
          exact hrange.1.1.1.1.1.1.1.1.2
        exact (hl.short p hp).trans (Nat.succ_le_succ hlast)
  have hheld : (l.held.map Prod.fst).length ≤ 2049 := by
    rw [List.length_map, CaneLine.held, List.length_append]
    have hstation : l.station.toList.length ≤ 1 := by cases l.station <;> simp
    omega
  rw [CaneLine.numbers, he]
  exact ascending_of_run hl.run (List.forall_mem_map.2 hl.held_lt) (Nat.lt_of_le_of_lt hheld (by decide))

/-- A row keeps the order, as long as the next number does not come round to the head of the discharge queue. -/
theorem CaneLine.Row.keeps_order {lawful : Prop} {l l' : CaneLine} (h : l.Row lawful l') (hl : Ascending l.numbers)
    (hmap : l'.Mapped) (hnum : l'.Numbered)
    (hround : ∀ e, l'.entries.head? = some e → seqDistance e l'.next ≠ 0) : Ascending l'.numbers := by
  cases he : l'.entries with
  | nil => exact hnum.ascending hmap he
  | cons e es =>
    have hnumbers : l'.numbers = e :: (es ++ l'.held.map Prod.fst) ++ [l'.next] := by rw [CaneLine.numbers, he]; rfl
    rcases h.numbers_sublist with ⟨-, hsub⟩ | ⟨hnext, hsub⟩
    · obtain ⟨g, hg⟩ : ∃ g, l.numbers.head? = some g := by
        cases hl' : l.numbers with
        | nil => exact absurd hl' (by simp [CaneLine.numbers])
        | cons g gs => exact ⟨g, rfl⟩
      exact AscendingFrom.ascending (List.Pairwise.sublist hsub ((ascending_iff _).1 hl g hg))
    · have hfirst := hround e (by rw [he]; rfl)
      rw [hnumbers, hnext] at hsub ⊢
      rw [hnext] at hfirst
      exact ascending_append_nextSeq hl ((List.append_sublist_append_right _).1 hsub) hfirst

/-! ## The obligation -/

/-- A step makes a row of the cane line, or powers on. -/
theorem step_caneRow {s t : State} (ht : step s = .next t) :
    s.caneLine.Row (FireStepLaw s) t.caneLine ∨ t.caneLine = State.reset.caneLine := by
  unfold step at ht
  split at ht
  case h_1 =>
    exact of_next (P := fun u => s.caneLine.Row (FireStepLaw s) u.caneLine ∨ u.caneLine = State.reset.caneLine) ht
      (.inl (.of_moves .refl))
  case h_2 c rest _ =>
    by_cases hp : ∃ x, c = .powerOnReset x
    · obtain ⟨x, rfl⟩ := hp
      exact of_next (P := fun u => s.caneLine.Row (FireStepLaw s) u.caneLine ∨ u.caneLine = State.reset.caneLine) ht
        (.inr rfl)
    · exact .inl (exec_caneRow (s := { s with pending := rest }) (fun x h => hp ⟨x, h⟩) ht)

/-- At reset the line is empty and unmapped, with nothing in flight. -/
theorem caneLine_reset : State.reset.caneLine.Loaded ∧ State.reset.caneLine.Mapped ∧
    State.reset.caneLine.Numbered ∧ State.reset.caneLine.Roomy := by
  obtain ⟨-, -, -, hfs, hmap, hcane, -, -, hdischarge, -⟩ := resetKeepsTheLaws
  have hnum := (caneLaw_iff _).1 hcane
  exact ⟨loaded_of_fireStepLaw hfs, hmap, hnum, (dischargeLaw_iff hnum.short).1 hdischarge⟩

/-- Every step keeps the zone map and the cane law, in a lawful state. -/
theorem numbered_step {s t : State} (hfs : FireStepLaw s) (hmap : ZoneMapLaw s) (hcane : CaneLaw s)
    (ht : step s = .next t) : t.caneLine.Mapped ∧ t.caneLine.Numbered := by
  have hs := And.intro (loaded_of_fireStepLaw hfs) (And.intro hmap ((caneLaw_iff s).1 hcane))
  rcases step_caneRow ht with h | h
  · exact (h.keeps CaneLine.Move.keeps_numbered (CaneLine.Placed.keeps_numbered hfs) hs).2
  · rw [h]
    exact ⟨caneLine_reset.2.1, caneLine_reset.2.2.1⟩

/-- Settles O54: the laws are laws of the cane line, and every row makes of the line moves with at most one record
placed. Numbers are only dropped but for that record's, so the order needs no more than that the next number has not
come round to the oldest; with an empty discharge queue the line is shorter than the wrap. -/
theorem zoneMapCaneAndDischargeLawsAreKept : Obligations.ZoneMapCaneAndDischargeLawsAreKept := by
  obtain ⟨hloaded₀, hmap₀, -, hroomy₀⟩ := caneLine_reset
  refine ⟨fun s t ht => ⟨fun hmap => ?_, fun hfs hmap hcane => ?_⟩, fun s t hfs hcane hdischarge ht => ?_,
    fun s t hfs hmap hcane horder ht hround => ?_⟩
  · rcases step_caneRow ht with h | h
    · exact h.keeps CaneLine.Move.keeps_mapped CaneLine.Placed.keeps_mapped hmap
    · rw [zoneMapLaw_iff, h]; exact hmap₀
  · exact (caneLaw_iff t).2 (numbered_step hfs hmap hcane ht).2
  · have hs := And.intro (loaded_of_fireStepLaw hfs)
      ((dischargeLaw_iff ((caneLaw_iff s).1 hcane).short).1 hdischarge)
    have hroomy : t.caneLine.Roomy := by
      rcases step_caneRow ht with h | h
      · exact (h.keeps CaneLine.Move.keeps_roomy CaneLine.Placed.keeps_roomy hs).2
      · rw [h]; exact hroomy₀
    exact (dischargeLaw_iff hroomy.short).2 hroomy
  · obtain ⟨hmap', hnum'⟩ := numbered_step hfs hmap hcane ht
    rw [sequenceOrderLaw_iff] at horder ⊢
    rcases step_caneRow ht with h | h
    · refine h.keeps_order horder hmap' hnum' fun e he => ?_
      obtain ⟨d, hd, rfl⟩ := Option.map_eq_some_iff.1 (List.head?_map.symm.trans he)
      exact hround d hd
    · exact hnum'.ascending hmap' (by rw [h]; rfl)

end Sys2Proof.Machine
end

section
/-!
SUPPORT. The evaluation of the chain controller case by case (R56, R57, R58, R63, R121), and the obligation about mode
changes.
-/

namespace Sys2Proof.Machine

/-! ## Changes of the step state (R63, R121) -/

/-- The stall timer once the chain controller is not in WAITING_ROOM: stopped by the exit, if there was one (R121). -/
def State.stallLeft (s : State) : LatchTimer :=
  if s.chain.stepState = .waitingRoom then .stopped else s.discharge.stallTimer

/-- A change to IDLE or STEPPING leaves WAITING_ROOM, if the chain controller was there. -/
theorem setStepState_of_ne_waitingRoom {st : StepState} (s : State) (h : st ≠ .waitingRoom) :
    setStepState st s = { s with chain := { s.chain with stepState := st },
                                 discharge := { s.discharge with stallTimer := s.stallLeft } } := by
  simp [setStepState, State.stallLeft, h]

/-- A change to WAITING_ROOM starts the stall timer, unless the chain controller was there already. -/
theorem setStepState_waitingRoom (s : State) :
    setStepState .waitingRoom s = { s with
      chain := { s.chain with stepState := .waitingRoom },
      discharge := { s.discharge with
        stallTimer := if s.chain.stepState = .waitingRoom then s.discharge.stallTimer
                      else .running (s.lineTime + s.line.stallLimit) } } := by
  by_cases h : s.chain.stepState = .waitingRoom <;> simp [setStepState, h]

/-- A change of the step state that starts in STEPPING and stays out of WAITING_ROOM leaves the stall timer. -/
theorem setStepState_of_stepping {st : StepState} {s : State} {x : StepInFlight} (hs : s.chain.stepState = .stepping x)
    (h : st ≠ .waitingRoom) : setStepState st s = { s with chain := { s.chain with stepState := st } } := by
  rw [setStepState_of_ne_waitingRoom s h, State.stallLeft, hs]
  rfl

/-- A step is in flight just when the chain controller is in STEPPING (R55). -/
theorem step?_eq_some_iff (c : Chain) (st : StepInFlight) : c.step? = some st ↔ c.stepState = .stepping st := by
  rw [Chain.step?]
  cases c.stepState <;> simp

/-! ## The five cases of an evaluation (R56, R57, R58) -/

section Evaluation

variable {s : State}

theorem evaluateChain_of_stepping {st : StepInFlight} (h : s.chain.stepState = .stepping st) : evaluateChain s = s := by
  rw [evaluateChain, h]

/-- Out of STEPPING the evaluation goes on to the station. -/
theorem evaluateChain_of_still (h : s.chain.step? = none) (hc : s.chain.station = none) :
    evaluateChain s = setStepState .idle s := by
  cases hst : s.chain.stepState with
  | stepping st => rw [(step?_eq_some_iff _ _).2 hst] at h; cases h
  | idle | waitingRoom => simp only [evaluateChain, hst, hc]

theorem evaluateChain_of_noRoom {c : Cane} (h : s.chain.step? = none) (hc : s.chain.station = some c)
    (hroom : NoRoomAtTheExit s) : evaluateChain s = setStepState .waitingRoom s := by
  cases hst : s.chain.stepState with
  | stepping st => rw [(step?_eq_some_iff _ _).2 hst] at h; cases h
  | idle | waitingRoom => simp only [evaluateChain, hst, hc, (noExitRoom_iff s).2 hroom, if_true]

theorem noExitRoom_eq_false (h : ¬ NoRoomAtTheExit s) : s.noExitRoom = false := by
  rwa [← noExitRoom_iff, Bool.not_eq_true] at h

theorem evaluateChain_of_allowed {c : Cane} {dest : Nat} (h : s.chain.step? = none) (hc : s.chain.station = some c)
    (hroom : ¬ NoRoomAtTheExit s) (ha : StepAllowedTo s dest) : evaluateChain s = sendStep c dest s := by
  obtain ⟨hallowed, hdest⟩ := (stepAllowedTo_iff s dest).1 ha
  cases hst : s.chain.stepState with
  | stepping st => rw [(step?_eq_some_iff _ _).2 hst] at h; cases h
  | idle | waitingRoom => simp [evaluateChain, hst, hc, noExitRoom_eq_false hroom, hallowed, hdest]

theorem evaluateChain_of_forbidden {c : Cane} (h : s.chain.step? = none) (hc : s.chain.station = some c)
    (hroom : ¬ NoRoomAtTheExit s) (ha : ∀ dest, ¬ StepAllowedTo s dest) :
    evaluateChain s = setStepState .idle s := by
  have hforbidden : s.stepAllowed = false := by
    rw [Bool.eq_false_iff]
    intro hallowed
    have hentry := hallowed
    simp only [State.stepAllowed, Bool.and_eq_true] at hentry
    obtain ⟨dest, hdest⟩ := Option.isSome_iff_exists.1 hentry.1.2
    exact ha dest ((stepAllowedTo_iff s dest).2 ⟨hallowed, hdest⟩)
  cases hst : s.chain.stepState with
  | stepping st => rw [(step?_eq_some_iff _ _).2 hst] at h; cases h
  | idle | waitingRoom => simp [evaluateChain, hst, hc, noExitRoom_eq_false hroom, hforbidden]

end Evaluation

/-- A change of the chain goes before the handing of a frame as well as after it. -/
theorem handedUrgent_chain (s : State) (c : Chain) (dest : Nat) (body : FrameBody) :
    { handedUrgent s dest body with chain := c } = handedUrgent { s with chain := c } dest body := by
  rw [handedUrgent, handedUrgent]
  split <;> rfl

/-- So does a change of the chain and the discharge unit together. -/
theorem handedUrgent_chain_discharge (s : State) (c : Chain) (d : Discharge) (dest : Nat) (body : FrameBody) :
    { handedUrgent s dest body with chain := c, discharge := d } =
      handedUrgent { s with chain := c, discharge := d } dest body := by
  rw [handedUrgent, handedUrgent]
  split <;> rfl

/-- The step that an evaluation sends for the station record `c` (R58). -/
def State.nextStep (s : State) (c : Cane) : StepInFlight :=
  { loaded := c.isProduct, acknowledged := false, number := inc32 s.port.frameCount }

/-- A step sent is its frame handed to the urgent queue and the chain controller in STEPPING (R58). -/
theorem sendStep_eq (c : Cane) (dest : Nat) (s : State) :
    sendStep c dest s = handedUrgent { s with
      chain := { s.chain with recommands := 0, stepState := .stepping (s.nextStep c) },
      discharge := { s.discharge with stallTimer := s.stallLeft } } dest (.chainStep c.isProduct) := by
  rw [← handedUrgent_chain_discharge, ← handFrame_handedUrgent s rfl]
  simp only [sendStep]
  rw [setStepState_of_ne_waitingRoom (st := .stepping _) _ nofun]
  simp only [State.stallLeft, handFrame_chain, handFrame_discharge]
  rfl

/-! ## Mode changes (R57, R67) -/

/-- The state in which a mode change evaluates: the command taken, the drain timer following the mode (R67). -/
def chainModeTaken (old new : LineMode) (s : State) : State := { s with
  handed := s.handed.erase (.chainModeChange old new),
  chain := { s.chain with drainTimer :=
    if new = .draining then .running (s.clock + s.line.drainTime * 10000)
    else if old = .draining then .stopped else s.chain.drainTimer } }

theorem drainModeChange_took (old new : LineMode) (s : State) :
    drainModeChange old new (s.took (.chainModeChange old new)) = chainModeTaken old new s := by
  rw [drainModeChange, chainModeTaken]
  by_cases hnew : new = .draining
  · simp only [hnew, if_true]; rfl
  · by_cases hold : old = .draining
    · simp only [hnew, hold, if_true, if_false]; rfl
    · simp only [hnew, hold, if_false]; rfl

/-- The modes that evaluate the chain (R57). -/
theorem allowsSteps_iff (m : LineMode) :
    LineMode.allowsSteps m = true ↔ m = .priming ∨ m = .running ∨ m = .draining := by
  cases m <;> simp [LineMode.allowsSteps]

theorem exec_chainModeChange_of_steps {old new : LineMode} (s : State)
    (h : new = .priming ∨ new = .running ∨ new = .draining) :
    exec (.chainModeChange old new) s = .next (evaluateChain (chainModeTaken old new s)) := by
  rw [← drainModeChange_took]
  exact congrArg _ (if_pos ((allowsSteps_iff new).2 h))

theorem exec_chainModeChange_of_not_steps {old new : LineMode} (s : State)
    (h : ¬ (new = .priming ∨ new = .running ∨ new = .draining)) :
    exec (.chainModeChange old new) s = .next (chainModeTaken old new s) := by
  rw [← drainModeChange_took]
  exact congrArg _ (if_neg fun ha => h ((allowsSteps_iff new).1 ha))

/-- Settles O18: the cases of the evaluation, on the state with the command taken and the drain timer set. -/
theorem chainFollowsTheMode : Obligations.ChainFollowsTheMode := by
  intro s old new moved left steps
  have taken : chainModeTaken old new s = moved := rfl
  refine ⟨fun h => ?_, fun hsteps hstill => ?_⟩
  · by_cases hsteps : steps
    · obtain ⟨st, hst⟩ := h.resolve_left (not_not_intro hsteps)
      rw [exec_chainModeChange_of_steps s hsteps, taken, evaluateChain_of_stepping (s := moved) hst]
    · exact exec_chainModeChange_of_not_steps s hsteps
  · have hstill' : moved.chain.step? = none := hstill
    have idle : setStepState .idle moved = { moved with
        chain := { moved.chain with stepState := .idle }, discharge := { s.discharge with stallTimer := left } } :=
      setStepState_of_ne_waitingRoom moved nofun
    rw [exec_chainModeChange_of_steps s hsteps, taken]
    refine ⟨fun c hc hroom => ?_, fun c dest hc hroom ha => ?_, fun h => ?_⟩
    · rw [evaluateChain_of_noRoom (c := c) hstill' hc hroom, setStepState_waitingRoom]
    · rw [evaluateChain_of_allowed (s := moved) hstill' hc hroom ha, sendStep_eq]
      rfl
    · cases hc : s.chain.station with
      | none => rw [evaluateChain_of_still hstill' hc, idle]
      | some c =>
        obtain ⟨hroom, ha⟩ := h.resolve_left (by rw [hc]; nofun)
        rw [evaluateChain_of_forbidden (s := moved) hstill' hc hroom ha, idle]

end Sys2Proof.Machine
end

section
/-!
SUPPORT. The outcomes of a chain step and the step timer (R59, R60), and their obligation.
-/

namespace Sys2Proof.Machine

/-! ## Steps that end with the station full (R27, R29, R67) -/

/-- With a record in the station an interlock fails (R29). -/
theorem not_interlocksHold_of_station {s : State} (h : s.chain.station.isSome = true) (dest : Nat) :
    ¬ InterlocksHold s dest := by
  rintro ⟨-, hempty, -⟩
  rw [hempty] at h
  cases h

/-- With an interlock failing an evaluation changes at most the pacer state (R30). -/
theorem evaluateFire_eq_of_interlock {s : State} (h : ∀ dest, ¬ InterlocksHold s dest) :
    evaluateFire s = setPacerState (evaluateFire s).pacer.state s := by
  rcases evaluateFire_cases s with he | ⟨-, he | he | ⟨target, dest, -, -, hi, -, -⟩⟩
  · rw [he]; rfl
  · rw [he]; rfl
  · rw [he]; rfl
  · obtain ⟨d, hd⟩ := (failingInterlock_eq_zero_iff s).1 hi
    exact absurd hd (h d)

/-- When a drain insertion is due (R67). -/
theorem insertionDue_iff (s : State) :
    s.insertionDue = true ↔ s.chain.drainTimer = .expired ∧ s.sequencer.mode = .draining ∧ s.chain.station = none ∧
      s.chain.stepState = .idle ∧ s.pacer.fire? = none := by
  simp [State.insertionDue, and_assoc]

theorem tryInsertion_of_not_due {s : State} (h : ¬ s.insertionDue = true) : tryInsertion s = s := if_neg h

/-- The state in which a step that is discarded ends, before anything evaluates (R59, R60). -/
def stepDiscarded (detail : Nat) (s : State) : State :=
  { s with
    chain := { s.chain with stepState := .idle, recommands := 0, stepTimer := .stopped },
    handed := s.handed ++ [.faultRaise .chainTimeout detail] }

/-- A step discarded with its record in the station: the pacer evaluates and nothing is inserted. -/
theorem failStep_eq (detail : Nat) {s : State} {st : StepInFlight} (hst : s.chain.stepState = .stepping st)
    (hfull : s.chain.station.isSome = true) :
    failStep detail s =
      setPacerState (evaluateFire (stepDiscarded detail s)).pacer.state (stepDiscarded detail s) := by
  have hfail : failStep detail s = tryInsertion (evaluateFire (stepDiscarded detail s)) := by
    have hidle := setStepState_of_stepping (st := .idle) (x := st)
      (s := s.setChain { s.chain with recommands := 0, stepTimer := .stopped }) hst nofun
    rw [failStep, hidle]
    rfl
  have hnot : ¬ (evaluateFire (stepDiscarded detail s)).insertionDue = true := by
    rw [insertionDue_iff, evaluateFire_chain]
    rintro ⟨-, -, hempty, -⟩
    have hempty' : s.chain.station = none := hempty
    rw [hempty'] at hfull
    cases hfull
  rw [hfail, tryInsertion_of_not_due hnot]
  exact evaluateFire_eq_of_interlock (not_interlocksHold_of_station hfull)

/-! ## Outcomes of CHAIN_STEP (R59) -/

/-- The oldest outcome reported is taken off the ledger and acted on (R164). -/
theorem exec_chainStepOutcome {s : State} {frame : SentFrame} {o : FrameOutcome}
    (h : s.nextOutcome = some (.chainStepOutcome frame o)) :
    exec (.chainStepOutcome frame o) s =
      .next (takeStepOutcome frame.number o (s.took (.chainStepOutcome frame o))) := congrArg _ (if_pos h)

section Outcome

variable {s : State} {st : StepInFlight} {n : Nat} {o : FrameOutcome}

theorem takeStepOutcome_of_none (h : s.chain.step? = none) : takeStepOutcome n o s = s := by
  simp only [takeStepOutcome, h]

/-- An outcome of another frame is ignored. -/
theorem takeStepOutcome_of_ne (h : s.chain.stepState = .stepping st) (hn : st.number ≠ n) :
    takeStepOutcome n o s = s := by
  simp only [takeStepOutcome, (step?_eq_some_iff _ _).2 h, if_pos hn]

/-- The step's own acknowledgement is taken once. -/
theorem takeStepOutcome_acknowledged (h : s.chain.stepState = .stepping st) (hn : st.number = n) :
    takeStepOutcome n .acknowledged s = if st.acknowledged then s
      else startStepTimer (setStepState (.stepping { st with acknowledged := true }) s) := by
  simp only [takeStepOutcome, (step?_eq_some_iff _ _).2 h, hn, ne_eq, not_true_eq_false, if_true, if_false]

/-- A NACK or never-sent outcome of the step's own frame commands it again, or discards it. -/
theorem takeStepOutcome_refused (h : s.chain.stepState = .stepping st) (hn : st.number = n) (ho : o ≠ .acknowledged) :
    takeStepOutcome n o s = if s.chain.recommands < 2 then recommandStep st s else failStep 1 s := by
  simp only [takeStepOutcome, (step?_eq_some_iff _ _).2 h, hn, ne_eq, not_true_eq_false, if_false, if_neg ho]

/-- A step commanded again is its frame handed to the urgent queue with the step's new frame number (R59, R160). -/
theorem recommandStep_of_dest {dest : Nat} (h : s.chain.stepState = .stepping st) (hd : s.talkNode 1 = some dest) :
    recommandStep st s = handedUrgent { s with chain := { s.chain with
        recommands := s.chain.recommands + 1,
        stepState := .stepping { st with number := inc32 s.port.frameCount } } } dest (.chainStep st.loaded) := by
  let counted : State := s.setChain { s.chain with recommands := s.chain.recommands + 1 }
  have hd' : counted.talkNode talkChain = some dest := hd
  have hst : (handFrame dest (.chainStep st.loaded) counted).chain.stepState = .stepping st := by
    rw [handFrame_chain]; exact h
  have hsent : recommandStep st s = setStepState (.stepping { st with number := inc32 s.port.frameCount })
      (handFrame dest (.chainStep st.loaded) counted) := by
    rw [recommandStep]
    simp only [show (s.setChain { s.chain with recommands := s.chain.recommands + 1 }).talkNode talkChain = some dest
      from hd]
    rfl
  rw [hsent, setStepState_of_stepping (st := .stepping _) hst nofun, handFrame_chain,
    handFrame_handedUrgent counted rfl]
  exact handedUrgent_chain counted _ dest (.chainStep st.loaded)

/-- Without its CHAIN entry the step is only counted (assumption 17). -/
theorem recommandStep_of_none (hd : s.talkNode 1 = none) :
    recommandStep st s = s.setChain { s.chain with recommands := s.chain.recommands + 1 } := by
  rw [recommandStep]
  simp only [show (s.setChain { s.chain with recommands := s.chain.recommands + 1 }).talkNode talkChain = none from hd]

end Outcome

/-- Settles O19: the outcome by its frame and kind, and the step timer's expiry. -/
theorem stepsAreCommandedThreeTimesAtMost : Obligations.StepsAreCommandedThreeTimesAtMost := by
  constructor
  · intro s st hst discarded ended
    -- a step discarded on `s` with the ledger `ledger`
    have failed (c : Instr) (ledger : List Instr) (detail : Nat) (hfull : s.chain.station.isSome = true)
        (hexec : exec c s = .next (failStep detail { s with handed := ledger })) :
        ended c (ledger ++ [.faultRaise .chainTimeout detail]) := by
      let u : State := stepDiscarded detail { s with handed := ledger }
      have heq : failStep detail { s with handed := ledger } = setPacerState (evaluateFire u).pacer.state u :=
        failStep_eq detail (s := { s with handed := ledger }) hst hfull
      have hown : evaluateFire u = setPacerState (evaluateFire u).pacer.state u :=
        evaluateFire_eq_of_interlock (not_interlocksHold_of_station hfull)
      refine ⟨(evaluateFire u).pacer.state, by rw [hexec, heq]; rfl, fun hwait => ?_, fun hnot => ?_⟩
      · have heval := evaluateFire_evaluated (s := u) hwait
        rw [hown] at heval
        exact heval
      · rw [evaluateFire_of_not_waiting (s := u) hnot]
        rfl
    constructor
    · intro frame o hnext taken
      rw [exec_chainStepOutcome hnext]
      have hst' : (s.took (.chainStepOutcome frame o)).chain.stepState = .stepping st := hst
      refine ⟨fun hn => ?_, fun hn ho hack => ?_, fun hn ho hack => ?_, fun dest hn ho hcount hd => ?_,
        fun hn ho hcount hd => ?_, fun hn ho hcount hfull => ?_⟩
      · rw [takeStepOutcome_of_ne hst' hn]; rfl
      · obtain rfl := ho
        rw [takeStepOutcome_acknowledged hst' hn, if_pos hack]; rfl
      · obtain rfl := ho
        rw [takeStepOutcome_acknowledged hst' hn, if_neg (by rw [hack]; nofun),
          setStepState_of_stepping (st := .stepping _) hst' nofun]
        rfl
      · rw [takeStepOutcome_refused hst' hn ho, if_pos (by exact hcount), recommandStep_of_dest hst' (by exact hd)]; rfl
      · rw [takeStepOutcome_refused hst' hn ho, if_pos (by exact hcount), recommandStep_of_none (by exact hd)]; rfl
      · refine failed _ (s.handed.erase (.chainStepOutcome frame o)) 1 hfull ?_
        rw [exec_chainStepOutcome hnext, takeStepOutcome_refused hst' hn ho, if_neg (by exact Nat.not_lt.2 hcount)]
        rfl
    · intro e ht he hfull
      have hdue : s.chain.stepTimer.due s.clock = true ∧ s.chain.step?.isSome = true := by
        rw [ht, (step?_eq_some_iff _ _).2 hst]
        exact ⟨decide_eq_true he, rfl⟩
      exact failed .stepTimerExpiry s.handed 2 hfull (congrArg _ (if_pos hdue))
  · intro s frame o hnone hnext
    rw [exec_chainStepOutcome hnext, takeStepOutcome_of_none (by exact hnone)]; rfl

end Sys2Proof.Machine
end

section
/-!
SUPPORT. Slips by count and by index (R64, R66), and their obligation.
-/

namespace Sys2Proof.Machine

/-! ## Index events (R66) -/

/-- What the first index event of a group asks for. -/
def State.firstSlip (s : State) : List Instr :=
  if s.chain.revBaseline = true ∧ s.line.stepsPerRev ≠ 0 ∧ s.chain.revCount ≠ s.line.stepsPerRev
  then [.faultRaise .chainSlip 3] else []

/-- The state after an index event that asks for `asked`: the baseline set and the revolution count clear. -/
def indexed (asked : List Instr) (s : State) : State :=
  { s with chain := { s.chain with revBaseline := true, revCount := 0 }, handed := s.handed ++ asked }

theorem indexEvent_eq (s : State) : indexEvent s = indexed s.firstSlip s := by
  rw [indexEvent, State.firstSlip]
  split
  · rfl
  · rw [indexed, List.append_nil]; rfl

/-- After an index event the next one finds a count of 0 against the steps-per-revolution figure. -/
theorem indexEvent_indexed (asked : List Instr) (s : State) :
    indexEvent (indexed asked s) =
      indexed (asked ++ if s.line.stepsPerRev ≠ 0 then [.faultRaise .chainSlip 3] else []) s := by
  rw [indexEvent_eq, State.firstSlip]
  have hslip : ((indexed asked s).chain.revBaseline = true ∧ (indexed asked s).line.stepsPerRev ≠ 0 ∧
      (indexed asked s).chain.revCount ≠ (indexed asked s).line.stepsPerRev) ↔ s.line.stepsPerRev ≠ 0 :=
    ⟨fun ⟨_, h, _⟩ => h, fun h => ⟨rfl, h, h.symm⟩⟩
  simp only [hslip]
  simp only [indexed, List.append_assoc]

/-- A group of index events: the first against the count it finds, each later one against a count of 0. -/
theorem forEach_indexEvent (k : Nat) (s : State) :
    forEach (k + 1) (fun _ => indexEvent) s = indexed (s.firstSlip ++
      if s.line.stepsPerRev ≠ 0 then List.replicate k (.faultRaise .chainSlip 3) else []) s := by
  induction k with
  | zero =>
    have hone : forEach 1 (fun _ => indexEvent) s = indexEvent s := rfl
    rw [hone, indexEvent_eq, List.replicate_zero, ite_self, List.append_nil]
  | succ k ih =>
    rw [forEach_succ, ih, indexEvent_indexed]
    congr 1
    split
    · rw [List.append_assoc, ← List.replicate_succ']
    · rw [List.append_nil]

/-- Settles O21: a count with no step in flight, and a group of index events by its first and its later ones. -/
theorem slipsAreFoundByCountAndIndex : Obligations.SlipsAreFoundByCountAndIndex := by
  intro s n
  refine ⟨fun hn hstill => ?_, fun hn => ?_⟩
  · have hcount : takeChainCount n (s.took (.chainCountEvents n)) =
        (s.took (.chainCountEvents n)).hand (.faultRaise .chainSlip 1) := by
      rw [takeChainCount, if_neg (Nat.ne_of_gt hn),
        show (s.took (.chainCountEvents n)).chain.step? = none from hstill]
    exact congrArg _ hcount
  · obtain ⟨k, rfl⟩ : ∃ k, n = k + 1 := ⟨n - 1, by omega⟩
    refine (congrArg _ (forEach_indexEvent k (s.took (.chainIndexEvents (k + 1))))).trans ?_
    rw [indexed, ← List.append_assoc, Nat.add_sub_cancel]
    rfl

end Sys2Proof.Machine
end

section
/-!
SUPPORT. The climate loss check zone by zone (R137), and the parts of a step-done (R61, R62, R113, R131).
-/

namespace Sys2Proof.Machine

/-! ## The climate loss check (R137) -/

/-- Zone `k` is due for CLIMATE_LOST: its loss timer is expired, its mark is clear, and it holds a PRODUCT record. -/
def State.lossDue (s : State) (k : Nat) : Prop :=
  s.lossTimer k = .expired ∧ s.lossMark k = false ∧ s.productsIn k ≠ []

theorem climateCheckZone_of_not_due {s : State} {k : Nat} (h : ¬ s.lossDue k) : climateCheckZone k s = s := if_neg h

theorem climateCheckZone_of_due {s : State} {k : Nat} (h : s.lossDue k) :
    climateCheckZone k s = raiseFault .climateLost k (s.setLoss k .expired true) := if_pos h

/-- The products of a zone are read from the cane queue and the zone map alone. -/
theorem productsIn_congr {s t : State} (h : t.canes = s.canes) (k : Nat) : t.productsIn k = s.productsIn k := by
  unfold State.productsIn State.zoneEntry
  rw [h]

theorem zoneDue_congr {s t : State} {k : Nat} (ht : t.sequencer.lossTimers = s.sequencer.lossTimers)
    (hm : t.lossMark k = s.lossMark k) (hc : t.canes = s.canes) : t.lossDue k ↔ s.lossDue k := by
  simp only [State.lossDue, State.lossTimer, ht, hm, productsIn_congr hc]

/-- A due zone is marked, its timer stays expired, and CLIMATE_LOST is raised with its number. -/
theorem climateCheckZone_sequencer {s : State} {k : Nat} (h : s.lossDue k) :
    (climateCheckZone k s).sequencer.lossTimers = s.sequencer.lossTimers ∧
    (climateCheckZone k s).sequencer.lossRaised = s.sequencer.lossRaised.set k true ∧
    (climateCheckZone k s).sequencer.lists .climateLost = true ∧
    (s.sequencer.lists .climateLost = false → (climateCheckZone k s).sequencer.faults =
      s.sequencer.faults ++ [{ code := .climateLost, time := s.lineTime, count := 1, detail := k }]) := by
  rw [climateCheckZone_of_due h]
  obtain ⟨htimers, hmarks⟩ := raiseFault_loss .climateLost k (s.setLoss k .expired true)
  refine ⟨?_, hmarks, raiseFault_lists _ _ _, fun hl => ?_⟩
  · obtain ⟨hexpired, -, -⟩ := h
    rw [htimers, State.setLoss_sequencer]
    have hlt : k < s.sequencer.lossTimers.length := by
      by_contra hge
      rw [State.lossTimer, List.getD_eq_default _ _ (Nat.le_of_not_lt hge)] at hexpired
      cases hexpired
    rw [State.lossTimer, ← List.getElem_eq_getD (h := hlt)] at hexpired
    rw [← hexpired, List.set_getElem_self]
  · obtain ⟨owed, hseq⟩ := raiseFault_sequencer .climateLost k (s.setLoss k .expired true)
    rw [hseq, if_neg (by exact Bool.eq_false_iff.1 hl)]
    rfl

/-- The climate loss check has been made for the zones below `n`, from `s` to `t`. -/
structure ChecksMade (n : Nat) (s t : State) : Prop where
  timers : t.sequencer.lossTimers = s.sequencer.lossTimers
  length : t.sequencer.lossRaised.length = s.sequencer.lossRaised.length
  canes : t.canes = s.canes
  marked : ∀ k, k < n → s.lossDue k → t.lossMark k = true ∧ t.sequencer.lists .climateLost = true
  kept : ∀ k, ¬ (k < n ∧ s.lossDue k) → t.lossMark k = s.lossMark k
  untouched : (∀ k, k < n → ¬ s.lossDue k) → t = s
  raised : ∀ k, k < n → s.lossDue k → (∀ j, j < n → s.lossDue j → j = k) → s.sequencer.lists .climateLost = false →
    t.sequencer.faults = s.sequencer.faults ++
      [{ code := .climateLost, time := s.lineTime, count := 1, detail := k }]

/-- The check goes on to a zone that is not due: nothing changes. -/
theorem ChecksMade.next_of_not_due {n : Nat} {s t : State} (h : ChecksMade n s t) (hn : ¬ s.lossDue n) :
    ChecksMade (n + 1) s t := by
  have below {k : Nat} (hk : k < n + 1) (hd : s.lossDue k) : k < n :=
    Nat.lt_of_le_of_ne (Nat.le_of_lt_succ hk) fun he => hn (he ▸ hd)
  refine ⟨h.timers, h.length, h.canes, fun k hk hd => h.marked k (below hk hd) hd,
    fun k hk => h.kept k fun hd => hk ⟨Nat.lt_succ_of_lt hd.1, hd.2⟩,
    fun hnone => h.untouched fun k hk => hnone k (Nat.lt_succ_of_lt hk),
    fun k hk hd honly => h.raised k (below hk hd) hd fun j hj => honly j (Nat.lt_succ_of_lt hj)⟩

/-- The check goes on to a due zone, which is marked. -/
theorem ChecksMade.next_of_due {n : Nat} {s t : State} (h : ChecksMade n s t)
    (hlen : n < s.sequencer.lossRaised.length) (hn : s.lossDue n) : ChecksMade (n + 1) s (climateCheckZone n t) := by
  have hdue : t.lossDue n := (zoneDue_congr h.timers (h.kept n fun hk => Nat.lt_irrefl n hk.1) h.canes).2 hn
  obtain ⟨htimers, hmarks, hlists, hfaults⟩ := climateCheckZone_sequencer hdue
  have hmark (k : Nat) : (climateCheckZone n t).lossMark k = if n = k then true else t.lossMark k := by
    simp only [State.lossMark, hmarks, List.getD_eq_getElem?_getD, List.getElem?_set, h.length, hlen, if_true]
    split <;> rfl
  refine ⟨htimers.trans h.timers, by rw [hmarks, List.length_set, h.length], (climateCheckZone_canes n t).trans h.canes,
    fun k hk hd => ⟨?_, hlists⟩, fun k hk => ?_, fun hnone => absurd hn (hnone n (Nat.lt_succ_self n)),
    fun k hk hd honly hl => ?_⟩
  · rw [hmark]
    split
    · rfl
    · exact (h.marked k (by omega) hd).1
  · have hne : n ≠ k := fun he => hk ⟨he ▸ Nat.lt_succ_self n, he ▸ hn⟩
    rw [hmark, if_neg hne]
    exact h.kept k fun hd => hk ⟨Nat.lt_succ_of_lt hd.1, hd.2⟩
  · -- the only due zone is this one, so the zones before it have changed nothing
    obtain rfl := honly n (Nat.lt_succ_self n) hn
    have hsame : t = s := h.untouched fun j hj hd =>
      Nat.ne_of_lt hj (honly j (Nat.lt_succ_of_lt hj) hd)
    subst hsame
    exact hfaults hl

theorem checksMade_forEach {s : State} (n : Nat) (hlen : n ≤ s.sequencer.lossRaised.length) :
    ChecksMade n s (forEach n climateCheckZone s) := by
  induction n with
  | zero =>
    exact ⟨rfl, rfl, rfl, fun k hk => absurd hk (Nat.not_lt_zero k), fun _ _ => rfl, fun _ => rfl,
      fun k hk => absurd hk (Nat.not_lt_zero k)⟩
  | succ n ih =>
    have hmade := ih (Nat.le_of_succ_le hlen)
    rw [forEach_succ]
    by_cases hn : s.lossDue n
    · exact hmade.next_of_due hlen hn
    · have hnot : ¬ (forEach n climateCheckZone s).lossDue n := by
        rwa [zoneDue_congr hmade.timers (hmade.kept n fun hk => Nat.lt_irrefl n hk.1) hmade.canes]
      rw [climateCheckZone_of_not_due hnot]
      exact hmade.next_of_not_due hn

/-- Without a due zone the check changes nothing. -/
theorem climateCheck_of_none_due {s : State} (h : ∀ k, ¬ s.lossDue k) : climateCheck s = s := by
  have none (n : Nat) : forEach n climateCheckZone s = s := by
    induction n with
    | zero => rfl
    | succ n ih => rw [forEach_succ, ih, climateCheckZone_of_not_due (h n)]
  exact none _

/-- The check is as R137 says, from any state with the same zones, timers, marks and faults. -/
theorem climateLossChecked_climateCheck {s u t : State} (hlen : s.sequencer.lossRaised.length = 12)
    (hzones : s.canes.zoneCount ≤ 12) (hcount : u.canes.zoneCount = s.canes.zoneCount) (htime : u.lineTime = s.lineTime)
    (htimers : u.sequencer.lossTimers = s.sequencer.lossTimers)
    (hmarks : u.sequencer.lossRaised = s.sequencer.lossRaised) (hfaults : u.sequencer.faults = s.sequencer.faults)
    (hseq : t.sequencer = (climateCheck u).sequencer) (hcanes : t.canes = u.canes) : ClimateLossChecked s t := by
  have hmade : ChecksMade s.canes.zoneCount u (climateCheck u) := by
    rw [climateCheck, hcount]
    exact checksMade_forEach _ (by rw [hmarks, hlen]; exact hzones)
  have hmark (k : Nat) : u.lossMark k = s.lossMark k := by simp only [State.lossMark, hmarks]
  have hmark' (k : Nat) : t.lossMark k = (climateCheck u).lossMark k := by simp only [State.lossMark, hseq]
  have hlists (v w : State) (hv : v.sequencer.faults = w.sequencer.faults) :
      v.sequencer.lists .climateLost = w.sequencer.lists .climateLost := by simp only [Sequencer.lists, hv]
  have hdue (k : Nat) : (k < s.canes.zoneCount ∧ s.lossTimer k = .expired ∧ s.lossMark k = false ∧
      t.productsIn k ≠ []) ↔ k < s.canes.zoneCount ∧ u.lossDue k := by
    simp only [State.lossDue, State.lossTimer, htimers, hmark, productsIn_congr hcanes]
  unfold ClimateLossChecked
  simp only [hdue]
  refine ⟨by rw [hseq, hmade.timers, htimers], fun k hk => ?_, fun k hk => ?_, fun hnone => ?_,
    fun k hk honly hl => ?_⟩
  · rw [hmark', hseq]
    exact hmade.marked k hk.1 hk.2
  · rw [hmark', hmade.kept k hk, hmark]
  · rw [hseq, hmade.untouched fun k hk hd => hnone k ⟨hk, hd⟩, hfaults]
  · rw [hseq, hmade.raised k hk.1 hk.2 (fun j hj hd => honly j ⟨hj, hd⟩) ((hlists u s hfaults).trans hl), hfaults, htime]

/-! ## The parts of a step-done (R61) -/

/-- The state once the step is over (R61 steps 3 to 5). -/
def stepOver (s : State) : State :=
  { s with chain := { s.chain with
      stepState := .idle, recommands := 0, stepTimer := .stopped, revCount := min 65535 (s.chain.revCount + 1),
      drainTimer :=
        if s.sequencer.mode = .draining then .running (s.clock + s.line.drainTime * 10000)
        else s.chain.drainTimer } }

theorem endStep_eq {s : State} {st : StepInFlight} (h : s.chain.stepState = .stepping st) : endStep s = stepOver s := by
  have hidle := setStepState_of_stepping (st := .idle) (x := st)
    (s := s.setChain { s.chain with
      recommands := 0, stepTimer := .stopped, revCount := min 65535 (s.chain.revCount + 1) }) h nofun
  rw [endStep, hidle, stepOver]
  by_cases hm : s.sequencer.mode = .draining
  · rw [if_pos (by exact hm), if_pos hm]; rfl
  · rw [if_neg (by exact hm), if_neg hm]; rfl

/-- Once a step is over no insertion is due: in DRAINING the drain timer has been started again (R67). -/
theorem afterStepEnd_stepOver (s : State) : afterStepEnd (stepOver s) = evaluateFire (stepOver s) := by
  refine tryInsertion_of_not_due ?_
  rw [insertionDue_iff, evaluateFire_chain, evaluateFire_sequencer]
  rintro ⟨htimer, hmode, -⟩
  have hmode' : s.sequencer.mode = .draining := hmode
  simp only [stepOver, hmode', if_true] at htimer
  cases htimer

/-- Outside DRAINING the line sequencer leaves a departure be (R131). -/
theorem reportDeparture_of_not_draining (d : Option Cane) {s : State} (h : s.sequencer.mode ≠ .draining) :
    reportDeparture d s = s := by
  cases d with
  | none => rfl
  | some c => exact if_neg fun hd => h hd.2.1

/-- Entry to STOPPED changes of the sequencer the mode (R128). -/
theorem enterMode_stopped_sequencer (r : ModeReason) (s : State) :
    (enterMode .stopped r s).sequencer = { s.sequencer with mode := .stopped } := by
  change ((queueReport _ (setMode .stopped s)).sequencer) = _
  rw [queueReport_sequencer]
  rfl

/-- A departure leaves everything but the port, the agent, the ledger and the sequencer, and of that all but the
mode. -/
theorem reportDeparture_frame (d : Option Cane) (s : State) :
    { reportDeparture d s with
      port := s.port, agent := s.agent, sequencer := s.sequencer, handed := s.handed } = s ∧
    { (reportDeparture d s).sequencer with mode := s.sequencer.mode } = s.sequencer := by
  have same : { s with port := s.port, agent := s.agent, sequencer := s.sequencer, handed := s.handed } = s ∧
      { s.sequencer with mode := s.sequencer.mode } = s.sequencer := ⟨rfl, rfl⟩
  cases d with
  | none => exact same
  | some c =>
    rw [reportDeparture]
    split
    · refine ⟨?_, by rw [enterMode_stopped_sequencer]⟩
      have hframe := enterModeCore_frame .stopped .drained none s
      exact hframe
    · exact same

/-- What the climate loss check leaves. -/
theorem climateCheck_frame (s : State) :
    { climateCheck s with port := s.port, agent := s.agent, sequencer := s.sequencer, handed := s.handed } = s := by
  simp only [climateCheck_clock, climateCheck_lineTime, climateCheck_lots, climateCheck_pacer, climateCheck_chain,
    climateCheck_canes, climateCheck_drying, climateCheck_climate, climateCheck_discharge, climateCheck_signals,
    climateCheck_line, climateCheck_pending]

/-! ## Arrivals and departures (R61, R62, R113) -/

section Records

variable {s : State} {c : Cane}

/-- Into a cane queue with room the station's record moves, and none leaves. -/
theorem recordsMoved_of_room (hc : s.chain.station = some c)
    (hroom : s.canes.pExit = none ∨ ∃ p, s.canes.pExit = some p ∧ s.canes.records.length ≤ p) :
    pushedOut s = none ∧ recordsMoved s =
      { s with chain := { s.chain with station := none },
               canes := { s.canes with records := s.canes.records ++ [c] } } := by
  have hstation : s.chain.station.toList = [c] := by rw [hc]; rfl
  rcases recordsMoved_cases s with ⟨hnone, -, hmoved⟩ | ⟨p, h, rest, -, hp, hlong, -, -⟩
  · rw [hstation] at hmoved
    exact ⟨hnone, hmoved⟩
  · rw [hstation, List.length_append, List.length_singleton] at hlong
    rcases hroom with hn | ⟨q, hq, hle⟩
    · rw [hn] at hp; cases hp
    · obtain rfl : q = p := Option.some.inj (hq.symm.trans hp)
      omega

/-- Into a full cane queue the station's record moves, and the head leaves. -/
theorem recordsMoved_of_full {h : Cane} {rest : List Cane} (hc : s.chain.station = some c)
    (hrecords : s.canes.records = h :: rest) (hp : s.canes.pExit = some rest.length) :
    pushedOut s = some h ∧ recordsMoved s =
      { s with chain := { s.chain with station := none }, canes := { s.canes with records := rest ++ [c] },
               discharge := s.discharge.received s h } := by
  have hqueue : s.canes.records ++ s.chain.station.toList = h :: (rest ++ [c]) := by rw [hrecords, hc]; rfl
  have hmoved := recordsMoved_cases s
  rw [hqueue] at hmoved
  rcases hmoved with ⟨-, hshort, -⟩ | ⟨p, h', rest', hpushed, -, -, heq, hmoved⟩
  · have hlen := hshort _ hp
    simp at hlen
  · obtain ⟨rfl, rfl⟩ := List.cons.inj heq
    exact ⟨hpushed, hmoved⟩

end Records

/-- Whatever moves, the records and the discharge unit change, and the station is empty. -/
theorem recordsMoved_form (s : State) :
    ∃ records discharge, recordsMoved s =
      { s with chain := { s.chain with station := none }, canes := { s.canes with records := records },
               discharge := discharge } := by
  rcases recordsMoved_cases s with ⟨-, -, h⟩ | ⟨p, c, rest, -, -, -, -, h⟩
  · exact ⟨_, _, h⟩
  · exact ⟨_, _, h⟩

end Sys2Proof.Machine
end

section
/-!
SUPPORT. A step-done as a whole (R61, R62, R65), and its obligation.
-/

namespace Sys2Proof.Machine

/-- What an evaluation leaves is read from the pacer, the chain, the lots, the mode and the signals. -/
theorem evaluated_transfer {u t : State} {n : Nat} (hp : t.pacer = u.pacer) (hm : t.sequencer = u.sequencer)
    (hl : t.lots = u.lots) (hc : t.chain = u.chain) (hg : t.signals = u.signals) (h : Evaluated u n) :
    Evaluated t n := by
  refine evaluated_congr (s := u) (by rw [hp]) hm hl hc hg ?_
  rw [hp]
  exact h

section StepDone

variable {s : State} {st : StepInFlight}

/-- A step-done moves the records, ends the step, lets the pacer evaluate, and then tells the line sequencer. -/
theorem stepDone_of_stepping (hst : s.chain.stepState = .stepping st) :
    stepDone s = climateCheck (reportDeparture (pushedOut s) (evaluateFire (stepOver (recordsMoved s)))) := by
  obtain ⟨records, discharge, hmoved⟩ := recordsMoved_form s
  have hst' : (recordsMoved s).chain.stepState = .stepping st := by rw [hmoved]; exact hst
  rw [stepDone_eq, endStep_eq hst', afterStepEnd_stepOver]

/-- What a step-done leaves of the state in which its records have moved and its step is over. -/
theorem stepDone_frame (hst : s.chain.stepState = .stepping st) :
    { stepDone s with
      pacer := s.pacer, port := s.port, agent := s.agent, sequencer := s.sequencer, handed := s.handed } =
      stepOver (recordsMoved s) := by
  obtain ⟨records, discharge, hmoved⟩ := recordsMoved_form s
  rw [stepDone_of_stepping hst]
  let w := stepOver (recordsMoved s)
  -- the four blocks and the ledger set apart, over each of the three operations
  let base (u : State) : State := { u with
    pacer := s.pacer, port := s.port, agent := s.agent, sequencer := s.sequencer, handed := s.handed }
  have hcheck : base (climateCheck (reportDeparture (pushedOut s) (evaluateFire w))) =
      base (reportDeparture (pushedOut s) (evaluateFire w)) := (congrArg base (climateCheck_frame _) :)
  have hreport : base (reportDeparture (pushedOut s) (evaluateFire w)) = base (evaluateFire w) :=
    (congrArg base (reportDeparture_frame (pushedOut s) (evaluateFire w)).1 :)
  have hevaluate : base (evaluateFire w) = base w := (congrArg base (evaluateFire_frame w) :)
  have hmove : base w = w := by simp only [base, w, hmoved]; rfl
  exact hcheck.trans (hreport.trans (hevaluate.trans hmove))

theorem stepDone_canes (hst : s.chain.stepState = .stepping st) : (stepDone s).canes = (recordsMoved s).canes :=
  (congrArg State.canes (stepDone_frame hst) :)

theorem stepDone_discharge (hst : s.chain.stepState = .stepping st) :
    (stepDone s).discharge = (recordsMoved s).discharge := (congrArg State.discharge (stepDone_frame hst) :)

/-- The chain controller after a step-done (R61). -/
theorem stepDone_chain (hst : s.chain.stepState = .stepping st) :
    (stepDone s).chain = { s.chain with
      station := none, stepState := .idle, recommands := 0, stepTimer := .stopped,
      revCount := min 65535 (s.chain.revCount + 1),
      drainTimer :=
        if s.sequencer.mode = .draining then .running (s.clock + s.line.drainTime * 10000)
        else s.chain.drainTimer } := by
  obtain ⟨records, discharge, hmoved⟩ := recordsMoved_form s
  have hchain := congrArg State.chain (stepDone_frame hst)
  rw [hmoved] at hchain
  exact hchain

/-- What a step-done leaves. -/
theorem stepDone_kept (hst : s.chain.stepState = .stepping st) :
    { stepDone s with
      chain := s.chain, canes := s.canes, discharge := s.discharge, pacer := s.pacer, port := s.port, agent := s.agent,
      sequencer := s.sequencer, handed := s.handed } = s ∧
    { (stepDone s).canes with records := s.canes.records } = s.canes := by
  obtain ⟨records, discharge, hmoved⟩ := recordsMoved_form s
  have hframe := congrArg (fun x : State => { x with
    chain := s.chain, canes := s.canes, discharge := s.discharge }) (stepDone_frame hst)
  have hcanes := stepDone_canes hst
  rw [hmoved] at hframe hcanes
  exact ⟨hframe, by rw [hcanes]⟩

/-- The pacer before the evaluation of a step-done, and the mode. -/
theorem stepOver_recordsMoved (s : State) :
    (stepOver (recordsMoved s)).pacer = s.pacer ∧ (stepOver (recordsMoved s)).sequencer = s.sequencer ∧
    (stepOver (recordsMoved s)).port = s.port ∧ (stepOver (recordsMoved s)).handed = s.handed := by
  obtain ⟨records, discharge, hmoved⟩ := recordsMoved_form s
  rw [hmoved]
  exact ⟨rfl, rfl, rfl, rfl⟩

/-- The pacer after a step-done is that of its evaluation. -/
theorem stepDone_pacer (hst : s.chain.stepState = .stepping st) :
    (stepDone s).pacer = (evaluateFire (stepOver (recordsMoved s))).pacer := by
  rw [stepDone_of_stepping hst, climateCheck_pacer]
  exact (congrArg State.pacer (reportDeparture_frame _ _).1 :)

/-- In FORMING and BLOCKED the pacer has evaluated, in the mode that the step-done found (R27). -/
theorem stepDone_evaluated (hst : s.chain.stepState = .stepping st)
    (hwait : s.pacer.state = .forming ∨ s.pacer.state = .blocked) :
    Evaluated { stepDone s with sequencer := s.sequencer } (inc32 s.port.frameCount) := by
  let w := stepOver (recordsMoved s)
  obtain ⟨hpacer, hseq, hport, -⟩ := stepOver_recordsMoved s
  have heval := evaluateFire_evaluated (s := w) (by rw [hpacer]; exact hwait)
  rw [hport] at heval
  have hframe := stepDone_frame hst
  have hlots := congrArg State.lots hframe
  have hchain := congrArg State.chain hframe
  have hsignals := congrArg State.signals hframe
  exact evaluated_transfer (stepDone_pacer hst) ((evaluateFire_sequencer w).trans hseq).symm
    (hlots.trans (evaluateFire_lots w).symm) (hchain.trans (evaluateFire_chain w).symm)
    (hsignals.trans (evaluateFire_signals w).symm) heval

/-- The climate loss check of a step-done (R137). -/
theorem stepDone_climateLossChecked (hst : s.chain.stepState = .stepping st)
    (hlen : s.sequencer.lossRaised.length = 12) (hzones : s.canes.zoneCount ≤ 12) :
    ClimateLossChecked s (stepDone s) := by
  let v := reportDeparture (pushedOut s) (evaluateFire (stepOver (recordsMoved s)))
  have hdone : stepDone s = climateCheck v := stepDone_of_stepping hst
  have hseq : { v.sequencer with mode := s.sequencer.mode } = s.sequencer := by
    have hdeparture := (reportDeparture_frame (pushedOut s) (evaluateFire (stepOver (recordsMoved s)))).2
    rw [evaluateFire_sequencer, (stepOver_recordsMoved s).2.1] at hdeparture
    exact hdeparture
  have hcanes : v.canes = (stepDone s).canes := by rw [hdone, climateCheck_canes]
  have htime : v.lineTime = (stepDone s).lineTime := by rw [hdone, climateCheck_lineTime]
  obtain ⟨hkept, hmap⟩ := stepDone_kept hst
  have htimers := congrArg Sequencer.lossTimers hseq
  have hmarks := congrArg Sequencer.lossRaised hseq
  have hfaults := congrArg Sequencer.faults hseq
  have hcount := congrArg CaneQueue.zoneCount hmap
  have hlineTime := congrArg State.lineTime hkept
  exact climateLossChecked_climateCheck hlen hzones ((congrArg CaneQueue.zoneCount hcanes).trans hcount)
    (htime.trans hlineTime) htimers hmarks hfaults (congrArg State.sequencer hdone) hcanes.symm

/-- Without a zone whose expired loss timer is unmarked a step-done outside DRAINING leaves the line sequencer. -/
theorem stepDone_sequencer (hst : s.chain.stepState = .stepping st) (hmode : s.sequencer.mode ≠ .draining)
    (hnone : ∀ k, s.lossTimer k ≠ .expired ∨ s.lossMark k = true) : (stepDone s).sequencer = s.sequencer := by
  let w := stepOver (recordsMoved s)
  have hseq : (evaluateFire w).sequencer = s.sequencer :=
    (evaluateFire_sequencer w).trans (stepOver_recordsMoved s).2.1
  have hnodue (k : Nat) : ¬ (evaluateFire w).lossDue k := by
    rintro ⟨hexpired, hclear, -⟩
    simp only [State.lossTimer, State.lossMark, hseq] at hexpired hclear
    exact (hnone k).elim (fun h => h hexpired) fun h => Bool.noConfusion (h.symm.trans hclear)
  have hreport : reportDeparture (pushedOut s) (evaluateFire w) = evaluateFire w :=
    reportDeparture_of_not_draining _ (by rw [hseq]; exact hmode)
  rw [stepDone_of_stepping hst, hreport, climateCheck_of_none_due hnodue, hseq]

/-- The row takes its group off the ledger and acts on it. -/
theorem exec_chainCountEvents (n : Nat) (s : State) :
    exec (.chainCountEvents n) s = .next (takeChainCount n (s.took (.chainCountEvents n))) := rfl

/-- A group of one count is a step-done, and a larger one asks for CHAIN_SLIP (R65). -/
theorem takeChainCount_stepDone {n : Nat} (hst : s.chain.stepState = .stepping st) (hn : 1 ≤ n) :
    takeChainCount n s = { stepDone s with
      handed := (stepDone s).handed ++ if 2 ≤ n then [.faultRaise .chainSlip 2] else [] } := by
  simp only [takeChainCount, if_neg (Nat.ne_of_gt hn), (step?_eq_some_iff _ _).2 hst]
  by_cases hone : n = 1
  · subst hone
    simp
  · rw [if_neg hone, if_pos (show 2 ≤ n by omega)]
    rfl

end StepDone

/-- Settles O20: the records move, the step is over, the pacer evaluates, and the line sequencer takes the departure
and the climate loss check. -/
theorem stepDoneAdvancesTheLine : Obligations.StepDoneAdvancesTheLine := by
  intro s st c n hst hc hn
  let u : State := s.took (.chainCountEvents n)
  have hst' : u.chain.stepState = .stepping st := hst
  have hpacer := stepDone_pacer hst'
  obtain ⟨hwpacer, -⟩ := stepOver_recordsMoved u
  obtain ⟨hkept, hmap⟩ := stepDone_kept hst'
  rw [exec_chainCountEvents, takeChainCount_stepDone hst' hn]
  refine ⟨_, rfl, stepDone_chain hst', ?_, stepDone_evaluated hst', fun hnot => ?_, stepDone_climateLossChecked hst',
    stepDone_sequencer hst', fun htwo => ?_, ?_, hmap, fun hroom => ?_, fun p h rest hp hrecords hrest => ?_⟩
  · change (stepDone u).pacer = { u.pacer with state := (stepDone u).pacer.state }
    rw [hpacer, evaluateFire_pacer, hwpacer]
  · change (stepDone u).pacer.state = u.pacer.state
    rw [hpacer, evaluateFire_of_not_waiting (by rw [hwpacer]; exact hnot), hwpacer]
  · rw [if_pos htwo]
    exact List.mem_append_right _ (List.mem_singleton_self _)
  · exact (congrArg (fun x : State => { x with handed := s.handed }) hkept :)
  · obtain ⟨-, hroomed⟩ := recordsMoved_of_room (s := u) hc hroom
    change (stepDone u).canes.records = u.canes.records ++ [c] ∧ (stepDone u).discharge = u.discharge
    rw [stepDone_canes hst', stepDone_discharge hst', hroomed]
    exact ⟨rfl, rfl⟩
  · obtain ⟨-, hfull⟩ := recordsMoved_of_full (s := u) hc hrecords (hrest ▸ hp)
    have hdischarge : (stepDone u).discharge = u.discharge.received u h := by
      rw [stepDone_discharge hst', hfull]
    refine ⟨(congrArg CaneQueue.records (stepDone_canes hst')).trans (by rw [hfull]), fun hempty => ?_,
      fun q hq => ?_⟩
    · rw [Discharge.received, hempty] at hdischarge
      exact hdischarge
    · rw [Discharge.received, hq] at hdischarge
      -- `newEntry` is the entry of the statement, its pieces, its scrap and its disposition written out
      exact hdischarge

end Sys2Proof.Machine
end

section
/-!
SUPPORT. The expiry of the drain timer and the end of a drain (R57, R67, R131), and their obligation.
-/

namespace Sys2Proof.Machine

/-! ## The drain timer's expiry (R57, R67) -/

/-- The state in which the expiry is acted on. -/
def drainExpired (s : State) : State := { s with chain := { s.chain with drainTimer := .expired } }

theorem exec_drainTimerExpiry {s : State} {e : Nat} (ht : s.chain.drainTimer = .running e) (he : e ≤ s.clock) :
    exec .drainTimerExpiry s = .next (evaluateChain (tryInsertion (drainExpired s))) := by
  have hdue : s.chain.drainTimer.due s.clock = true := by rw [ht]; exact decide_eq_true he
  exact congrArg _ (if_pos hdue)

/-- What an insertion waits for besides the expiry (R67). -/
theorem insertionDue_drainExpired (s : State) :
    (drainExpired s).insertionDue = true ↔ s.sequencer.mode = .draining ∧ s.chain.station = none ∧
      s.chain.stepState = .idle ∧ s.pacer.fire? = none := by
  rw [insertionDue_iff]
  exact ⟨fun h => h.2, fun h => ⟨rfl, h⟩⟩

/-- With the station empty in IDLE an evaluation changes nothing (R57). -/
theorem evaluateChain_of_idle {s : State} (hc : s.chain.station = none) (hst : s.chain.stepState = .idle) :
    evaluateChain s = s := by
  have hstill : s.chain.step? = none := by rw [Chain.step?, hst]
  rw [evaluateChain_of_still hstill hc, setStepState_of_ne_waitingRoom (st := .idle) s nofun, State.stallLeft,
    if_neg (by rw [hst]; nofun), ← hst]

/-! ## The last product (R131) -/

/-- A cane queue of EMPTY records holds no product in any zone. -/
theorem productsIn_eq_nil {s : State} (h : ∀ c ∈ s.canes.records, c.product = none) (k : Nat) :
    s.productsIn k = [] := by
  have hpositioned (cs : List Cane) : ∀ pc ∈ positioned cs, pc.2 ∈ cs := by
    induction cs with
    | nil => nofun
    | cons c cs ih =>
      intro pc hpc
      rcases List.mem_cons.1 hpc with rfl | hpc
      · exact List.mem_cons_self
      · exact List.mem_cons_of_mem c (ih pc hpc)
  rw [State.productsIn, List.filterMap_eq_nil_iff]
  intro pc hpc
  rw [h pc.2 (hpositioned _ pc hpc), ite_self]

/-- With the station empty such a line holds no product. -/
theorem holdsProduct_eq_false {s : State} (hc : s.chain.station = none)
    (h : ∀ c ∈ s.canes.records, c.product = none) : s.holdsProduct = false := by
  have hany : s.canes.records.any Cane.isProduct = false := by
    rw [List.any_eq_false]
    intro c hmem
    rw [Cane.isProduct, h c hmem]
    nofun
  rw [State.holdsProduct, hc, hany]
  rfl

/-- Entry to STOPPED (R128): the report, and the change handed to the pacer and the chain controller. -/
theorem enterMode_stopped_eq (r : ModeReason) (s : State) :
    enterMode .stopped r s =
      let u := queueReport (.modeChange s.sequencer.mode .stopped r none) (setMode .stopped s)
      { u with handed := u.handed ++
        [.pacerModeChange s.sequencer.mode .stopped, .chainModeChange s.sequencer.mode .stopped] } := by
  change ((queueReport _ (setMode .stopped s)).hand _).hand _ = _
  simp only [State.hand, List.append_assoc]
  rfl

/-- A report of an ordinary node asks for nothing (R171). -/
theorem queueReport_handed {s : State} (r : Report) (hs : s.port.silent = false) :
    (queueReport r s).handed = s.handed := by
  by_cases hf : s.port.fill .management < 5
  · rw [queueReport_of_room r hs hf]
  · rw [queueReport_of_full r (Nat.le_of_not_lt hf)]

/-- The step-done by which the last product departs in DRAINING enters STOPPED, and changes of the pacer its state. -/
theorem stepDone_of_last {s : State} {st : StepInFlight} {h : Cane} (hst : s.chain.stepState = .stepping st)
    (hmode : s.sequencer.mode = .draining) (hpushed : pushedOut s = some h) (hproduct : h.isProduct = true)
    (hempty : ∀ c ∈ (recordsMoved s).canes.records, c.product = none) :
    ∃ p, stepDone s = enterMode .stopped .drained (setPacerState p (stepOver (recordsMoved s))) := by
  let w := stepOver (recordsMoved s)
  obtain ⟨-, hseq, -⟩ := stepOver_recordsMoved s
  obtain ⟨records, discharge, hmoved⟩ := recordsMoved_form s
  have hstation : w.chain.station = none := by simp only [w, hmoved]; rfl
  -- no fire is sent in DRAINING
  have hfire : evaluateFire w = setPacerState (evaluateFire w).pacer.state w := by
    refine evaluateFire_eq_of_interlock fun dest => ?_
    rintro ⟨hfires, -⟩
    rw [hseq, hmode] at hfires
    cases hfires
  let f := setPacerState (evaluateFire w).pacer.state w
  have hreport : reportDeparture (some h) f = enterMode .stopped .drained f :=
    if_pos ⟨hproduct, by exact hseq ▸ hmode, holdsProduct_eq_false hstation hempty⟩
  have hnodue (k : Nat) : ¬ (enterMode .stopped .drained f).lossDue k := by
    rintro ⟨-, -, hproducts⟩
    refine hproducts (productsIn_eq_nil ?_ k)
    rw [enterMode_canes]
    exact hempty
  have hcheck : climateCheck (reportDeparture (some h) f) = enterMode .stopped .drained f := by
    rw [hreport, climateCheck_of_none_due hnodue]
  refine ⟨(evaluateFire w).pacer.state, ?_⟩
  rw [stepDone_of_stepping hst, hpushed, hfire]
  exact hcheck

/-- Settles O22: the expiry with an insertion due and without, and the departure of the last product. -/
theorem drainingInsertsEmptiesAndEnds : Obligations.DrainingInsertsEmptiesAndEnds := by
  intro s e ready
  refine ⟨?_, fun ht he hready => ?_, fun st c h rest hmode hst hc hcane hrecords hexit hproduct hrest => ?_⟩
  · intro ht he hnot expired
    have hexec : exec .drainTimerExpiry s = .next (evaluateChain expired) := by
      rw [exec_drainTimerExpiry ht he, tryInsertion_of_not_due fun hdue => hnot ((insertionDue_drainExpired s).1 hdue)]
      rfl
    have hchange : exec (.chainModeChange .priming .priming)
        { expired with handed := .chainModeChange .priming .priming :: s.handed } = .next (evaluateChain expired) := by
      rw [exec_chainModeChange_of_steps _ (.inl rfl)]
      simp [chainModeTaken, expired]
    refine ⟨⟨_, hexec, evaluateChain_drainTimer expired, hchange⟩, fun h => ?_⟩
    rw [hexec]
    rcases h with hgoing | ⟨hempty, hidle⟩
    · obtain ⟨st, hst⟩ := Option.isSome_iff_exists.1 hgoing
      rw [evaluateChain_of_stepping (s := expired) ((step?_eq_some_iff _ _).1 hst)]
    · rw [evaluateChain_of_idle (s := expired) hempty hidle]
  · let stopped : State := { s with chain := { s.chain with drainTimer := .stopped } }
    have hinsert : tryInsertion (drainExpired s) = placeRecord none stopped :=
      if_pos ((insertionDue_drainExpired s).2 hready)
    obtain ⟨hstation, hcanes, hdischarge, -⟩ := recordPlaced_placeRecord none stopped
    rw [exec_drainTimerExpiry ht he, hinsert]
    refine ⟨_, rfl, ?_, ?_, ?_, ?_, ?_, ?_, ?_⟩
    · rw [evaluateChain_drainTimer, placeRecord_drainTimer]
    · rw [(evaluateChain_places _).1, hstation]
    · rw [evaluateChain_canes, hcanes]
    · rw [(evaluateChain_places _).2, hdischarge]
    · rw [evaluateChain_pacer, placeRecord, evaluateChain_pacer]
    · rw [evaluateChain_sequencer, placeRecord, evaluateChain_sequencer]
    · rw [evaluateChain_lots, placeRecord, evaluateChain_lots]
  · let u : State := s.took (.chainCountEvents 1)
    have hst' : u.chain.stepState = .stepping st := hst
    obtain ⟨hpushed, hmoved⟩ := recordsMoved_of_full (s := u) hc hrecords hexit
    have hempty : ∀ r ∈ (recordsMoved u).canes.records, r.product = none := by
      rw [hmoved]
      intro r hr
      rcases List.mem_append.1 hr with hr | hr
      · exact hrest r hr
      · rw [List.mem_singleton.1 hr]; exact hcane
    obtain ⟨p, hdone⟩ := stepDone_of_last (s := u) hst' hmode hpushed hproduct hempty
    obtain ⟨-, hseq, hport, hhanded⟩ := stepOver_recordsMoved u
    have hgroup : exec (.chainCountEvents 1) s = .next (stepDone u) := by
      rw [exec_chainCountEvents, takeChainCount_stepDone hst' (Nat.le_refl 1)]
      simp only [show ¬ 2 ≤ 1 by decide, if_false, List.append_nil]
    let w : State := setPacerState p (stepOver (recordsMoved u))
    have hwmode : w.sequencer.mode = .draining := by exact hseq ▸ hmode
    have hwport : (setMode .stopped w).port = s.port := hport
    let v : State := queueReport (.modeChange .draining .stopped .drained none) (setMode .stopped w)
    have hentered : stepDone u = { v with handed := v.handed ++
        [.pacerModeChange .draining .stopped, .chainModeChange .draining .stopped] } := by
      rw [hdone, enterMode_stopped_eq]
      simp only [show (setPacerState p (stepOver (recordsMoved u))).sequencer.mode = .draining from hwmode]
      rfl
    refine ⟨_, hgroup, ?_, ?_, ?_, fun hs => ?_, fun hs hf => ?_⟩
    · rw [hdone, enterMode_stopped_sequencer]
      exact congrArg (fun q : Sequencer => { q with mode := .stopped }) hseq
    · rw [stepDone_canes hst', hmoved]
    · rw [stepDone_chain hst']
      exact if_pos hmode
    · have hreported : v.handed = (setMode .stopped w).handed := queueReport_handed _ (by rw [hwport]; exact hs)
      rw [hentered, hreported]
      exact congrArg (· ++ _) hhanded
    · have hreported : v.port = s.port.withReport s.agent.supervisor s.agent.missed s.lineTime
          (.modeChange .draining .stopped .drained none) := by
        simp only [v, w]
        rw [queueReport_of_room _ (by rw [hwport]; exact hs) (by rw [hwport]; exact hf), hwport, hmoved]
        rfl
      rw [hentered, hreported]
      rfl

end Sys2Proof.Machine
end

section
/-!
SUPPORT. MARK_CANES (R68, R116), and its obligation.
-/

namespace Sys2Proof.Machine

/-! ## The range, the mark and the counts -/

/-- The range in the words of the statements. -/
theorem inSequenceRange_eq {first : Nat} (last q : Nat) (h : first < 16777216) :
    inSequenceRange first last q =
      decide ((q + (16777216 - first)) % 16777216 ≤ (last + (16777216 - first)) % 16777216) := by
  simp only [inSequenceRange, seqDistance, Config.seqModulus, Nat.mod_eq_of_lt h]

/-- The three fields of MARK_CANES (R68). -/
theorem markFields {first last : Nat} {m : Byte} (hf : first < 16777216) (hl : last < 16777216) :
    field (be 3 first ++ be 3 last ++ [m]) 0 3 = first ∧ field (be 3 first ++ be 3 last ++ [m]) 3 3 = last ∧
    field (be 3 first ++ be 3 last ++ [m]) 6 1 = m.toNat := by
  rw [List.append_assoc]
  refine ⟨field_be_head hf, ?_, ?_⟩
  · rw [field_be_skip (Nat.le_refl 3)]
    exact field_be_head hl
  · rw [field_be_skip (by decide), field_be_skip (by decide)]
    exact field_cons_head m []

/-- An entry after the mark of its queue, entry by entry (R116). -/
theorem markEntries_getElem? (s : State) (m : CaneMark) (first last : Nat) (ordered : Bool)
    (es : List DischargeEntry) (i : Nat) (e : DischargeEntry) (h : es[i]? = some e) :
    (markEntries s m first last ordered es)[i]? = some (if e.inMarkRange first last
      then e.marked m (decide (i = 0) && ordered) (s.lotSlot e.product.lot).header else e) := by
  induction es generalizing ordered i with
  | nil => cases h
  | cons d es ih =>
    cases i with
    | zero =>
      obtain rfl : d = e := Option.some.inj h
      rfl
    | succ i =>
      have hmarked := ih false i h
      rw [Bool.and_false] at hmarked
      exact hmarked

theorem markEntries_length (s : State) (m : CaneMark) (first last : Nat) (ordered : Bool)
    (es : List DischargeEntry) : (markEntries s m first last ordered es).length = es.length := by
  have hsequences := congrArg List.length (markEntries_sequences s m first last ordered es)
  rwa [List.length_map, List.length_map] at hsequences

/-- The late count of the response (R116). -/
theorem markedLate_eq (s : State) (first last : Nat) :
    s.markedLate first last = (s.discharge.entries.head?.map fun e =>
      if s.discharge.orderOutstanding && inSequenceRange first last e.sequence then 1 else 0).getD 0 := by
  rw [State.markedLate]
  cases s.discharge.entries <;> rfl

/-- The body of MARK_CANES' response: the records, those in the discharge queue, and the late one. -/
def markBody (first last : Nat) (s : State) : List Byte :=
  be 2 (s.markedOnLine first last + s.markedInDischarge first last) ++ be 1 (s.markedInDischarge first last) ++
    be 1 (s.markedLate first last)

section Marks

variable {s : State} {r : Request} {first last : Nat} {m : Byte}

/-- MARK_CANES with its seven bytes acts on the range and the mark. -/
theorem markCanes_answer (u : State) (hf : first < 16777216) (hl : last < 16777216)
    (hargs : r.args = be 3 first ++ be 3 last ++ [m]) :
    withLength 7 markCanesAnswer (directiveOf 0x04 [] r).args u = match markOfCode m.toNat with
      | none => refuse .badValue u
      | some cm => doneWith (markBody first last u) (markRecords cm first last u) := by
  obtain ⟨h0, h3, h6⟩ := markFields (m := m) hf hl
  have hargs' : (directiveOf 0x04 [] r).args = be 3 first ++ be 3 last ++ [m] := hargs
  rw [hargs', withLength_of_length u (by simp [be_length])]
  unfold markCanesAnswer
  rw [h0, h3, h6]
  rfl

/-- A mark above 1 is refused (R68, R181). -/
theorem exec_markCanes_refused (hf : first < 16777216) (hl : last < 16777216)
    (hargs : r.args = be 3 first ++ be 3 last ++ [m]) (hs : Starts s (directiveOf 0x04 [] r))
    (hm : 2 ≤ m.toNat) : exec (.markCanes r) s = .next (answered s (directiveOf 0x04 [] r) .badValue [] id) := by
  have hnone : markOfCode m.toNat = none := by
    obtain ⟨k, hk⟩ := Nat.exists_eq_add_of_le' hm
    rw [hk]
    rfl
  have hanswer := markCanes_answer (popDirective s) hf hl hargs
  rw [hnone] at hanswer
  exact congrArg _ (runDirective_refuse hs hanswer)

/-- A mark of 0 or 1 reaches the records. -/
theorem exec_markCanes_done {cm : CaneMark} (hf : first < 16777216) (hl : last < 16777216)
    (hargs : r.args = be 3 first ++ be 3 last ++ [m]) (hs : Starts s (directiveOf 0x04 [] r))
    (hm : markOfCode m.toNat = some cm) :
    exec (.markCanes r) s =
      .next (answered s (directiveOf 0x04 [] r) .done (markBody first last s) (markRecords cm first last)) := by
  have hanswer := markCanes_answer (popDirective s) hf hl hargs
  rw [hm] at hanswer
  exact congrArg _ (runDirective_done (effect := markRecords cm first last) hs hanswer rfl)

end Marks

/-- The mark that a code of 0 or 1 names, in the words of the statements. -/
theorem markOfCode_of_le_one {m : Byte} (h : m.toNat ≤ 1) :
    ∃ cm, markOfCode m.toNat = some cm ∧ ∀ p : Product, Product.marked p cm =
      if m = 0 then { p with markReject := true } else { p with markHold := true } := by
  have hzero : m = 0 ↔ m.toNat = 0 := by rw [← BitVec.toNat_inj]; rfl
  by_cases hm : m.toNat = 0
  · exact ⟨.reject, by rw [hm]; rfl, fun p => by rw [if_pos (hzero.2 hm)]; rfl⟩
  · have hone : m.toNat = 1 := by omega
    exact ⟨.hold, by rw [hone]; rfl, fun p => by rw [if_neg fun h0 => hm (hzero.1 h0)]; rfl⟩

/-- Settles O45: the fields, the mark, and the records place by place. -/
theorem marksReachEveryRecordInRange : Obligations.MarksReachEveryRecordInRange := by
  intro s r first last m hf hl hargs hs inRange set mark onLine inDischarge late lateCount
  refine ⟨exec_markCanes_refused hf hl hargs hs, fun hm => ?_⟩
  obtain ⟨cm, hcm, hset⟩ := markOfCode_of_le_one hm
  have hrange (q : Nat) : inSequenceRange first last q = inRange q := inSequenceRange_eq last q hf
  have hproduct (p : Product) : Product.marked p cm = set p := hset p
  have hmark : (fun c : Cane => c.marked cm first last) = mark := by
    funext c
    simp only [Cane.marked, hrange, hproduct, mark]
  let es := markEntries (popDirective s) cm first last s.discharge.orderOutstanding s.discharge.entries
  have hbody : markBody first last s = be 2 (onLine + inDischarge) ++ be 1 inDischarge ++ be 1 lateCount := by
    simp only [markBody, State.markedOnLine, State.markedInDischarge, markedLate_eq, Cane.inMarkRange,
      DischargeEntry.inMarkRange, hrange, onLine, inDischarge, lateCount, late, decide_true, Bool.true_and]
    rfl
  refine ⟨es, ?_, markEntries_length .., fun i e he => ?_⟩
  · rw [exec_markCanes_done hf hl hargs hs hcm, hbody]
    simp only [answered, markRecords, hmark]
    rfl
  · intro f lot
    rw [markEntries_getElem? (popDirective s) cm first last s.discharge.orderOutstanding s.discharge.entries i e he]
    rw [DischargeEntry.inMarkRange, hrange]
    cases hin : inRange e.sequence with
    | false => rfl
    | true =>
      simp only [late, hin, Bool.and_true, DischargeEntry.marked, hproduct]
      rfl

end Sys2Proof.Machine
end

section
/-!
SUPPORT. The configuration of the zones at a zone count write (R97, R102, R103, R104, R106, R107): what one zone's
configuration changes, and the run over the configured zones.
-/

namespace Sys2Proof.Machine

/-! ## Zone commands among others (R103, R104) -/

section ZoneCommands

variable {role n : Nat} {body : FrameBody}

/-- A zone command queued in a state that has so far queued commands of other kinds and zones only. -/
theorem zoneCommandAmong_of_queued {s v w : State} {key : Option (ZoneCommandKind × Nat)} (hkey : zoneKey body = key)
    (hq : queueOf body = .routine) (htalk : v.signals.talk = s.signals.talk)
    (hbefore : commandsOf key v.port.routine = commandsOf key s.port.routine)
    (hle : s.port.fill .routine ≤ v.port.fill .routine) (hup : v.port.fill .routine + 1 ≤ s.port.fill .routine + n)
    (hsilent : v.port.silent = s.port.silent) (hw : w.port = (queueZoneCommand role body v).port) :
    ZoneCommandAmong s w role body n := by
  have htalk' : v.talkNode role = s.talkNode role := by rw [State.talkNode, htalk]; rfl
  have hstands : (∃ f ∈ v.port.routine, zoneKey f.body = key) ↔ ∃ f ∈ s.port.routine, zoneKey f.body = key := by
    rw [exists_zoneKey_iff, exists_zoneKey_iff, hbefore]
  rw [zoneCommandAmong_iff hkey, hw]
  refine ⟨fun dest hd hroom => ?_, fun hnot => ?_⟩
  · have hqueued := queueZoneCommand_queued hq (htalk'.trans hd)
    rw [hkey, hstands] at hqueued
    exact hqueued (hroom.imp_right fun ⟨h1, h2⟩ => ⟨hsilent.trans h1, by omega⟩)
  · rw [queueZoneCommand_unqueued, hbefore]
    rw [htalk', hkey, hstands]
    exact hnot.imp_right fun ⟨h1, h2⟩ => ⟨h1, h2.trans hle⟩

/-- What the responses see of the trunk port. -/
def State.managementView (s : State) : List Frame × Nat × Bool :=
  (s.port.management, s.port.fill .management, s.port.silent)

theorem managementView_congr {s t : State} (h : s.port = t.port) : s.managementView = t.managementView := by
  simp only [State.managementView, h]

/-- A frame of another queue leaves the management queue. -/
theorem handFrame_managementView (dest : Nat) (s : State) (h : .management ≠ queueOf body) :
    (handFrame dest body s).managementView = s.managementView := by
  have hentries := handFrame_entries_ne dest body s h
  simp only [State.managementView, handFrame_fill_ne dest body s h, handFrame_silent]
  exact congrArg (·, _) hentries

theorem queueZoneCommand_managementView (s : State) (hq : queueOf body = .routine) :
    (queueZoneCommand role body s).managementView = s.managementView := by
  rcases queueZoneCommand_cases role body s with h | ⟨dest, -, ⟨-, h⟩ | ⟨-, -, h⟩⟩ <;> rw [h]
  · rfl
  · exact handFrame_managementView dest s (by rw [hq]; nofun)

end ZoneCommands

/-! ## One zone's configuration (R97) -/

/-- The idle temperature of a zone, within its limits. -/
def State.idleTemp (s : State) (k : Nat) : Int :=
  clamp (s.zoneEntry k).idleT (s.zoneEntry k).tMin (s.zoneEntry k).tMax

/-- The idle humidity of a zone, within its limits. -/
def State.idleHumidity (s : State) (k : Nat) : Nat :=
  (clamp (s.zoneEntry k).idleRh (s.zoneEntry k).rhMin (s.zoneEntry k).rhMax).toNat

/-- The state of a zone once it is configured, with `g` the generator's value for its air timer. -/
def State.configuredZone (s : State) (k : Nat) (g : BitVec 16) : ZoneState :=
  { tempSetpoint := s.idleTemp k, rhSetpoint := s.idleHumidity k, demand := demandAgainst s k (s.idleHumidity k),
    direction := .forward,
    airTimer := if (s.zoneEntry k).airBase = 0 then .stopped else
      .running (s.lineTime + (s.zoneEntry k).airBase + g.toNat % ((s.zoneEntry k).airJitter + 1)) }

/-- The generator after a zone's configuration: stepped for a zone with an air base (R106, R107). -/
def State.staggerFor (s : State) (k : Nat) : BitVec 16 :=
  if (s.zoneEntry k).airBase = 0 then s.climate.stagger else staggerNext s.climate.stagger

/-- Holding a number between two bounds. -/
theorem clamp_eq_max_min {x a b : Int} (h : a ≤ b) : clamp x a b = max a (min b x) := by
  unfold clamp
  split
  · omega
  · split <;> omega

/-- The demand of a zone is that against its RH setpoint (R102). -/
theorem humidityDemand_eq (s : State) (k : Nat) : s.humidityDemand k = demandAgainst s k (s.zoneState k).rhSetpoint := by
  rw [State.humidityDemand, demandAgainst]
  cases h : s.reading (20 + k) with
  | none => rw [show s.reading (roleZoneRh k) = none from h]
  | some rh =>
    rw [show s.reading (roleZoneRh k) = some rh from h]
    exact clamp_eq_max_min (by decide)

section OneZone

variable {k : Nat} {s : State}

/-- The state in which a zone's ZONE_CLIMATE is queued: its setpoints and its demand stored. -/
def climateStored (k : Nat) (s : State) : State :=
  s.setZone k { s.zoneState k with
    tempSetpoint := s.idleTemp k, rhSetpoint := s.idleHumidity k, demand := demandAgainst s k (s.idleHumidity k) }

/-- The state in which its AIR_DIR is queued: its direction stored too. -/
def airStored (k : Nat) (s : State) : State :=
  (queueZoneCommand (4 + k) (climateCommand s k (s.idleTemp k) (demandAgainst s k (s.idleHumidity k)))
    (climateStored k s)).setZone k { s.zoneState k with
      tempSetpoint := s.idleTemp k, rhSetpoint := s.idleHumidity k, demand := demandAgainst s k (s.idleHumidity k),
      direction := .forward }

theorem setZone_setZone (s : State) (k : Nat) (x y : ZoneState) : (s.setZone k x).setZone k y = s.setZone k y := by
  simp only [State.setZone, List.set_set]

theorem zoneState_setZone_self (z : ZoneState) (h : k < s.climate.zones.length) : (s.setZone k z).zoneState k = z := by
  rw [zoneState_setZone z k h, if_pos rfl]

/-- A zone's setpoints and demand are stored and its ZONE_CLIMATE queued (R97 steps 1 to 3). -/
theorem refreshDemand_idle (h : k < s.climate.zones.length) :
    refreshDemand k (s.setSetpoints k (limitTemp (s.zoneEntry k) (s.zoneEntry k).idleT,
      limitRh (s.zoneEntry k) (s.zoneEntry k).idleRh)) =
      queueZoneCommand (4 + k) (climateCommand s k (s.idleTemp k) (demandAgainst s k (s.idleHumidity k)))
        (climateStored k s) := by
  let u := s.setZone k { s.zoneState k with tempSetpoint := s.idleTemp k, rhSetpoint := s.idleHumidity k }
  have hu : u.zoneState k = { s.zoneState k with tempSetpoint := s.idleTemp k, rhSetpoint := s.idleHumidity k } :=
    zoneState_setZone_self _ h
  have hdemand : u.humidityDemand k = demandAgainst s k (s.idleHumidity k) := by
    rw [humidityDemand_eq, hu]; rfl
  have hstored : u.setZone k { u.zoneState k with demand := u.humidityDemand k } = climateStored k s := by
    rw [hdemand, hu, setZone_setZone]; rfl
  have hbody : (climateStored k s).zoneClimateBody k =
      climateCommand s k (s.idleTemp k) (demandAgainst s k (s.idleHumidity k)) := by
    rw [zoneClimateBody_eq, climateStored, zoneState_setZone_self _ h]; rfl
  change queueZoneClimate k (u.setZone k { u.zoneState k with demand := u.humidityDemand k }) = _
  rw [hstored, queueZoneClimate, hbody]
  rfl

/-- The state in which a zone's air timer is set: its two commands queued (R97 steps 1 to 4). -/
def zoneAnnounced (k : Nat) (s : State) : State :=
  queueZoneCommand (16 + k) (.airDir k .forward) (airStored k s)

/-- The zone's state there. -/
def State.announcedZone (s : State) (k : Nat) : ZoneState :=
  { s.zoneState k with
    tempSetpoint := s.idleTemp k, rhSetpoint := s.idleHumidity k, demand := demandAgainst s k (s.idleHumidity k),
    direction := .forward }

theorem airStored_climate (k : Nat) (s : State) :
    (airStored k s).climate = { s.climate with zones := s.climate.zones.set k (s.announcedZone k) } := by
  simp only [airStored, State.setZone, queueZoneCommand_climate, climateStored, List.set_set]
  rfl

theorem zoneAnnounced_climate (k : Nat) (s : State) :
    (zoneAnnounced k s).climate = { s.climate with zones := s.climate.zones.set k (s.announcedZone k) } := by
  rw [zoneAnnounced, queueZoneCommand_climate, airStored_climate]

/-- What the two commands of a zone leave. -/
theorem zoneAnnounced_frame (k : Nat) (s : State) :
    { zoneAnnounced k s with climate := s.climate, port := s.port, handed := s.handed } = s := by
  simp [zoneAnnounced, airStored, climateStored, State.setZone]

/-- A zone's configuration sets the air timer last (R97 step 5). -/
theorem configureZone_announced (h : k < s.climate.zones.length) :
    configureZone k s = if (s.zoneEntry k).airBase = 0
      then (zoneAnnounced k s).setZone k { (zoneAnnounced k s).zoneState k with airTimer := .stopped }
      else startAirTimer k (zoneAnnounced k s) := by
  let b := queueZoneCommand (4 + k) (climateCommand s k (s.idleTemp k) (demandAgainst s k (s.idleHumidity k)))
    (climateStored k s)
  have hb : b.zoneState k = (climateStored k s).zoneState k :=
    zoneState_congr (congrArg Climate.zones (queueZoneCommand_climate ..)) k
  have hstored : b.setZone k { b.zoneState k with direction := .forward } = airStored k s := by
    rw [hb, climateStored, zoneState_setZone_self _ h]
    rfl
  have hzone : (airStored k s).zoneState k = s.announcedZone k := by
    rw [zoneState_congr (t := s.setZone k (s.announcedZone k)) (by rw [airStored_climate]; rfl),
      zoneState_setZone_self _ h]
  have hair : queueAirDir k (b.setZone k { b.zoneState k with direction := .forward }) = zoneAnnounced k s := by
    rw [hstored, queueAirDir, hzone]
    rfl
  rw [configureZone]
  simp only [refreshDemand_idle h]
  exact if_congr Iff.rfl (by rw [← hair]) (by rw [← hair])

/-- A zone configured: its two commands queued, its state stored and the generator stepped (R97). -/
theorem configureZone_eq (h : k < s.climate.zones.length) :
    configureZone k s = { zoneAnnounced k s with
      climate := { zones := s.climate.zones.set k (s.configuredZone k (s.staggerFor k)),
                   stagger := s.staggerFor k } } := by
  have hframe := zoneAnnounced_frame k s
  have hline : (zoneAnnounced k s).lineTime = s.lineTime := (congrArg State.lineTime hframe :)
  have hentry : (zoneAnnounced k s).zoneEntry k = s.zoneEntry k := (congrArg (fun u => State.zoneEntry u k) hframe :)
  have hzone : (zoneAnnounced k s).zoneState k = s.announcedZone k := by
    rw [zoneState_congr (t := s.setZone k (s.announcedZone k)) (by rw [zoneAnnounced_climate]; rfl),
      zoneState_setZone_self _ h]
  rw [configureZone_announced h, State.configuredZone, State.staggerFor]
  by_cases hbase : (s.zoneEntry k).airBase = 0
  · rw [if_pos hbase, if_pos hbase, if_pos hbase, State.setZone, hzone, zoneAnnounced_climate]
    simp only [List.set_set]
    rfl
  · rw [if_neg hbase, if_neg hbase, if_neg hbase, startAirTimer, State.setZone, hzone, hline, hentry,
      zoneAnnounced_climate, staggerStep_eq]
    simp only [List.set_set]
    rw [← hline]
    rfl

/-- What a zone's configuration leaves. -/
theorem configureZone_frame (h : k < s.climate.zones.length) :
    { configureZone k s with climate := s.climate, port := s.port, handed := s.handed } = s := by
  rw [configureZone_eq h]
  exact (congrArg (fun u : State => { u with climate := s.climate }) (zoneAnnounced_frame k s) :)

theorem configureZone_zoneState (h : k < s.climate.zones.length) (j : Nat) :
    (configureZone k s).zoneState j = if j = k then s.configuredZone k (s.staggerFor k) else s.zoneState j := by
  rw [← zoneState_setZone _ j h, configureZone_eq h]
  rfl

/-- The routine queue at a zone's configuration: its two commands, one after the other (R104). -/
theorem configureZone_port (h : k < s.climate.zones.length) :
    (configureZone k s).port = (queueZoneCommand (16 + k) (.airDir k .forward) (airStored k s)).port ∧
    (airStored k s).port = (queueZoneCommand (4 + k)
      (climateCommand s k (s.idleTemp k) (demandAgainst s k (s.idleHumidity k))) (climateStored k s)).port ∧
    (climateStored k s).port = s.port := by
  rw [configureZone_eq h]
  exact ⟨rfl, rfl, rfl⟩

end OneZone

/-! ## The run over the configured zones (R97, R107) -/

/-- How the generator has stepped once the zones below `n` are configured: once for each with an air base. -/
def State.steppedFor (s : State) (n : Nat) : BitVec 16 :=
  staggerNext^[(List.range n).countP fun k => decide ((s.zoneEntry k).airBase ≠ 0)] s.climate.stagger

theorem steppedFor_succ (s : State) (n : Nat) :
    s.steppedFor (n + 1) =
      if (s.zoneEntry n).airBase = 0 then s.steppedFor n else staggerNext (s.steppedFor n) := by
  rw [State.steppedFor, List.range_succ, List.countP_append, List.countP_singleton]
  by_cases h : (s.zoneEntry n).airBase = 0
  · simp only [h, ne_eq, not_true_eq_false, decide_false, Bool.false_eq_true, if_false, Nat.add_zero, if_true]
    rfl
  · simp only [h, ne_eq, not_false_eq_true, decide_true, if_true, if_false, Function.iterate_succ', Function.comp]
    rfl

/-- The zones below `n` have been configured, from `s` to `t`, among a number `m` of commands. -/
structure ZonesConfigured (m n : Nat) (s t : State) : Prop where
  frame : { t with climate := s.climate, port := s.port, handed := s.handed } = s
  length : t.climate.zones.length = s.climate.zones.length
  stagger : t.climate.stagger = s.steppedFor n
  zone : ∀ k, k < n → t.zoneState k = s.configuredZone k (s.steppedFor (k + 1))
  other : ∀ k, n ≤ k → t.zoneState k = s.zoneState k
  management : t.managementView = s.managementView
  fill_le : s.port.fill .routine ≤ t.port.fill .routine
  fill_up : t.port.fill .routine ≤ s.port.fill .routine + 2 * n
  silent : t.port.silent = s.port.silent
  kept : ∀ kind k, n ≤ k → commandsOf (some (kind, k)) t.port.routine = commandsOf (some (kind, k)) s.port.routine
  climate : ∀ k, k < n →
    ZoneCommandAmong s t (4 + k) (climateCommand s k (s.idleTemp k) (demandAgainst s k (s.idleHumidity k))) m
  air : ∀ k, k < n → ZoneCommandAmong s t (16 + k) (.airDir k .forward) m

theorem zonesConfigured_zero (m : Nat) (s : State) : ZonesConfigured m 0 s s :=
  ⟨rfl, rfl, rfl, fun k hk => absurd hk (Nat.not_lt_zero k), fun _ _ => rfl, rfl, Nat.le_refl _, Nat.le_refl _, rfl,
    fun _ _ _ => rfl, fun k hk => absurd hk (Nat.not_lt_zero k), fun k hk => absurd hk (Nat.not_lt_zero k)⟩

section NextZone

variable {m n : Nat} {s t : State}

/-- What a zone's configuration reads stands during the run. -/
theorem ZonesConfigured.reads (h : ZonesConfigured m n s t) :
    t.canes = s.canes ∧ t.signals = s.signals ∧ t.lineTime = s.lineTime :=
  ⟨(congrArg State.canes h.frame :), (congrArg State.signals h.frame :), (congrArg State.lineTime h.frame :)⟩

/-- A configured zone is so as seen from the start of the run. -/
theorem ZonesConfigured.configuredZone_eq (h : ZonesConfigured m n s t) (k : Nat) (g : BitVec 16) :
    t.configuredZone k g = s.configuredZone k g := by
  obtain ⟨hcanes, hsignals, htime⟩ := h.reads
  unfold State.configuredZone State.idleTemp State.idleHumidity demandAgainst State.reading State.isLost State.slot
    State.zoneEntry
  rw [hcanes, hsignals, htime]

theorem ZonesConfigured.command_eq (h : ZonesConfigured m n s t) (k : Nat) :
    climateCommand t k (t.idleTemp k) (demandAgainst t k (t.idleHumidity k)) =
      climateCommand s k (s.idleTemp k) (demandAgainst s k (s.idleHumidity k)) := by
  obtain ⟨hcanes, hsignals, -⟩ := h.reads
  unfold climateCommand State.idleTemp State.idleHumidity demandAgainst State.reading State.isLost State.slot
    State.zoneEntry
  rw [hcanes, hsignals]

/-- The run goes on to the next zone. -/
theorem ZonesConfigured.next (h : ZonesConfigured m n s t) (hm : 2 * (n + 1) ≤ m) (hn : n < s.climate.zones.length) :
    ZonesConfigured m (n + 1) s (configureZone n t) := by
  have hlen : n < t.climate.zones.length := h.length ▸ hn
  obtain ⟨hcanes, hsignals, -⟩ := h.reads
  have hstagger : t.staggerFor n = s.steppedFor (n + 1) := by
    rw [State.staggerFor, steppedFor_succ, h.stagger, State.zoneEntry, hcanes]
    rfl
  have hframe := configureZone_frame hlen
  obtain ⟨hport, hport', hport''⟩ := configureZone_port hlen
  rw [h.command_eq] at hport'
  -- the two commands, of their own kinds
  let body := climateCommand s n (s.idleTemp n) (demandAgainst s n (s.idleHumidity n))
  have hkey : zoneKey body = some (.climate, n) := zoneKey_climateCommand ..
  have hqueue : queueOf body = .routine := queueOf_climateCommand ..
  have hclimate := queueZoneCommand_fill (role := 4 + n) (s := climateStored n t) hqueue
  have hair := queueZoneCommand_fill (role := 16 + n) (body := .airDir n .forward) (s := airStored n t) rfl
  rw [← hport', hport''] at hclimate
  rw [← hport] at hair
  obtain ⟨hle1, hup1, hsilent1⟩ := hclimate
  obtain ⟨hle2, hup2, hsilent2⟩ := hair
  have hle := h.fill_le
  have hup := h.fill_up
  have hkeep1 {key : Option (ZoneCommandKind × Nat)} (hne : key ≠ some (.climate, n)) :
      commandsOf key (airStored n t).port.routine = commandsOf key t.port.routine := by
    rw [hport', queueZoneCommand_commandsOf_ne hqueue (by rw [hkey]; exact hne), hport'']
  have hkeep2 {key : Option (ZoneCommandKind × Nat)} (hne : key ≠ some (.air, n)) :
      commandsOf key (configureZone n t).port.routine = commandsOf key (airStored n t).port.routine := by
    rw [hport, queueZoneCommand_commandsOf_ne rfl hne]
  have hkeep {kind : ZoneCommandKind} {k : Nat} (hne : k ≠ n) :
      commandsOf (some (kind, k)) (configureZone n t).port.routine = commandsOf (some (kind, k)) t.port.routine := by
    have hother (x : ZoneCommandKind) : some (kind, k) ≠ some (x, n) := fun he =>
      hne (congrArg Prod.snd (Option.some.inj he))
    rw [hkeep2 (hother _), hkeep1 (hother _)]
  refine ⟨?_, ?_, ?_, fun k hk => ?_, fun k hk => ?_, ?_, hle.trans (hle1.trans hle2), by omega,
    (hsilent2.trans hsilent1).trans h.silent, fun kind k hk => ?_, fun k hk => ?_, fun k hk => ?_⟩
  · exact (congrArg (fun u : State => { u with climate := s.climate, port := s.port, handed := s.handed })
      hframe :).trans h.frame
  · rw [configureZone_eq hlen, List.length_set, h.length]
  · rw [configureZone_eq hlen, hstagger]
  · rw [configureZone_zoneState hlen]
    split
    case isTrue he => rw [he, hstagger, h.configuredZone_eq]
    case isFalse he => exact h.zone k (by omega)
  · rw [configureZone_zoneState hlen, if_neg (by omega)]
    exact h.other k (by omega)
  · rw [← h.management, managementView_congr hport, queueZoneCommand_managementView _ rfl, managementView_congr hport',
      queueZoneCommand_managementView _ hqueue, managementView_congr hport'']
  · rw [hkeep (by omega)]
    exact h.kept kind k (by omega)
  · by_cases he : k = n
    · subst he
      refine zoneCommandAmong_congr hkey (hkeep2 nofun) ?_
      refine zoneCommandAmong_of_queued (v := climateStored k t) hkey hqueue (congrArg Signals.talk hsignals) ?_ ?_ ?_
        ?_ hport'
      · rw [hport'']; exact h.kept _ k (Nat.le_refl k)
      · rw [hport'']; exact hle
      · rw [hport'']; omega
      · rw [hport'']; exact h.silent
    · exact zoneCommandAmong_congr (zoneKey_climateCommand ..) (hkeep he) (h.climate k (by omega))
  · by_cases he : k = n
    · subst he
      have hairsignals : (airStored k t).signals = t.signals := by simp [airStored, climateStored]
      refine zoneCommandAmong_of_queued (v := airStored k t) (key := some (.air, k)) rfl rfl
        (congrArg Signals.talk (hairsignals.trans hsignals)) ?_ (hle.trans hle1) (by omega)
        (hsilent1.trans h.silent) hport
      rw [hkeep1 (key := some (.air, k)) nofun]
      exact h.kept _ k (Nat.le_refl k)
    · exact zoneCommandAmong_congr (key := some (.air, k)) rfl (hkeep he) (h.air k (by omega))

end NextZone

theorem zonesConfigured_forEach {m n : Nat} {s : State} (hm : 2 * n ≤ m) (hn : n ≤ s.climate.zones.length) :
    ZonesConfigured m n s (forEach n configureZone s) := by
  induction n with
  | zero => exact zonesConfigured_zero m s
  | succ n ih =>
    rw [forEach_succ]
    exact (ih (by omega) (Nat.le_of_succ_le hn)).next hm hn

end Sys2Proof.Machine
end

section
/-!
SUPPORT. A zone count write (R53, R97, R137): its checks, the timers it stops and starts, and its obligation.
-/

namespace Sys2Proof.Machine

/-! ## The checks (R53) -/

/-- The zones join up from a position when each starts where the one before it ends. -/
theorem contiguousFrom_iff (start : Nat) (zs : List ZoneEntry) :
    contiguousFrom start zs = true ↔ ∀ k, k < zs.length →
      (zs.getD k .zero).first ≤ (zs.getD k .zero).last ∧
      (zs.getD k .zero).first = (if k = 0 then start else (zs.getD (k - 1) .zero).last + 1) := by
  induction zs generalizing start with
  | nil => exact ⟨fun _ k hk => absurd hk (Nat.not_lt_zero k), fun _ => rfl⟩
  | cons z zs ih =>
    rw [contiguousFrom, Bool.and_eq_true, Bool.and_eq_true, decide_eq_true_iff, decide_eq_true_iff, ih]
    constructor
    · rintro ⟨⟨hfirst, hle⟩, hrest⟩ k hk
      cases k with
      | zero => exact ⟨hle, hfirst⟩
      | succ k =>
        obtain ⟨hle', hfirst'⟩ := hrest k (Nat.lt_of_succ_lt_succ hk)
        refine ⟨hle', hfirst'.trans ?_⟩
        cases k <;> rfl
    · intro h
      obtain ⟨hle, hfirst⟩ := h 0 (Nat.zero_lt_succ _)
      refine ⟨⟨hfirst, hle⟩, fun k hk => ?_⟩
      obtain ⟨hle', hfirst'⟩ := h (k + 1) (Nat.succ_lt_succ hk)
      refine ⟨hle', hfirst'.trans ?_⟩
      cases k <;> rfl

/-- The same of the configured zones of a state. -/
theorem contiguousFrom_take_iff {s : State} {n : Nat} (hn : n ≤ 12) (hz : s.canes.zones.length = 12) :
    contiguousFrom 0 (s.canes.zones.take n) = true ↔ ∀ k, k < n →
      (s.zoneEntry k).first ≤ (s.zoneEntry k).last ∧
      (s.zoneEntry k).first = (if k = 0 then 0 else (s.zoneEntry (k - 1)).last + 1) := by
  have hget {k : Nat} (hk : k < n) : (s.canes.zones.take n).getD k .zero = s.zoneEntry k := by
    rw [State.zoneEntry, List.getD_eq_getElem?_getD, List.getD_eq_getElem?_getD, List.getElem?_take_of_lt hk]
  rw [contiguousFrom_iff, List.length_take, hz, Nat.min_eq_left hn]
  refine forall₂_congr fun k hk => ?_
  rw [hget hk, hget (show k - 1 < n by omega)]

theorem allowsRewiring_iff (m : LineMode) :
    LineMode.allowsRewiring m = true ↔ m = .stopped ∨ m = .holding ∨ m = .safe := by
  simp [LineMode.allowsRewiring, or_assoc]

theorem holdsRecords_eq_false_iff (s : State) :
    s.holdsRecords = false ↔ s.chain.station = none ∧ s.canes.records = [] ∧ s.discharge.entries = [] := by
  simp [State.holdsRecords, and_assoc]

/-- A write of one zone count reaches the checks of R53. -/
theorem zoneCount_answer {r : Request} {n : Byte} (u : State) (hr : r.args = [0, 1, n]) :
    withEntries .zoneCount (withRange .zoneCount fun _ es t => writeZoneCount (field (soleEntry es) 0 1) t)
      (directiveOf 0x02 [4] r).args u = writeZoneCount n.toNat u := by
  have hargs : (directiveOf 0x02 [4] r).args = 4 :: 0 :: 1 :: [n] := congrArg (4 :: ·) hr
  rw [hargs, withEntries_one _ 4 0 u rfl, withRange_of_rangeOk u rfl]
  exact congrArg (writeZoneCount · u) (field_cons_head n [])

/-! ## Timers stopped and started (R97, R137) -/

/-- The air timers of the zones from `n` on, and below `m`, stop. -/
theorem stopAirTimers_forEach {n m : Nat} {s : State} (hm : m ≤ s.climate.zones.length) :
    { forEach m (fun k t => if n ≤ k then stopAirTimer k t else t) s with climate := s.climate } = s ∧
    (forEach m (fun k t => if n ≤ k then stopAirTimer k t else t) s).climate.stagger = s.climate.stagger ∧
    (forEach m (fun k t => if n ≤ k then stopAirTimer k t else t) s).climate.zones.length =
      s.climate.zones.length ∧
    ∀ k, (forEach m (fun k t => if n ≤ k then stopAirTimer k t else t) s).zoneState k =
      if n ≤ k ∧ k < m then { s.zoneState k with airTimer := .stopped } else s.zoneState k := by
  induction m with
  | zero => exact ⟨rfl, rfl, rfl, fun k => by rw [if_neg fun h => Nat.not_lt_zero k h.2]; rfl⟩
  | succ m ih =>
    obtain ⟨hframe, hstagger, hlength, hzone⟩ := ih (Nat.le_of_succ_le hm)
    rw [forEach_succ]
    let t := forEach m (fun k t => if n ≤ k then stopAirTimer k t else t) s
    by_cases hn : n ≤ m
    · rw [if_pos hn]
      refine ⟨hframe, hstagger, (List.length_set).trans hlength, fun k => ?_⟩
      have hlen : m < t.climate.zones.length := by rw [hlength]; exact hm
      rw [stopAirTimer, zoneState_setZone _ k hlen, hzone, hzone]
      by_cases hk : k = m
      · subst hk
        rw [if_pos rfl, if_neg (by omega), if_pos ⟨hn, Nat.lt_succ_self k⟩]
      · rw [if_neg hk]
        exact if_congr (by omega) rfl rfl
    · rw [if_neg hn]
      refine ⟨hframe, hstagger, hlength, fun k => ?_⟩
      rw [hzone]
      exact if_congr (by omega) rfl rfl

/-- From `s` to `t` nothing but climate loss timers and their marks have changed. -/
structure LossOnly (s t : State) : Prop where
  frame : { t with sequencer := s.sequencer } = s
  sequencer : t.sequencer = { s.sequencer with
    lossTimers := t.sequencer.lossTimers, lossRaised := t.sequencer.lossRaised }

/-- A run that sets the loss timer and the mark of each zone below `m`. -/
theorem lossTimers_forEach {f : Nat → State → State} {x : Nat → LatchTimer} {y : Bool → Bool} {s : State} {m : Nat}
    (hf : ∀ k t, LossOnly s t → f k t = t.setLoss k (x k) (y (t.lossMark k)))
    (ht : s.sequencer.lossTimers.length = 12) (hr : s.sequencer.lossRaised.length = 12) (hm : m ≤ 12) :
    LossOnly s (forEach m f s) ∧ (forEach m f s).sequencer.lossTimers.length = 12 ∧
    (forEach m f s).sequencer.lossRaised.length = 12 ∧
    ∀ k, (forEach m f s).lossState k = if k < m then (x k, y (s.lossMark k)) else s.lossState k := by
  induction m with
  | zero => exact ⟨⟨rfl, rfl⟩, ht, hr, fun k => by rw [if_neg (Nat.not_lt_zero k)]; rfl⟩
  | succ m ih =>
    obtain ⟨honly, htimers, hmarks, hstate⟩ := ih (Nat.le_of_succ_le hm)
    have hmark : (forEach m f s).lossMark m = s.lossMark m := by
      have hown := hstate m
      rw [if_neg (Nat.lt_irrefl m)] at hown
      exact congrArg Prod.snd hown
    rw [forEach_succ, hf m _ honly, hmark]
    refine ⟨⟨honly.frame, ?_⟩, List.length_set.trans htimers, List.length_set.trans hmarks, fun k => ?_⟩
    · rw [State.setLoss_sequencer, honly.sequencer]
    · rw [setLoss_lossState _ _ htimers hmarks (by omega), hstate]
      by_cases hk : m = k
      · subst hk
        rw [if_pos rfl, if_pos (Nat.lt_succ_self m)]
      · rw [if_neg hk]
        exact if_congr (by omega) rfl rfl

/-- The loss timers after a zone count write (R137). -/
theorem restartLossTimers_eq (n : Nat) {s : State} (ht : s.sequencer.lossTimers.length = 12)
    (hr : s.sequencer.lossRaised.length = 12) :
    LossOnly s (restartLossTimers n s) ∧
    (∀ k, k < 12 → (restartLossTimers n s).lossTimer k =
      if k < n ∧ s.climateLost k = true then .running (s.lineTime + s.line.climateLossLimit) else .stopped) ∧
    (1 ≤ n → ∀ k, k < 12 → (restartLossTimers n s).lossMark k = false) := by
  rw [restartLossTimers]
  by_cases hn : n = 0
  · obtain ⟨honly, -, -, hstate⟩ := lossTimers_forEach (f := fun k t => t.setLoss k .stopped (t.lossMark k))
      (x := fun _ => .stopped) (y := id) (s := s) (fun k t _ => rfl) ht hr (Nat.le_refl 12)
    rw [if_pos hn]
    refine ⟨honly, fun k hk => ?_, fun h => by omega⟩
    have hown := hstate k
    rw [if_pos hk] at hown
    rw [if_neg (by omega)]
    exact congrArg Prod.fst hown
  · let x (k : Nat) : LatchTimer :=
      if k < n ∧ s.climateLost k = true then .running (s.lineTime + s.line.climateLossLimit) else .stopped
    have hbody (k : Nat) (t : State) (honly : LossOnly s t) :
        (if k < n ∧ t.climateLost k = true then t.setLoss k (.running (t.lineTime + t.line.climateLossLimit)) false
          else t.setLoss k .stopped false) = t.setLoss k (x k) false := by
      have hlost : t.climateLost k = s.climateLost k := (congrArg (fun u => State.climateLost u k) honly.frame :)
      have htime : t.lineTime = s.lineTime := (congrArg State.lineTime honly.frame :)
      have hline : t.line = s.line := (congrArg State.line honly.frame :)
      rw [hlost, htime, hline]
      exact (apply_ite (fun z => t.setLoss k z false) _ _ _).symm
    obtain ⟨honly, -, -, hstate⟩ := lossTimers_forEach (x := x) (y := fun _ => false) hbody ht hr (Nat.le_refl 12)
    rw [if_neg hn]
    have hown {k : Nat} (hk : k < 12) := (hstate k).trans (if_pos hk)
    exact ⟨honly, fun k hk => congrArg Prod.fst (hown hk), fun _ k hk => congrArg Prod.snd (hown hk)⟩

/-! ## The zone count stored (R53, R57) -/

/-- With the station empty an evaluation of the chain controller leaves all but the step state and the stall timer. -/
theorem evaluateChain_of_empty {s : State} (hc : s.chain.station = none) :
    { evaluateChain s with chain := s.chain, discharge := s.discharge } = s ∧
    (s.chain.step? = none → (evaluateChain s).chain = { s.chain with stepState := .idle }) := by
  cases hst : s.chain.step? with
  | none =>
    rw [evaluateChain_of_still hst hc]
    exact ⟨rfl, fun _ => rfl⟩
  | some st =>
    rw [evaluateChain_of_stepping ((step?_eq_some_iff _ _).1 hst)]
    exact ⟨rfl, nofun⟩

/-- The state with the zone count stored, before the zones are configured. -/
def zoneCounted (n : Nat) (s : State) : State :=
  { s with canes := { s.canes with zoneCount := n, pExit := s.exitFor n } }

/-- What a zone count write makes of the zones, the queue and the timers, from `s` to `t`. -/
structure ZoneCountStored (n : Nat) (s t : State) : Prop where
  frame : { t with climate := s.climate, sequencer := s.sequencer, chain := s.chain, discharge := s.discharge,
                   port := s.port, handed := s.handed } = zoneCounted n s
  configured : ∀ k, k < n → t.zoneState k = s.configuredZone k (s.steppedFor (k + 1))
  stopped : ∀ k, n ≤ k → k < 12 → t.zoneState k = { s.zoneState k with airTimer := .stopped }
  stagger : t.climate.stagger = s.steppedFor n
  commands : ∀ k, k < n →
    ZoneCommandAmong s t (4 + k) (climateCommand s k (s.idleTemp k) (demandAgainst s k (s.idleHumidity k))) (2 * n) ∧
    ZoneCommandAmong s t (16 + k) (.airDir k .forward) (2 * n)
  untouched : n = 0 → t.port = s.port
  management : t.managementView = s.managementView
  idle : s.chain.step? = none → t.chain = { s.chain with stepState := .idle }
  timers : ∀ k, k < 12 → t.lossTimer k =
    if k < n ∧ s.climateLost k = true then .running (s.lineTime + s.line.climateLossLimit) else .stopped
  marks : 1 ≤ n → ∀ k, k < 12 → t.lossMark k = false
  sequencer : t.sequencer = { s.sequencer with
    lossTimers := t.sequencer.lossTimers, lossRaised := t.sequencer.lossRaised }

theorem zoneCountStored {n : Nat} {s : State} (hn : n ≤ 12) (hc : s.chain.station = none)
    (hz : s.climate.zones.length = 12) (ht : s.sequencer.lossTimers.length = 12)
    (hr : s.sequencer.lossRaised.length = 12) : ZoneCountStored n s (storeZoneCount n s) := by
  let w := forEach n configureZone (zoneCounted n s)
  have hrun : ZonesConfigured (2 * n) n (zoneCounted n s) w :=
    zonesConfigured_forEach (Nat.le_refl _) (by exact hz ▸ hn)
  have hwlen : w.climate.zones.length = 12 := hrun.length.trans hz
  let a := stopAirTimersFrom n w
  obtain ⟨haframe, hastagger, -, hazone⟩ := stopAirTimers_forEach (n := n) (s := w) (Nat.le_of_eq hwlen.symm)
  change { a with climate := w.climate } = w at haframe
  change a.climate.stagger = w.climate.stagger at hastagger
  change ∀ k, a.zoneState k = _ at hazone
  have haseq : a.sequencer = s.sequencer :=
    ((congrArg State.sequencer haframe :) : a.sequencer = w.sequencer).trans (congrArg State.sequencer hrun.frame :)
  let l := restartLossTimers n a
  obtain ⟨honly, htimers, hmarks⟩ := restartLossTimers_eq n (s := a) (haseq ▸ ht) (haseq ▸ hr)
  have hachain : a.chain = s.chain :=
    ((congrArg State.chain haframe :) : a.chain = w.chain).trans (congrArg State.chain hrun.frame :)
  have hlchain : l.chain = s.chain := ((congrArg State.chain honly.frame :) : l.chain = a.chain).trans hachain
  obtain ⟨heframe, heidle⟩ := evaluateChain_of_empty (s := l) (by rw [hlchain]; exact hc)
  have hstore : storeZoneCount n s = evaluateChain l := rfl
  have hport : (storeZoneCount n s).port = w.port :=
    ((congrArg State.port heframe :) : (storeZoneCount n s).port = l.port).trans
      (((congrArg State.port honly.frame :) : l.port = a.port).trans (congrArg State.port haframe :))
  have hclimate : (storeZoneCount n s).climate = a.climate :=
    ((congrArg State.climate heframe :) : (storeZoneCount n s).climate = l.climate).trans
      (congrArg State.climate honly.frame :)
  have hseq : (storeZoneCount n s).sequencer = l.sequencer := (congrArg State.sequencer heframe :)
  have hzone (k : Nat) : (storeZoneCount n s).zoneState k =
      if n ≤ k ∧ k < 12 then { w.zoneState k with airTimer := .stopped } else w.zoneState k := by
    rw [zoneState_congr (congrArg Climate.zones hclimate), hazone]
  have hsignals : a.signals = s.signals :=
    ((congrArg State.signals haframe :) : a.signals = w.signals).trans (congrArg State.signals hrun.frame :)
  have hline : a.lineTime = s.lineTime ∧ a.line = s.line :=
    ⟨((congrArg State.lineTime haframe :) : a.lineTime = w.lineTime).trans (congrArg State.lineTime hrun.frame :),
      ((congrArg State.line haframe :) : a.line = w.line).trans (congrArg State.line hrun.frame :)⟩
  have hlost (k : Nat) : a.climateLost k = s.climateLost k := by
    unfold State.climateLost State.isLost State.slot
    rw [hsignals]
  have among {role : Nat} {body : FrameBody} (h : ZoneCommandAmong (zoneCounted n s) w role body (2 * n)) :
      ZoneCommandAmong s (storeZoneCount n s) role body (2 * n) :=
    zoneCommandAmong_congr rfl (by rw [hport]) h
  refine ⟨?_, fun k hk => ?_, fun k hk hk12 => ?_, ?_, fun k hk => ⟨among (hrun.climate k hk), among (hrun.air k hk)⟩,
    fun h0 => ?_, ?_, fun hstill => ?_, fun k hk => ?_, fun h1 k hk => ?_, ?_⟩
  · let base (u : State) : State := { u with
      climate := s.climate, sequencer := s.sequencer, chain := s.chain, discharge := s.discharge, port := s.port,
      handed := s.handed }
    have he : base (evaluateChain l) = base l := (congrArg base heframe :)
    have hl : base l = base a := (congrArg base honly.frame :)
    have ha : base a = base w := (congrArg base haframe :)
    have hw : base w = zoneCounted n s := (congrArg base hrun.frame :)
    exact he.trans (hl.trans (ha.trans hw))
  · rw [hzone, if_neg (by omega)]
    exact hrun.zone k hk
  · rw [hzone, if_pos ⟨hk, hk12⟩, hrun.other k hk]
    rfl
  · rw [hclimate, hastagger]
    exact hrun.stagger
  · subst h0
    exact hport
  · exact (managementView_congr hport).trans hrun.management
  · rw [hstore, heidle (by rw [hlchain]; exact hstill), hlchain]
  · rw [State.lossTimer, hseq]
    refine (htimers k hk).trans ?_
    rw [hlost, hline.1, hline.2]
  · rw [State.lossMark, hseq]
    exact hmarks h1 k hk
  · rw [hseq, honly.sequencer, haseq]

/-- Settles O38: the checks in their order, and the zone count stored, with the response behind it. -/
theorem zoneCountConfiguresTheZones : Obligations.ZoneCountConfiguresTheZones := by
  intro s r n d count taken empty timed stepped joined hr hs hzones hz ht hm
  have hanswer := zoneCount_answer (n := n) (popDirective s) hr
  have refused {o : OutcomeCode} (h : writeZoneCount n.toNat (popDirective s) = refuse o (popDirective s)) :
      exec (.writeTableZoneCount r) s = .next (answered s d o [] id) :=
    congrArg _ (runDirective_refuse hs (hanswer.trans h))
  have hmode : taken ↔ ¬ LineMode.allowsRewiring s.sequencer.mode = false := by
    rw [Bool.not_eq_false]
    exact (allowsRewiring_iff _).symm
  have hempty : empty ↔ ¬ s.holdsRecords = true := by
    rw [Bool.not_eq_true]
    exact (holdsRecords_eq_false_iff s).symm
  have hjoined (hle : count ≤ 12) : joined ↔ contiguousFrom 0 (s.canes.zones.take count) = true :=
    (contiguousFrom_take_iff hle hzones).symm
  refine ⟨fun hnot => refused ?_, fun htaken hmany => refused ?_, fun htaken hle hfull => refused ?_,
    fun htaken hle hnone hnot => refused ?_, fun htaken hle hnone hjoin => ?_⟩
  · exact if_pos (not_not.1 fun h => hnot (hmode.2 h))
  · exact (if_neg (hmode.1 htaken)).trans (if_pos hmany)
  · exact (if_neg (hmode.1 htaken)).trans ((if_neg (Nat.not_lt.2 hle)).trans
      (if_pos (not_not.1 fun h => hfull (hempty.2 h))))
  · exact (if_neg (hmode.1 htaken)).trans ((if_neg (Nat.not_lt.2 hle)).trans ((if_neg (hempty.1 hnone)).trans
      (if_neg fun h => hnot ((hjoined hle).2 h))))
  · have hdone : writeZoneCount n.toNat (popDirective s) = doneWith [] (storeZoneCount count (popDirective s)) :=
      (if_neg (hmode.1 htaken)).trans ((if_neg (Nat.not_lt.2 hle)).trans ((if_neg (hempty.1 hnone)).trans
        (if_pos ((hjoined hle).1 hjoin))))
    have hstored := zoneCountStored (s := popDirective s) hle hnone.1 hz ht hm
    have hview : (storeZoneCount count (popDirective s)).managementView = s.managementView := hstored.management
    obtain ⟨hmanagement, hrest⟩ := Prod.mk.inj hview
    obtain ⟨hfill, hsilent⟩ := Prod.mk.inj hrest
    have hexec : exec (.writeTableZoneCount r) s = .next (answered s d .done [] (storeZoneCount count)) :=
      congrArg _ (runDirective_answered (startable_of_starts hs) (hanswer.trans hdone) (hsilent.trans hs.2.2)
        (Nat.lt_of_le_of_lt (Nat.le_of_eq hfill) hs.2.1))
    have among {role : Nat} {body : FrameBody}
        (h : ZoneCommandAmong (popDirective s) (storeZoneCount count (popDirective s)) role body (2 * count)) :
        ZoneCommandAmong s (answered s d .done [] (storeZoneCount count)) role body (2 * count) := h
    refine ⟨_, hexec, (congrArg State.canes hstored.frame :), fun k hk => ?_, hstored.stagger, fun h0 => ?_,
      hstored.idle, hstored.stopped, fun k hk => ?_, hstored.marks, hstored.sequencer, ?_, ?_⟩
    · exact ⟨hstored.configured k hk, among (hstored.commands k hk).1, among (hstored.commands k hk).2⟩
    · exact (congrArg Port.routine (hstored.untouched h0) :)
    · exact (hstored.timers k hk).trans (if_congr (and_congr_right' (Bool.or_eq_true ..).to_iff) rfl rfl)
    · exact (congrArg (fun u : State => { u with canes := s.canes, agent := s.agent }) hstored.frame :)
    · exact congrArg (· ++ _) hmanagement

end Sys2Proof.Machine
end

section
/-!
SUPPORT. The ranges of the moisture figures and of the correction (R37, R85): what they are figures of, and for every
shared operation that it keeps them in range.
-/

namespace Sys2Proof.Machine

/-! ## The figures -/

/-- What the two laws read of a state: the lot slots with their initial moistures, the records in their three places,
the equilibrium moistures, and c. -/
structure Figures where
  slots : List LotSlot
  station : Option Cane
  records : List Cane
  entries : List DischargeEntry
  meq : List Nat
  correction : Int

/-- The figures of a state. -/
def State.figures (s : State) : Figures :=
  { slots := s.lots.slots, station := s.chain.station, records := s.canes.records, entries := s.discharge.entries,
    meq := s.drying.meq, correction := s.pacer.correction }

/-- The figures are read from six items. -/
theorem figures_congr {s t : State} (hl : t.lots = s.lots) (hst : t.chain.station = s.chain.station)
    (hr : t.canes.records = s.canes.records) (he : t.discharge.entries = s.discharge.entries)
    (hm : t.drying.meq = s.drying.meq) (hc : t.pacer.correction = s.pacer.correction) : t.figures = s.figures := by
  rw [State.figures, State.figures, hl, hst, hr, he, hm, hc]

/-- A record's estimate, if it has one, is in range (R85). -/
def Cane.Moist (c : Cane) : Prop := ∀ p, c.product = some p → p.moisture ≤ 9999

/-- The moisture law place by place. -/
structure MoistByPlace (s : State) : Prop where
  station : ∀ c, s.chain.station = some c → c.Moist
  records : ∀ c ∈ s.canes.records, c.Moist
  entries : ∀ e ∈ s.discharge.entries, e.product.moisture ≤ 9999
  meq : ∀ m ∈ s.drying.meq, m ≤ 9999
  slots : ∀ l ∈ s.lots.slots, l.header.initialMoisture ≤ 9999

theorem moistureLaw_iff (s : State) : MoistureLaw s ↔ MoistByPlace s := by
  have hproducts : (∀ p ∈ s.products, p.moisture ≤ 9999) ↔
      (∀ c, s.chain.station = some c → c.Moist) ∧ (∀ c ∈ s.canes.records, c.Moist) ∧
      ∀ e ∈ s.discharge.entries, e.product.moisture ≤ 9999 := by
    simp only [State.products, List.mem_append, List.mem_filterMap, List.mem_map, Option.mem_toList, Cane.Moist]
    grind
  rw [MoistureLaw, hproducts]
  exact ⟨fun ⟨⟨h1, h2, h3⟩, h4, h5⟩ => ⟨h1, h2, h3, h4, h5⟩, fun ⟨h1, h2, h3, h4, h5⟩ => ⟨⟨h1, h2, h3⟩, h4, h5⟩⟩

/-- A slot's initial moisture is in range; a slot outside the table is a cleared one. -/
theorem MoistByPlace.lotSlot {s : State} (h : MoistByPlace s) (i : Nat) :
    (s.lotSlot i).header.initialMoisture ≤ 9999 := by
  by_cases hi : i < s.lots.slots.length
  · rw [State.lotSlot, List.getD_eq_getElem _ _ hi]
    exact h.slots _ (List.getElem_mem hi)
  · rw [lotSlot_of_length_le (Nat.le_of_not_lt hi)]
    exact Nat.zero_le _

/-- From `s` to `t` the figures stay in range (R37, R85). -/
def State.StaysInRange (s t : State) : Prop := (MoistureLaw s → MoistureLaw t) ∧ (CorrectionLaw s → CorrectionLaw t)

namespace State.StaysInRange

theorem refl (s : State) : s.StaysInRange s := ⟨id, id⟩

theorem trans {s t u : State} (h : s.StaysInRange t) (k : t.StaysInRange u) : s.StaysInRange u :=
  ⟨k.1 ∘ h.1, k.2 ∘ h.2⟩

/-- A state that leaves c keeps the ranges when it keeps the moisture law place by place. -/
theorem of_moist {s t : State} (hm : MoistByPlace s → MoistByPlace t)
    (hc : t.pacer.correction = s.pacer.correction) : s.StaysInRange t :=
  ⟨by rwa [moistureLaw_iff, moistureLaw_iff], by rw [CorrectionLaw, CorrectionLaw, hc]; exact id⟩

/-- A state with the same figures keeps them in range. -/
theorem of_eq {s t : State} (h : t.figures = s.figures) : s.StaysInRange t := by
  obtain ⟨hl, hst, hr, he, hm, hc⟩ := Figures.mk.inj h
  refine of_moist (fun hs => ⟨?_, ?_, ?_, ?_, ?_⟩) hc
  · rw [hst]; exact hs.station
  · rw [hr]; exact hs.records
  · rw [he]; exact hs.entries
  · rw [hm]; exact hs.meq
  · rw [hl]; exact hs.slots

/-- A fold of operations that keep the ranges keeps them. -/
theorem foldl {β : Type} {f : State → β → State} (h : ∀ (u : State) (b : β), u.StaysInRange (f u b)) (bs : List β)
    (s : State) : s.StaysInRange (bs.foldl f s) := by
  induction bs generalizing s with
  | nil => exact refl s
  | cons b bs ih => exact (h s b).trans (ih _)

/-- An operation made on a condition keeps what the operation keeps. -/
theorem ite {c : Prop} [Decidable c] {s t : State} (h : s.StaysInRange t) : s.StaysInRange (if c then t else s) := by
  split
  · exact h
  · exact refl s

end State.StaysInRange

/-! ## Operations that leave the figures -/

@[simp] theorem State.hand_figures (s : State) (e : Instr) : (s.hand e).figures = s.figures := rfl

@[simp] theorem State.took_figures (s : State) (e : Instr) : (s.took e).figures = s.figures := rfl

@[simp] theorem State.setPort_figures (s : State) (p : Port) : (s.setPort p).figures = s.figures := rfl

@[simp] theorem State.setSequencer_figures (s : State) (q : Sequencer) : (s.setSequencer q).figures = s.figures := rfl

@[simp] theorem State.setSlot_figures (s : State) (r : Nat) (x : Slot) : (s.setSlot r x).figures = s.figures := rfl

@[simp] theorem State.setZone_figures (s : State) (k : Nat) (z : ZoneState) : (s.setZone k z).figures = s.figures := rfl

@[simp] theorem State.setLoss_figures (s : State) (k : Nat) (t : LatchTimer) (m : Bool) :
    (s.setLoss k t m).figures = s.figures := rfl

@[simp] theorem setStepState_figures (st : StepState) (s : State) : (setStepState st s).figures = s.figures := rfl

@[simp] theorem handFrame_figures (dest : Nat) (body : FrameBody) (s : State) :
    (handFrame dest body s).figures = s.figures := by simp [State.figures]

@[simp] theorem queueReport_figures (r : Report) (s : State) : (queueReport r s).figures = s.figures := by
  simp [State.figures]

@[simp] theorem queuePressCommand_figures (s : State) : (queuePressCommand s).figures = s.figures := by
  simp [State.figures]

@[simp] theorem enterModeCore_figures (m : LineMode) (r : ModeReason) (c : Option FaultCode) (s : State) :
    (enterModeCore m r c s).figures = s.figures := by simp [State.figures]

@[simp] theorem raiseFault_figures (c : FaultCode) (d : Nat) (s : State) : (raiseFault c d s).figures = s.figures := by
  simp [State.figures]

@[simp] theorem speedLostTest_figures (s : State) : (speedLostTest s).figures = s.figures := by simp [State.figures]

@[simp] theorem refreshDemand_figures (k : Nat) (s : State) : (refreshDemand k s).figures = s.figures := by
  simp [State.figures]

@[simp] theorem queueAirDir_figures (k : Nat) (s : State) : (queueAirDir k s).figures = s.figures := by
  simp [State.figures]

@[simp] theorem startAirTimer_figures (k : Nat) (s : State) : (startAirTimer k s).figures = s.figures := by
  simp [State.figures]

@[simp] theorem climateSlotLost_figures (k : Nat) (s : State) : (climateSlotLost k s).figures = s.figures := by
  simp [State.figures]

@[simp] theorem climateSlotBack_figures (k : Nat) (s : State) : (climateSlotBack k s).figures = s.figures := by
  simp [State.figures]

@[simp] theorem climateCheck_figures (s : State) : (climateCheck s).figures = s.figures := by simp [State.figures]

@[simp] theorem reportLoss_figures (role : Nat) (s : State) : (reportLoss role s).figures = s.figures := by
  rw [reportLoss]
  split
  · exact speedLostTest_figures _
  split
  · rfl
  split
  · exact climateSlotLost_figures _ s
  split
  · rw [climateSlotLost_figures]; split <;> simp
  · rfl

@[simp] theorem makeLost_figures (role : Nat) (s : State) : (makeLost role s).figures = s.figures := by
  rcases makeLost_cases role s with ⟨-, h⟩ | ⟨-, h⟩ <;> simp [h]

/-- An evaluation of the pacer changes of the pacer its state only (R30, R31). -/
@[simp] theorem evaluateFire_figures (s : State) : (evaluateFire s).figures = s.figures := by
  rcases evaluateFire_cases s with h | ⟨-, h | h | ⟨target, dest, -, -, -, -, h⟩⟩ <;> rw [h]
  · rfl
  · rfl
  · simp [sendFire, State.figures]

@[simp] theorem evaluateChain_figures (s : State) : (evaluateChain s).figures = s.figures :=
  figures_congr (by simp) (evaluateChain_places s).1 (by simp) (evaluateChain_places s).2 (by simp) (by simp)

/-! ## The lots (R2, R6, R12 to R17) -/

/-- A slot written with an initial moisture in range keeps the ranges. -/
theorem setLot_inRange {s : State} {i : Nat} {l : LotSlot}
    (h : MoistByPlace s → l.header.initialMoisture ≤ 9999) : s.StaysInRange (s.setLot i l) := by
  refine .of_moist (fun hs => { hs with slots := fun x hx => ?_ }) rfl
  rcases List.mem_or_eq_of_mem_set hx with hx | rfl
  · exact hs.slots x hx
  · exact h hs

/-- A slot written with the header that it has keeps the ranges. -/
theorem setLot_same_header_inRange {s : State} {i : Nat} {l : LotSlot} (h : l.header = (s.lotSlot i).header) :
    s.StaysInRange (s.setLot i l) := setLot_inRange fun hs => by rw [h]; exact hs.lotSlot i

theorem freeIfRetired_inRange (i : Nat) (s : State) : s.StaysInRange (freeIfRetired i s) := by
  rcases freeIfRetired_cases i s with ⟨-, -, h⟩ | ⟨-, h⟩ <;> rw [h]
  · have cleared : s.StaysInRange (s.setLot i .cleared) := setLot_inRange fun _ => Nat.zero_le _
    exact cleared.trans (.of_eq (queueReport_figures _ _))
  · exact .refl s

/-- A slot that keeps its header and is then freed if need be keeps the ranges. -/
theorem setLot_freed_inRange {s : State} {i : Nat} {l : LotSlot} (h : l.header = (s.lotSlot i).header) :
    s.StaysInRange (freeIfRetired i (s.setLot i l)) := by
  have written : s.StaysInRange (s.setLot i l) := setLot_same_header_inRange h
  exact written.trans (freeIfRetired_inRange i _)

theorem releaseRef_inRange (i : Nat) (s : State) : s.StaysInRange (releaseRef i s) := by
  rw [releaseRef]
  exact setLot_freed_inRange rfl

theorem activateArmed_inRange (s : State) : s.StaysInRange (activateArmed s) := by
  rw [activateArmed]
  split
  case h_1 a _ _ =>
    exact (setLot_same_header_inRange (i := a) (l := { s.lotSlot a with life := .active }) rfl).trans (.of_eq rfl)
  case h_2 => exact .refl s

theorem switchLots_inRange (old new : Nat) (s : State) : s.StaysInRange (switchLots old new s) := by
  let u := freeIfRetired old (s.setLot old { s.lotSlot old with life := .retiring })
  have retired : s.StaysInRange u := setLot_freed_inRange rfl
  have activated : u.StaysInRange (u.setLot new { u.lotSlot new with life := .active }) :=
    setLot_same_header_inRange rfl
  exact retired.trans (activated.trans (.of_eq rfl))

theorem switchTest_inRange (s : State) : s.StaysInRange (switchTest s) := by
  rw [switchTest]
  split
  · exact .ite (switchLots_inRange _ _ s)
  · exact .refl s

/-- An entry to RUNNING activates the armed slot; every other entry leaves the figures (R12, R128). -/
theorem enterMode_inRange (m : LineMode) (r : ModeReason) (s : State) : s.StaysInRange (enterMode m r s) := by
  have core : s.StaysInRange (enterModeCore m r none s) := .of_eq (enterModeCore_figures _ _ _ s)
  unfold enterMode
  cases m with
  | running => exact core.trans ((activateArmed_inRange _).trans (.of_eq rfl))
  | priming => exact core.trans (.of_eq (speedLostTest_figures _))
  | stopped => exact core
  | holding => exact core
  | draining => exact core
  | safe => exact core

/-- The line emptied holds no estimate, and the slots freed have none either (R16, R17, R70). -/
theorem lineEmptied_inRange (s : State) : s.StaysInRange (lineEmptied s) := by
  have cleared : s.StaysInRange (clearRefs (emptyPlaces s)) := by
    refine .of_moist (fun hs => ⟨nofun, nofun, nofun, hs.meq, fun l hl => ?_⟩) rfl
    obtain ⟨x, hx, rfl⟩ := List.mem_map.1 hl
    exact hs.slots x hx
  rw [lineEmptied_eq]
  exact cleared.trans (.foldl (fun u k => freeIfRetired_inRange k u) _ _)

theorem clearLine_inRange (s : State) : s.StaysInRange (clearLine s) := by
  have hclear : clearLine s = evaluateFire (evaluateChain (lineEmptied s)) := by rw [lineEmptied_eq]; rfl
  rw [hclear]
  exact (lineEmptied_inRange s).trans (.of_eq ((evaluateFire_figures _).trans (evaluateChain_figures _)))

/-! ## The loading station (R36, R67) -/

/-- A record placed with its estimate in range keeps the ranges. -/
theorem placeRecord_inRange {s u : State} {product : Option Product} (hu : s.StaysInRange u)
    (h : MoistByPlace s → ∀ p, product = some p → p.moisture ≤ 9999) : s.StaysInRange (placeRecord product u) := by
  refine State.StaysInRange.trans (t := stationed product u) ⟨fun hs => ?_, hu.2⟩ (.of_eq (evaluateChain_figures _))
  have hlaw := (moistureLaw_iff u).1 (hu.1 hs)
  rw [moistureLaw_iff] at hs ⊢
  exact { hlaw with station := fun c hc => Option.some.inj hc ▸ h hs }

theorem tryInsertion_inRange (s : State) : s.StaysInRange (tryInsertion s) := by
  rcases tryInsertion_cases s with ⟨-, h⟩ | ⟨-, h⟩ <;> rw [h]
  · exact placeRecord_inRange (.of_eq rfl) fun _ _ => nofun
  · exact .refl s

/-! ## The pacer's rows (R24 to R45) -/

theorem afterFireEnd_inRange (s : State) : s.StaysInRange (afterFireEnd s) :=
  .trans (.of_eq (evaluateFire_figures (setPacerState s.restState s))) (tryInsertion_inRange _)

theorem miss_inRange (s : State) : s.StaysInRange (miss s) := by
  rw [miss_eq]
  refine State.StaysInRange.trans (.of_eq ?_) (afterFireEnd_inRange _)
  rw [missCounted]
  split <;> rfl

theorem takeFireOutcome_inRange (n : Nat) (o : FrameOutcome) (s : State) :
    s.StaysInRange (takeFireOutcome n o s) := by
  rw [takeFireOutcome]
  split
  · exact .refl s
  split
  · exact .refl s
  split
  · split
    · exact .refl s
    · exact .of_eq rfl
  · exact miss_inRange s
  · exact miss_inRange s

theorem cancelFire_inRange (s : State) : s.StaysInRange (cancelFire s) := by
  rw [cancelFire]
  split
  · exact .trans (.of_eq rfl) (afterFireEnd_inRange (s.setPacer { s.pacer with knifeTimer := .stopped }))
  · exact .refl s

@[simp] theorem settleWatch_figures (v : Nat) (s : State) : (settleWatch v s).figures = s.figures := by
  rw [settleWatch]; split <;> rfl

@[simp] theorem overlengthCheck_figures (s : State) : (overlengthCheck s).figures = s.figures := by
  rw [overlengthCheck]; split <;> rfl

@[simp] theorem takeSpeed_figures (v tick : Nat) (s : State) : (takeSpeed v tick s).figures = s.figures := by
  rw [takeSpeed]
  split
  · rw [settleWatch_figures]; rfl
  · rw [evaluateFire_figures, settleWatch_figures, overlengthCheck_figures]; rfl

@[simp] theorem pacerFollowsMode_figures (new : LineMode) (s : State) :
    (pacerFollowsMode new s).figures = s.figures := by
  rw [pacerFollowsMode]
  split
  · rw [evaluateFire_figures]; split <;> rfl
  · split <;> rfl

@[simp] theorem settleModeChange_figures (old new : LineMode) (s : State) :
    (settleModeChange old new s).figures = s.figures := by
  rw [settleModeChange]; (repeat' split) <;> rfl

/-- c is clamped (R37). -/
theorem nextCorrection_inRange (c : Int) (length target : Nat) :
    -20000 ≤ nextCorrection c length target ∧ nextCorrection c length target ≤ 20000 := by
  simp only [nextCorrection, clamp]
  split <;> try split
  all_goals omega

/-- A HANG cut's record starts at its lot's initial moisture (R36). -/
theorem hangCane_inRange (length : Nat) (s : State) : s.StaysInRange (hangCane length s) := by
  rw [hangCane]
  split
  case h_1 i _ =>
    exact placeRecord_inRange (setLot_same_header_inRange rfl) fun hs p hp => Option.some.inj hp ▸ hs.lotSlot i
  case h_2 => exact .refl s

/-- A HANG cut sets c within its range; the other dispositions leave it (R36, R37, R38). -/
theorem handOverCut_inRange (f : Fire) (length : Nat) (s : State) : s.StaysInRange (handOverCut f length s) := by
  rw [handOverCut]
  split
  · exact ⟨(hangCane_inRange length s).1, fun _ => nextCorrection_inRange _ _ _⟩
  · exact (placeRecord_inRange (product := none) (.refl s) fun _ _ => nofun).trans (.of_eq rfl)
  · exact .of_eq rfl

theorem completeCut_inRange (f : Fire) (s : State) : s.StaysInRange (completeCut f s) := by
  let closed := s.setPacer (s.pacer.closeCurtain f.kind)
  have hclosed : s.StaysInRange closed := .of_eq (by cases h : f.kind <;> simp [closed, h] <;> rfl)
  have handed : closed.StaysInRange (cutHandled f s) := (handOverCut_inRange f _ closed).trans (.of_eq rfl)
  rw [completeCut_eq]
  exact hclosed.trans (handed.trans ((switchTest_inRange _).trans (afterFireEnd_inRange _)))

@[simp] theorem unexpectedCuts_figures (n : Nat) (s : State) : (unexpectedCuts n s).figures = s.figures := by
  rw [unexpectedCuts_eq, evaluateFire_figures, queueReport_figures]
  rfl

theorem takeKnifeCount_inRange (n : Nat) (s : State) : s.StaysInRange (takeKnifeCount n s) := by
  rw [takeKnifeCount]
  split
  · exact .refl s
  split
  · split
    · exact completeCut_inRange _ s
    · exact (completeCut_inRange _ s).trans (.of_eq (unexpectedCuts_figures _ _))
  · exact .of_eq (unexpectedCuts_figures n s)

end Sys2Proof.Machine
end

section
/-!
SUPPORT. The figures through every other row, and the obligation that they stay in range.
-/

namespace Sys2Proof.Machine

/-! ## The chain controller's rows (R59 to R72) -/

theorem afterStepEnd_inRange (s : State) : s.StaysInRange (afterStepEnd s) :=
  .trans (.of_eq (evaluateFire_figures s)) (tryInsertion_inRange _)

theorem failStep_inRange (d : Nat) (s : State) : s.StaysInRange (failStep d s) :=
  .trans (.of_eq rfl) (afterStepEnd_inRange
    (State.hand (setStepState .idle (s.setChain { s.chain with recommands := 0, stepTimer := .stopped }))
      (.faultRaise .chainTimeout d)))

@[simp] theorem recommandStep_figures (st : StepInFlight) (s : State) : (recommandStep st s).figures = s.figures := by
  rw [recommandStep]
  split
  · rw [setStepState_figures, handFrame_figures]; rfl
  · rfl

theorem takeStepOutcome_inRange (n : Nat) (o : FrameOutcome) (s : State) :
    s.StaysInRange (takeStepOutcome n o s) := by
  rw [takeStepOutcome]
  split
  · exact .refl s
  split
  · exact .refl s
  split
  · split
    · exact .refl s
    · exact .of_eq rfl
  split
  · exact .of_eq (recommandStep_figures _ s)
  · exact failStep_inRange 1 s

/-- The station's record keeps its estimate when it joins the queue (R61). -/
theorem stationJoins_inRange (s : State) : s.StaysInRange (stationJoins s) := by
  rw [stationJoins]
  split
  case h_1 c hc =>
    refine .of_moist (fun hs => { hs with station := nofun, records := fun x hx => ?_ }) rfl
    rcases List.mem_append.1 hx with hx | hx
    · exact hs.records x hx
    · exact List.mem_singleton.1 hx ▸ hs.station c hc
  case h_2 => exact .refl s

/-- The head that must leave is a record of the queue (R61). -/
theorem departingHead_mem {q : CaneQueue} {c : Cane} (h : departingHead q = some c) : c ∈ q.records := by
  rw [departingHead] at h
  split at h
  · split at h
    · exact List.mem_of_head? h
    · cases h
  · cases h

/-- A head that leaves takes its estimate to the discharge queue (R62, R113). -/
theorem departHead_inRange {c : Cane} {s : State} (h : c ∈ s.canes.records) : s.StaysInRange (departHead c s) := by
  rw [departHead]
  split
  case h_1 p hp =>
    refine .of_moist (fun hs => { hs with
      records := fun x hx => hs.records x (List.mem_of_mem_tail hx), entries := fun e he => ?_ }) rfl
    rcases List.mem_append.1 he with he | he
    · exact hs.entries e he
    · exact List.mem_singleton.1 he ▸ hs.records c h p hp
  case h_2 =>
    exact .of_moist (fun hs => { hs with records := fun x hx => hs.records x (List.mem_of_mem_tail hx) }) rfl

theorem reportDeparture_inRange (d : Option Cane) (s : State) : s.StaysInRange (reportDeparture d s) := by
  cases d with
  | none => exact .refl s
  | some c => exact .ite (enterMode_inRange _ _ s)

/-- Records that move keep their estimates, and one may leave (R61, R62). -/
theorem recordsMoved_inRange (s : State) : s.StaysInRange (recordsMoved s) := by
  rw [recordsMoved]
  split
  case h_1 c hc => exact (stationJoins_inRange s).trans (departHead_inRange (departingHead_mem hc))
  case h_2 => exact stationJoins_inRange s

@[simp] theorem endStep_figures (s : State) : (endStep s).figures = s.figures := by
  rw [endStep]; split <;> rfl

theorem stepDone_inRange (s : State) : s.StaysInRange (stepDone s) := by
  have ended : s.StaysInRange (endStep (recordsMoved s)) :=
    (recordsMoved_inRange s).trans (.of_eq (endStep_figures _))
  rw [stepDone_eq]
  exact ended.trans ((afterStepEnd_inRange _).trans
    ((reportDeparture_inRange _ _).trans (.of_eq (climateCheck_figures _))))

theorem takeChainCount_inRange (n : Nat) (s : State) : s.StaysInRange (takeChainCount n s) := by
  rw [takeChainCount]
  split
  · exact .refl s
  split
  · split
    · exact stepDone_inRange s
    · exact (stepDone_inRange s).trans (.of_eq rfl)
  · exact .of_eq rfl

@[simp] theorem indexEvent_figures (s : State) : (indexEvent s).figures = s.figures := by
  rw [indexEvent]; split <;> rfl

@[simp] theorem drainModeChange_figures (old new : LineMode) (s : State) :
    (drainModeChange old new s).figures = s.figures := by
  rw [drainModeChange]; (repeat' split) <;> rfl

/-! ## The discharge unit (R117 to R120) -/

@[simp] theorem orderHead_figures (s : State) : (orderHead s).figures = s.figures := by
  rw [orderHead]
  split
  · split
    · exact handFrame_figures _ _ s
    · rfl
  · rfl

/-- A withdrawn order decides its entry again and keeps its record (R118). -/
theorem takeOrderOutcome_inRange (q : Nat) (o : FrameOutcome) (s : State) :
    s.StaysInRange (takeOrderOutcome q o s) := by
  rw [takeOrderOutcome]
  split
  case h_1 e rest he =>
    refine .ite (.of_moist (fun hs => ?_) rfl)
    have hentries := hs.entries
    rw [he, List.forall_mem_cons] at hentries
    exact { hs with entries := List.forall_mem_cons.2 hentries }
  case h_2 => exact .refl s

@[simp] theorem strayEvents_figures (n : Nat) (s : State) : (strayEvents n s).figures = s.figures :=
  queueReport_figures _ s

/-- A completed head leaves the discharge queue (R119). -/
theorem completeHead_inRange {e : DischargeEntry} {rest : List DischargeEntry} {s : State}
    (h : s.discharge.entries = e :: rest) : s.StaysInRange (completeHead e rest s) := by
  have gone : s.StaysInRange (headGone e rest s) := by
    have reported : s.StaysInRange (queueReport (.caneOut e (s.lotSlot e.product.lot).header.lotNumber) s) :=
      .of_eq (queueReport_figures _ s)
    refine reported.trans (.of_moist (fun hs => { hs with entries := fun x hx => ?_ }) rfl)
    have hx : x ∈ rest := (completed_fields e rest s.discharge).1 ▸ hx
    exact hs.entries x (by rw [queueReport_discharge, h]; exact List.mem_cons_of_mem e hx)
  rw [completeHead_eq]
  exact gone.trans ((releaseRef_inRange _ _).trans (.of_eq (evaluateChain_figures _)))

theorem takeStripperCount_inRange (n : Nat) (s : State) : s.StaysInRange (takeStripperCount n s) := by
  rw [takeStripperCount]
  split
  · exact .refl s
  split
  case h_1 e rest he =>
    split
    · split
      · exact completeHead_inRange he
      · exact (completeHead_inRange he).trans (.of_eq (strayEvents_figures _ _))
    · exact .of_eq (strayEvents_figures n s)
  case h_2 => exact .of_eq (strayEvents_figures n s)

/-! ## Visits and marks (R68, R83 to R89, R116) -/

/-- An estimate stands or is set to at most 9,999 (R85 step 8). -/
theorem newMoisture_le {m : Nat} (meq frac : Nat) (h : m ≤ 9999) : newMoisture m meq frac ≤ 9999 := by
  rw [newMoisture]
  split
  · exact Nat.min_le_right _ _
  split
  · exact Nat.min_le_right _ _
  · exact h

@[simp] theorem overrunTest_moisture (time : Nat) (g : Stage) (p : Product) :
    (overrunTest time g p).moisture = p.moisture := by rw [overrunTest]; split <;> rfl

@[simp] theorem advanceTest_moisture (time : Nat) (gs : List Stage) (p : Product) :
    (advanceTest time gs p).moisture = p.moisture := by rw [advanceTest]; split <;> rfl

@[simp] theorem excursionTest_moisture (x : Excursion) (g : Stage) (p : Product) :
    (excursionTest x g p).moisture = p.moisture := by rw [excursionTest]; split <;> rfl

/-- A visit in a known climate leaves the estimate in range: only the update writes it (R85 to R89). -/
theorem knownVisit_moisture_le {p : Product} (s : State) (time k : Nat) (temp rh : Int) (h : p.moisture ≤ 9999) :
    (knownVisit s time k temp rh p).moisture ≤ 9999 := by
  simp only [knownVisit, excursionTest_moisture, overrunTest_moisture, advanceTest_moisture]
  exact newMoisture_le _ _ h

/-- A visit without a climate leaves the estimate (R84). -/
@[simp] theorem unknownVisit_moisture (s : State) (time : Nat) (p : Product) :
    (unknownVisit s time p).moisture = p.moisture := by simp [unknownVisit]

@[simp] theorem reportExcursion_figures (p q : Product) (n : Nat) (s : State) :
    (reportExcursion p q n s).figures = s.figures := by
  rw [reportExcursion]; split <;> simp

/-- A visited record replaced by one with its estimate in range keeps the ranges. -/
theorem setProduct_inRange {s : State} {pos : Nat} {c : Cane} {p q : Product} (hc : s.canes.at? pos = some c)
    (hp : c.product = some p) (hq : p.moisture ≤ 9999 → q.moisture ≤ 9999) : s.StaysInRange (s.setProduct pos c q) := by
  have hsize : pos < s.canes.records.length := (at?_eq_some hc).2.1
  refine .of_moist (fun hs => { hs with records := fun x hx => ?_ }) rfl
  simp only [State.setProduct, CaneQueue.setAt, hsize, if_true] at hx
  rcases List.mem_or_eq_of_mem_set hx with hx | rfl
  · exact hs.records x hx
  · intro r hr
    exact Option.some.inj hr ▸ hq (hs.records c (at?_mem hc) p hp)

/-- A number taken by the sweep changes at most the record it names (R80). -/
theorem takeNumber_inRange (w : Sweep) (n : Nat) (s : State) : s.StaysInRange (takeNumber w n s) := by
  simp only [takeNumber]
  split
  case h_1 => exact .of_eq rfl
  case h_2 pos _ =>
    split
    case h_1 => exact .of_eq rfl
    case h_2 c hc =>
      split
      case h_1 => exact .of_eq rfl
      case h_2 p hp =>
        rw [visitProduct]
        split
        case h_1 k temp rh _ =>
          have visited : s.StaysInRange (s.setProduct pos c (knownVisit s w.time k temp rh p)) :=
            setProduct_inRange hc hp (knownVisit_moisture_le s _ _ _ _)
          exact visited.trans (.of_eq (reportExcursion_figures _ _ _ _))
        case h_2 =>
          have visited : s.StaysInRange (s.setProduct pos c (unknownVisit s w.time p)) :=
            setProduct_inRange hc hp fun h => (unknownVisit_moisture s _ p).symm ▸ h
          exact visited.trans (.of_eq rfl)

/-- A mark keeps a record's estimate (R68). -/
theorem Cane.Moist.marked {c : Cane} (h : c.Moist) (m : CaneMark) (first last : Nat) :
    (c.marked m first last).Moist := by
  rw [Cane.marked]
  split
  · intro q hq
    obtain ⟨p, hp, rfl⟩ := Option.map_eq_some_iff.1 hq
    cases m <;> exact h p hp
  · exact h

/-- A mark keeps the estimates of the discharge queue (R116). -/
theorem markEntries_moistures (s : State) (m : CaneMark) (first last : Nat) (ordered : Bool)
    (es : List DischargeEntry) :
    (markEntries s m first last ordered es).map (fun e => e.product.moisture) =
      es.map (fun e => e.product.moisture) := by
  induction es generalizing ordered with
  | nil => rfl
  | cons e es ih =>
    rw [markEntries, List.map_cons, List.map_cons, ih]
    congr 1
    split
    · cases ordered <;> cases m <;> rfl
    · rfl

theorem markRecords_inRange (m : CaneMark) (first last : Nat) (s : State) :
    s.StaysInRange (markRecords m first last s) := by
  refine .of_moist (fun hs => { hs with station := fun c hc => ?_, records := fun c hc => ?_, entries := ?_ }) rfl
  · obtain ⟨x, hx, rfl⟩ := Option.map_eq_some_iff.1 hc
    exact (hs.station x hx).marked m first last
  · obtain ⟨x, hx, rfl⟩ := List.mem_map.1 hc
    exact (hs.records x hx).marked m first last
  · have hmoist : ∀ n ∈ s.discharge.entries.map (fun e => e.product.moisture), n ≤ 9999 :=
      List.forall_mem_map.2 hs.entries
    rw [← markEntries_moistures s m first last s.discharge.orderOutstanding] at hmoist
    exact List.forall_mem_map.1 hmoist

/-! ## Sweeps and zones -/

@[simp] theorem deriveClimate_figures (s : State) : (deriveClimate s).figures = s.figures :=
  forEach_keeps State.figures _ (fun k t => by simp [deriveZone, State.setSetpoints]) _ s

@[simp] theorem closeSweep_figures (w : Sweep) (s : State) : (closeSweep w s).figures = s.figures := by
  rw [closeSweep, climateCheck_figures]
  exact deriveClimate_figures s

@[simp] theorem startSweep_figures (s : State) : (startSweep s).figures = s.figures := rfl

@[simp] theorem startAndCloseEmpty_figures (s : State) : (startAndCloseEmpty s).figures = s.figures := by
  simp only [startAndCloseEmpty]
  (repeat' split) <;> simp

@[simp] theorem finishSweep_figures (w : Sweep) (s : State) : (finishSweep w s).figures = s.figures := by
  simp only [finishSweep]
  split
  · rw [startAndCloseEmpty_figures]; exact closeSweep_figures w s
  · exact closeSweep_figures w s

@[simp] theorem onSweepExpiry_figures (s : State) : (onSweepExpiry s).figures = s.figures := by
  simp only [onSweepExpiry]
  split
  · rfl
  split
  · split
    · exact finishSweep_figures _ (startSweep s)
    · rfl
  · rfl

@[simp] theorem configureZones_figures (n : Nat) (s : State) : (configureZones n s).figures = s.figures := by
  rw [configureZones, stopAirTimersFrom, forEach_keeps State.figures, forEach_keeps State.figures]
  · intro k t
    simp only [configureZone]
    split <;> simp [State.setSetpoints]
  · intro k t
    split <;> rfl

@[simp] theorem restartLossTimers_figures (n : Nat) (s : State) : (restartLossTimers n s).figures = s.figures := by
  rw [restartLossTimers]
  split
  · exact forEach_keeps State.figures _ (fun k t => State.setLoss_figures t k _ _) _ s
  · exact forEach_keeps State.figures _ (fun k t => by split <;> rfl) _ s

/-! ## Arrivals (R143 to R150) and the trunk -/

@[simp] theorem reportGain_figures (role : Nat) (s : State) : (reportGain role s).figures = s.figures := by
  rw [reportGain]
  (repeat' split) <;> simp

@[simp] theorem acceptItem_figures (role : Nat) (v : Int) (st : SampleStatus) (tick : Nat) (s : State) :
    (acceptItem role v st tick s).figures = s.figures := by
  rw [acceptItem, foldl_keeps State.figures State.hand State.hand_figures]
  split <;> simp

@[simp] theorem takeItem_figures (source tick : Nat) (i : SampleItem) (s : State) :
    (takeItem source tick i s).figures = s.figures := by
  rw [takeItem]
  (repeat' split) <;> simp

@[simp] theorem takeSample_figures (source : Nat) (payload : List Byte) (s : State) :
    (takeSample source payload s).figures = s.figures := by
  rw [takeSample]
  split
  · exact foldl_keeps State.figures _ (fun u i => takeItem_figures source s.clock i u) _ s
  · rfl

@[simp] theorem cutOffReception_figures (cs : List RxChar) (s : State) :
    (cutOffReception cs s).figures = s.figures := by
  rw [cutOffReception]; (repeat' split) <;> rfl

@[simp] theorem endReception_figures (cs : List RxChar) (e : ReceptionEnding) (s : State) :
    (endReception cs e s).figures = s.figures := by
  simp only [endReception, takeFrame]
  (repeat' split) <;> simp [setTrunk, discardFrame]

@[simp] theorem endFrame_figures (o : FrameOutcome) (s : State) : (endFrame o s).figures = s.figures := by
  rw [endFrame]; split <;> rfl

/-- An outcome row keeps the ranges when its action does. -/
theorem takeOutcome_inRange {act : State → State} (e : Instr) (h : ∀ u : State, u.StaysInRange (act u)) (s : State) :
    s.StaysInRange (takeOutcome e act s) := by
  rcases takeOutcome_cases e act s with ⟨-, ht⟩ | ⟨-, ht⟩ <;> rw [ht]
  · exact h (s.took e)
  · exact .refl s

/-! ## Directives -/

/-- A directive row keeps the ranges when its execution does: the queue and the response hold no figure. -/
theorem runDirective_inRange {d : Directive} {gap : Bool} {act : List Byte → State → Answer}
    (h : Effects State.StaysInRange act) (s : State) : s.StaysInRange (runDirective d gap act s) := by
  rcases runDirective_cases d gap act s with ⟨-, hr⟩ | ⟨-, hr⟩ <;> rw [hr]
  · exact (h d.args (popDirective s)).trans (.of_eq (handFrame_figures _ _ _))
  · exact .refl s

/-! ### The reading, lot and mark directives -/

theorem readTable_inRange : Effects State.StaysInRange readTableAnswer := by
  intro args u
  simp only [readTableAnswer, readKnownTable, readLot]
  (repeat' split) <;> exact .refl u

theorem readCane_inRange : Effects State.StaysInRange readCaneAnswer := by
  intro args u
  simp only [readCaneAnswer, readBySequence, readByPosition]
  (repeat' split) <;> exact .refl u

theorem readStatus_inRange : Effects State.StaysInRange readStatusAnswer := by
  intro args u
  rw [readStatusAnswer]
  split <;> exact .refl u

theorem markCanes_inRange : Effects State.StaysInRange markCanesAnswer := by
  intro args u
  simp only [markCanesAnswer]
  split
  · exact .refl u
  · exact markRecords_inRange _ _ _ u

theorem clearLineAnswer_inRange : Effects State.StaysInRange clearLineAnswer := by
  intro args u
  rw [clearLineAnswer]
  split
  · exact .refl u
  split
  · exact .refl u
  · rw [doneWith_state]; exact clearLine_inRange u

/-- A header that LOT_OPEN accepts has its initial moisture in range (R6). -/
theorem openLot_inRange (header : Option LotHeader) (i : Nat) (u : State) :
    u.StaysInRange (openLot header i u).state := by
  unfold openLot
  split
  · exact .refl u
  split
  · exact .refl u
  split
  case isTrue hok => exact setLot_inRange fun _ => ((headerAccepted_iff _).1 hok).2.1
  case isFalse => exact .refl u

theorem appendStage_inRange (g : Stage) (i : Nat) (u : State) : u.StaysInRange (appendStage g i u).state := by
  rw [appendStage]
  split
  · exact .refl u
  split
  · exact .refl u
  split
  · exact .refl u
  · exact setLot_same_header_inRange rfl

theorem sealLot_inRange (i : Nat) (u : State) : u.StaysInRange (sealLot i u).state := by
  rw [sealLot]
  split
  · exact .refl u
  split
  · exact setLot_same_header_inRange rfl
  · exact .refl u

theorem discardLot_inRange (i : Nat) (u : State) : u.StaysInRange (discardLot i u).state := by
  rw [discardLot]
  split
  · exact setLot_inRange fun _ => Nat.zero_le _
  · exact .refl u

theorem armLot_inRange (b : Nat) (u : State) : u.StaysInRange (armLot b u).state := by
  rw [armLot]
  (repeat' split) <;> exact .of_eq rfl

/-! ### The modes and the faults -/

theorem enterPriming_inRange (u : State) : u.StaysInRange (enterPriming u).state := by
  rw [enterPriming]
  (repeat' split)
  · exact .refl u
  · exact .refl u
  · exact enterMode_inRange _ _ u

theorem enterRunning_inRange (u : State) : u.StaysInRange (enterRunning u).state := by
  rw [enterRunning]
  (repeat' split)
  · exact .refl u
  · exact .refl u
  · exact enterMode_inRange _ _ u

theorem enterDraining_inRange (u : State) : u.StaysInRange (enterDraining u).state := by
  simp only [enterDraining, doneWith_state]
  split
  · exact enterMode_inRange _ _ u
  · exact (enterMode_inRange _ _ u).trans (enterMode_inRange _ _ _)

theorem enterStopped_inRange (u : State) : u.StaysInRange (enterStopped u).state := by
  rw [enterStopped]
  split
  · split
    · exact enterMode_inRange _ _ u
    · exact .refl u
  split
  · exact .refl u
  · exact enterMode_inRange _ _ u

theorem enterSafe_inRange (u : State) : u.StaysInRange (enterSafe u).state := by
  rw [enterSafe]
  split
  · exact .refl u
  · exact enterMode_inRange _ _ u

theorem leaveSafe_inRange (u : State) : u.StaysInRange (leaveSafe u).state := by
  rw [leaveSafe]
  split
  · exact .refl u
  · exact enterMode_inRange _ _ u

theorem ackFault_inRange (b : Nat) (u : State) : u.StaysInRange (ackFaultCode b u).state := by
  rw [ackFaultCode]
  (repeat' split) <;> exact .of_eq rfl

/-! ### The table writes -/

theorem writeListen_inRange : WriteEffects State.StaysInRange writeListen := by
  intro first es u
  rw [writeListen]
  split
  · exact .refl u
  split
  · exact .of_eq (forEach_keeps State.figures _ (fun k t => makeLost_figures _ t) _ _)
  · exact .refl u

theorem writeTalk_inRange : WriteEffects State.StaysInRange writeTalk := by
  intro first es u
  rw [writeTalk]
  split
  case h_1 => exact .refl u
  case h_2 new _ =>
    let t : State := { u with signals := { u.signals with talk := replaced u.signals.talk first new } }
    have stored : u.StaysInRange t := .of_eq rfl
    exact stored.trans ((State.StaysInRange.ite (.of_eq (evaluateFire_figures t))).trans
      (.ite (.of_eq (evaluateChain_figures _))))

theorem writeZone_inRange : WriteEffects State.StaysInRange writeZone := by
  intro first es u
  unfold writeZone
  cases parseAll parseZone es <;> exact .of_eq rfl

theorem writeZoneCount_inRange (n : Nat) (u : State) : u.StaysInRange (writeZoneCount n u).state := by
  rw [writeZoneCount]
  split
  · exact .refl u
  split
  · exact .refl u
  split
  · exact .refl u
  split
  · refine .of_eq ((evaluateChain_figures _).trans ?_)
    rw [restartLossTimers_figures, configureZones_figures]
    rfl
  · exact .refl u

/-- An equilibrium moisture is parsed only within its range (R74). -/
theorem parseMeq_le (bs : List Byte) (m : Nat) (h : parseMeq bs = some m) : m ≤ 9999 := by
  obtain ⟨hle, rfl⟩ := Option.ite_some_none_eq_some.1 h
  exact hle

/-- Every equilibrium moisture that a write stores is in range (R74). -/
theorem writeMeq_inRange : WriteEffects State.StaysInRange writeMeq := by
  intro first es u
  unfold writeMeq
  cases hes : parseAll parseMeq es with
  | none => exact .refl u
  | some new =>
    refine .of_moist (fun hs => { hs with meq := fun m hm => ?_ }) rfl
    exact (mem_of_mem_replaced hm).elim (hs.meq m) (parseAll_forall parseMeq_le hes m)

theorem writeModel_inRange (entry : List Byte) (u : State) : u.StaysInRange (writeModel entry u).state := by
  unfold writeModel
  cases parseModel entry <;> exact .of_eq rfl

theorem writePacer_inRange (entry : List Byte) (u : State) : u.StaysInRange (writePacer entry u).state := by
  unfold writePacer
  cases parsePacer entry <;> exact .of_eq rfl

theorem writeLine_inRange (entry : List Byte) (u : State) : u.StaysInRange (writeLine entry u).state := by
  unfold writeLine
  cases parseLine u.port.node entry <;> exact .of_eq rfl

/-! ## Every row -/

/-- At power-on no record stands anywhere, every moisture is 0 and so is c (R2, R22, R73). -/
theorem powerOn_inRange (straps : BitVec 6) (s : State) : s.StaysInRange (State.powerOn straps) := by
  have hc : (State.powerOn straps).pacer.correction = 0 := rfl
  exact ⟨fun _ => ⟨nofun, fun m hm => by rw [List.eq_of_mem_replicate hm]; decide,
    fun l hl => by rw [List.eq_of_mem_replicate hl]; decide⟩, fun _ => by rw [CorrectionLaw, hc]; decide⟩

/-- Every row keeps the figures in range. -/
theorem exec_inRange {c : Instr} {s t : State} (ht : exec c s = .next t) : s.StaysInRange t := by
  -- a row by the state that it answers
  have row {u : State} (hu : (.next u : Host.Outcome State Fault Refusal) = .next t) (h : s.StaysInRange u) :
      s.StaysInRange t := of_next (P := s.StaysInRange) hu h
  -- a row that leaves the figures
  have same {u : State} (hu : (.next u : Host.Outcome State Fault Refusal) = .next t) (h : u.figures = s.figures) :
      s.StaysInRange t := row hu (.of_eq h)
  -- a row that first takes what was handed on
  have took {u : State} (e : Instr) (hu : (.next u : Host.Outcome State Fault Refusal) = .next t)
      (h : (s.took e).StaysInRange u) : s.StaysInRange t := row hu (.trans (.of_eq rfl) h)
  -- a directive row
  have dir {d : Directive} {gap : Bool} {act : List Byte → State → Answer}
      (hu : (.next (runDirective d gap act s) : Host.Outcome State Fault Refusal) = .next t)
      (h : Effects State.StaysInRange act) : s.StaysInRange t := row hu (runDirective_inRange h s)
  cases c with
  | powerOnReset straps => exact row ht ((powerOn_inRange straps s).trans (.of_eq rfl))
  | trunkReset =>
    refine same ht ?_
    split
    · rfl
    · exact (foldl_keeps State.figures State.hand State.hand_figures _ _).trans (s.setPort_figures _)
  | signalUnitTrunkReset => exact same ht (forEach_keeps State.figures _ (fun _ _ => makeLost_figures _ _) 32 _)
  | pacerTrunkReset => exact took _ ht (cancelFire_inRange _)
  | chainTrunkReset => exact same ht (by (repeat' split) <;> rfl)
  | dischargeTrunkReset => exact same ht rfl
  | lineSequencerTrunkReset =>
    refine took .lineSequencerTrunkReset ht (State.StaysInRange.trans ?_ (.of_eq (State.setSequencer_figures _ _)))
    exact .ite (enterMode_inRange _ _ _)
  | agentTrunkReset => exact same ht rfl
  | idleGap received =>
    refine same ht ?_
    split
    · rfl
    · exact cutOffReception_figures received s
  | receptionEnd received ending => exact same ht (endReception_figures received ending s)
  | directiveAcknowledge received => exact same ht (by (repeat' split) <;> rfl)
  | frameDraw => exact same ht (by split <;> rfl)
  | claimLost => exact same ht (by (repeat' split) <;> rfl)
  | transmissionBroken => exact same ht (endFrame_figures _ s)
  | acknowledgeSlotOutcome dominant => exact same ht (endFrame_figures _ s)
  | knifeFireOutcome f o => exact row ht (takeOutcome_inRange _ (takeFireOutcome_inRange _ o) s)
  | chainStepOutcome f o => exact row ht (takeOutcome_inRange _ (takeStepOutcome_inRange _ o) s)
  | pressCmdOutcome f run o =>
    exact row ht (takeOutcome_inRange _ (fun u => .of_eq (by rw [takePressOutcome]; split <;> rfl)) s)
  | zoneCommandOutcome f o => exact row ht (takeOutcome_inRange _ .refl s)
  | stripOrderOutcome f q o => exact row ht (takeOutcome_inRange _ (takeOrderOutcome_inRange q o) s)
  | managementFrameOutcome f o => exact row ht (takeOutcome_inRange _ .refl s)
  | speedArrival v tick => exact same ht (takeSpeed_figures v tick _)
  | spreaderStateArrival v => exact same ht (by split <;> simp)
  | knifeCountEvents n => exact took _ ht (takeKnifeCount_inRange n _)
  | knifeTimerExpiry => exact row ht (.ite (miss_inRange s))
  | settleTimerExpiry => exact same ht (by split <;> rfl)
  | pacerModeChange old new => exact same ht (by simp)
  | chainModeChange old new => exact same ht (by split <;> simp)
  | chainCountEvents n => exact took _ ht (takeChainCount_inRange n _)
  | chainIndexEvents n => exact same ht (forEach_keeps State.figures _ (fun _ => indexEvent_figures) n _)
  | stepTimerExpiry => exact row ht (.ite (failStep_inRange 2 s))
  | drainTimerExpiry =>
    let expired := s.setChain { s.chain with drainTimer := .expired }
    have hexpired : s.StaysInRange expired := .of_eq rfl
    exact row ht (.ite (hexpired.trans ((tryInsertion_inRange expired).trans (.of_eq (evaluateChain_figures _)))))
  | stripperStateArrival v => exact same ht (by split <;> simp)
  | stripperCountEvents n => exact took _ ht (takeStripperCount_inRange n _)
  | stallTimerExpiry => exact same ht (by split <;> rfl)
  | pressStateArrival v =>
    refine same ht ?_
    rw [sendOwedCommand]
    (repeat' split) <;> simp
  | zoneRhArrival k => exact same ht (by split <;> simp)
  | staleTimerExpiry role => exact same ht (by rw [staleExpiry]; split <;> rfl)
  | lostTimerExpiry role => exact same ht (by rw [lostExpiry]; split <;> simp)
  | climateLossTimerExpiry k => exact same ht (by split <;> simp)
  | airTimerExpiry k => exact same ht (by split <;> simp [alternateAir])
  | sweepTimerExpiry =>
    refine same ht ?_
    split
    · exact onSweepExpiry_figures _
    · rfl
  | caneVisit =>
    refine row ht ?_
    split
    · exact .refl s
    split
    · exact .refl s
    · exact takeNumber_inRange _ _ s
  | sweepEnd =>
    refine same ht ?_
    split
    · rfl
    split
    · exact finishSweep_figures _ s
    · rfl
  | faultRaise code d => exact same ht (raiseFault_figures code d _)
  | readTable r => exact dir ht readTable_inRange
  | writeTableListen r =>
    exact dir ht (effects_withEntries .refl
      (writeEffects_withModes .refl (writeEffects_withRange .refl writeListen_inRange)))
  | writeTableTalk r =>
    exact dir ht (effects_withEntries .refl
      (writeEffects_withModes .refl (writeEffects_withRange .refl writeTalk_inRange)))
  | writeTableZone r =>
    exact dir ht (effects_withEntries .refl
      (writeEffects_withZoneCountZero .refl (writeEffects_withRange .refl writeZone_inRange)))
  | writeTableZoneCount r =>
    exact dir ht (effects_withEntries .refl (writeEffects_withRange .refl fun _ _ => writeZoneCount_inRange _))
  | writeTableMeq r => exact dir ht (effects_withEntries .refl (writeEffects_withRange .refl writeMeq_inRange))
  | writeTableKd r =>
    exact dir ht (effects_withEntries .refl (writeEffects_withRange .refl fun _ _ _ => .of_eq rfl))
  | writeTableModel r =>
    exact dir ht (effects_withEntries .refl (writeEffects_withRange .refl fun _ _ => writeModel_inRange _))
  | writeTableGap r =>
    exact dir ht (effects_withEntries .refl (writeEffects_withRange .refl fun _ _ _ => .of_eq rfl))
  | writeTablePacer r =>
    exact dir ht (effects_withEntries .refl (writeEffects_withRange .refl fun _ _ => writePacer_inRange _))
  | writeTableLine r =>
    exact dir ht (effects_withEntries .refl (writeEffects_withRange .refl fun _ _ => writeLine_inRange _))
  | writeTableUnwritable r =>
    refine row ht ?_
    split
    · exact .refl s
    · exact runDirective_inRange (fun args u => by rw [refuseTable]; split <;> exact .refl u) s
  | readCane r => exact dir ht (effects_withLength .refl readCane_inRange)
  | markCanes r => exact dir ht (effects_withLength .refl markCanes_inRange)
  | clearLine r => exact dir ht (effects_withLength .refl clearLineAnswer_inRange)
  | lotOpen r => exact dir ht (effects_withLength .refl (effects_withSlot .refl fun _ => openLot_inRange _))
  | lotStage r => exact dir ht (effects_withLength .refl (effects_withSlot .refl fun _ => appendStage_inRange _))
  | lotSeal r => exact dir ht (effects_withLength .refl (effects_withSlot .refl fun _ => sealLot_inRange))
  | lotDiscard r => exact dir ht (effects_withLength .refl (effects_withSlot .refl fun _ => discardLot_inRange))
  | lotArm r => exact dir ht (effects_withLength .refl fun _ => armLot_inRange _)
  | modePrime r => exact dir ht (effects_modeFrom .refl enterPriming_inRange)
  | modeRun r => exact dir ht (effects_modeFrom .refl enterRunning_inRange)
  | modeHold r => exact dir ht (effects_modeFrom .refl (enterMode_inRange _ _))
  | modeResume r => exact dir ht (effects_modeFrom .refl enterPriming_inRange)
  | modeDrain r => exact dir ht (effects_modeFrom .refl enterDraining_inRange)
  | modeStop r => exact dir ht (effects_modeFrom .refl enterStopped_inRange)
  | modeSafe r => exact dir ht (effects_modeFrom .refl enterSafe_inRange)
  | modeLeaveSafe r => exact dir ht (effects_modeFrom .refl leaveSafe_inRange)
  | ackFault r => exact dir ht (effects_withLength .refl fun _ => ackFault_inRange _)
  | readStatus r => exact dir ht (effects_withLength .refl readStatus_inRange)
  | readTotals r => exact dir ht (effects_withLength .refl fun _ => .refl)
  | clearTotals r => exact dir ht (effects_withLength .refl fun _ _ => .of_eq rfl)
  | unknownDirective sender payload =>
    refine row ht ?_
    split
    · exact .refl s
    · exact runDirective_inRange (fun _ => .refl) s
  | lineClockTick => exact same ht rfl
  | startMark received =>
    refine same ht ?_
    split
    · rfl
    · exact cutOffReception_figures received s
  | dominantRun bits => exact same ht (by split <;> rfl)
  | trunkResetReleased => exact same ht (by split <;> rfl)
  | modeUnknownArgument r =>
    refine row ht ?_
    split
    · exact .refl s
    · exact runDirective_inRange (fun args u => by rw [refuseMode]; split <;> exact .refl u) s

/-- Settles O56: an idle step leaves the figures, and every row keeps them in range. -/
theorem moistureAndCorrectionLawsAreKept : Obligations.MoistureAndCorrectionLawsAreKept := by
  intro s t ht
  change s.StaysInRange t
  unfold step at ht
  split at ht
  case h_1 => exact of_next (P := s.StaysInRange) ht (.refl s)
  case h_2 c rest _ =>
    have popped : s.StaysInRange { s with pending := rest } := .of_eq rfl
    exact popped.trans (exec_inRange ht)

end Sys2Proof.Machine
end

section
/-!
SUPPORT. The tables of the drying model (R74, R75, R76, R91, R173): their entries read back, and the obligation.
-/

namespace Sys2Proof.Machine

/-! ## A model table write that has started (R91) -/

/-- A model table write between sweeps whose effect leaves the trunk port is answered with it. -/
theorem runDirective_held_done {s : State} {d : Directive} {act : List Byte → State → Answer} {body : List Byte}
    {effect : State → State} (hs : StartsBetweenSweeps s d)
    (ha : act d.args (popDirective s) = doneWith body (effect (popDirective s)))
    (hp : (effect (popDirective s)).port = s.port) :
    runDirective d true act s = answered s d .done body effect :=
  runDirective_answered (startable_of_startsBetweenSweeps hs) ha (by rw [hp]; exact hs.1.2.2)
    (by rw [hp]; exact hs.1.2.1)

/-- A model table write between sweeps that its checks refuse is answered so. -/
theorem runDirective_held_refuse {s : State} {d : Directive} {act : List Byte → State → Answer} {o : OutcomeCode}
    (hs : StartsBetweenSweeps s d) (ha : act d.args (popDirective s) = refuse o (popDirective s)) :
    runDirective d true act s = answered s d o [] id :=
  runDirective_refused (startable_of_startsBetweenSweeps hs) hs.1 ha

/-! ## The entries read back -/

/-- Entries that all read back are all parsed (R182). -/
theorem parseAll_map {α : Type} {f : List Byte → Option α} {g : α → List Byte} {xs : List α}
    (h : ∀ x ∈ xs, f (g x) = some x) : parseAll f (xs.map g) = some xs := by
  induction xs with
  | nil => rfl
  | cons x xs ih =>
    obtain ⟨hx, hxs⟩ := List.forall_mem_cons.1 h
    simp only [List.map_cons, parseAll, hx, ih hxs]

/-- One malformed entry refuses the whole write (R182). -/
theorem parseAll_eq_none {α : Type} {f : List Byte → Option α} {es : List (List Byte)} {e : List Byte}
    (he : e ∈ es) (h : f e = none) : parseAll f es = none := by
  induction es with
  | nil => cases he
  | cons x xs ih =>
    rw [parseAll]
    split
    case h_1 y ys hy hys =>
      rcases List.mem_cons.1 he with rfl | he
      · rw [h] at hy; cases hy
      · rw [ih he] at hys; cases hys
    case h_2 => rfl

/-- An equilibrium moisture reads back when it is in its range, and is refused otherwise (R74). -/
theorem parseMeq_be {m : Nat} (h : m ≤ 65535) : parseMeq (be 2 m) = if m ≤ 9999 then some m else none := by
  rw [parseMeq, field_be_self (by omega)]

/-- The model parameters read back when they are in their ranges, and are refused otherwise (R76). -/
theorem parseModel_entry {m : ModelEntry} (h1 : -32768 ≤ m.tBase) (h2 : m.tBase ≤ 32767) (h3 : m.tStep ≤ 65535)
    (h4 : m.interval ≤ 65535) :
    parseModel (beInt 2 m.tBase ++ be 2 m.tStep ++ be 2 m.interval) =
      if 10 ≤ m.tStep ∧ m.tStep ≤ 500 ∧ 10 ≤ m.interval ∧ m.interval ≤ 600 then some m else none := by
  simp (disch := omega) only [parseModel, fieldInt, beInt_two, List.append_assoc, field_be_skip, field_be_head,
    field_be_self, Nat.reduceSub, signed16Of_emod]

/-! ## The two tables of numbers (R74, R75) -/

section Numbers

variable {s : State} {r : Request} {first : Byte} {new : List Nat}

/-- A write of two-byte numbers of the right length reaches its range test (R169, R173). -/
theorem withEntries_numbers {t : TableId} (act : Nat → List (List Byte) → State → Answer) (id : Byte)
    (hr : r.args = first :: be 1 new.length ++ (new.map (be 2)).flatten) (hn : new.length ≤ 255)
    (ht : entrySize t = 2) (u : State) :
    withEntries t (withRange t act) (directiveOf 0x02 [id] r).args u =
      withRange t act first.toNat (new.map (be 2)) u := by
  have hargs : (directiveOf 0x02 [id] r).args =
      id :: first :: BitVec.ofNat 8 (new.map (be 2)).length :: (new.map (be 2)).flatten := by
    rw [List.length_map]
    exact congrArg (id :: ·) hr
  rw [hargs]
  exact withEntries_flatten _ id first u (by simp [ht]) (by simpa using hn)

/-- WRITE_TABLE MEQ (R74, R91, R173). -/
theorem writeTableMeq_entries (hm : ∀ m ∈ new, m ≤ 65535) (hn : new.length ≤ 255)
    (hr : r.args = first :: be 1 new.length ++ (new.map (be 2)).flatten)
    (hs : StartsBetweenSweeps s (directiveOf 0x02 [5] r)) :
    (1 ≤ new.length → first.toNat + new.length ≤ 80 → (∀ m ∈ new, m ≤ 9999) →
      exec (.writeTableMeq r) s = .next (answered s (directiveOf 0x02 [5] r) .done [] (fun u => { u with
        drying := { u.drying with
          meq := u.drying.meq.take first.toNat ++ new ++ u.drying.meq.drop (first.toNat + new.length) } }))) ∧
    (first.toNat + new.length ≤ 80 → (∃ m ∈ new, 9999 < m) →
      exec (.writeTableMeq r) s = .next (answered s (directiveOf 0x02 [5] r) .badValue [] id)) ∧
    (new.length = 0 ∨ 80 < first.toNat + new.length →
      exec (.writeTableMeq r) s = .next (answered s (directiveOf 0x02 [5] r) .badIndex [] id)) := by
  have hact := withEntries_numbers writeMeq 5 hr hn (t := .meq) rfl (popDirective s)
  have inTable (h1 : 1 ≤ new.length) (h2 : first.toNat + new.length ≤ 80) :
      rangeOk .meq first.toNat (new.map (be 2)).length = true := by
    simp [rangeOk, singleTable, tableLength, h1, h2]
  refine ⟨fun h1 h2 hle => ?_, fun h2 ⟨m, hmem, hlt⟩ => ?_, fun h => ?_⟩
  · have hparse : parseAll parseMeq (new.map (be 2)) = some new :=
      parseAll_map fun m h => (parseMeq_be (hm m h)).trans (if_pos (hle m h))
    refine congrArg _ (runDirective_held_done hs ?_ rfl)
    rw [hact, withRange_of_rangeOk _ (inTable h1 h2), writeMeq, hparse]
    rfl
  · have hparse : parseAll parseMeq (new.map (be 2)) = none :=
      parseAll_eq_none (List.mem_map_of_mem hmem) ((parseMeq_be (hm m hmem)).trans (if_neg (Nat.not_le.2 hlt)))
    refine congrArg _ (runDirective_held_refuse hs ?_)
    rw [hact, withRange_of_rangeOk _ (inTable (List.length_pos_of_mem hmem) h2), writeMeq, hparse]
  · refine congrArg _ (runDirective_held_refuse hs ?_)
    rw [hact, withRange_of_not_rangeOk _ (by simp [rangeOk, singleTable, tableLength]; omega)]

/-- WRITE_TABLE KD (R75, R91, R173). -/
theorem writeTableKd_entries (hm : ∀ m ∈ new, m ≤ 65535) (hn : new.length ≤ 255)
    (hr : r.args = first :: be 1 new.length ++ (new.map (be 2)).flatten)
    (hs : StartsBetweenSweeps s (directiveOf 0x02 [6] r)) :
    (1 ≤ new.length → first.toNat + new.length ≤ 8 →
      exec (.writeTableKd r) s = .next (answered s (directiveOf 0x02 [6] r) .done [] (fun u => { u with
        drying := { u.drying with
          kd := u.drying.kd.take first.toNat ++ new ++ u.drying.kd.drop (first.toNat + new.length) } }))) ∧
    (new.length = 0 ∨ 8 < first.toNat + new.length →
      exec (.writeTableKd r) s = .next (answered s (directiveOf 0x02 [6] r) .badIndex [] id)) := by
  have hact := withEntries_numbers writeKd 6 hr hn (t := .kd) rfl (popDirective s)
  have hback : (new.map (be 2)).map (fun e => field e 0 2) = new := by
    have back (m : Nat) (h : m ∈ new) : ((fun e => field e 0 2) ∘ be 2) m = id m := by
      have hle := hm m h
      rw [Function.comp_apply, field_be_self (by omega), id]
    rw [List.map_map, List.map_congr_left back, List.map_id]
  refine ⟨fun h1 h2 => ?_, fun h => ?_⟩
  · refine congrArg _ (runDirective_held_done hs ?_ rfl)
    rw [hact, withRange_of_rangeOk _ (by simp [rangeOk, singleTable, tableLength, h1, h2]), writeKd, hback]
    rfl
  · refine congrArg _ (runDirective_held_refuse hs ?_)
    rw [hact, withRange_of_not_rangeOk _ (by simp [rangeOk, singleTable, tableLength]; omega)]

end Numbers

/-! ## The model parameters (R76) -/

/-- WRITE_TABLE MODEL (R76, R91, R173). -/
theorem writeTableModel_entry {s : State} {r : Request} {m : ModelEntry}
    (hr : r.args = [0, 1] ++ beInt 2 m.tBase ++ be 2 m.tStep ++ be 2 m.interval) (h1 : -32768 ≤ m.tBase)
    (h2 : m.tBase ≤ 32767) (h3 : m.tStep ≤ 65535) (h4 : m.interval ≤ 65535)
    (hs : StartsBetweenSweeps s (directiveOf 0x02 [7] r)) :
    let inRange := 10 ≤ m.tStep ∧ m.tStep ≤ 500 ∧ 10 ≤ m.interval ∧ m.interval ≤ 600
    (inRange → exec (.writeTableModel r) s = .next (answered s (directiveOf 0x02 [7] r) .done [] (fun u =>
      { u with drying := { u.drying with tBase := m.tBase, tStep := m.tStep, interval := m.interval } }))) ∧
    (¬ inRange → exec (.writeTableModel r) s = .next (answered s (directiveOf 0x02 [7] r) .badValue [] id)) := by
  have hact : withEntries .model (withRange .model (fun _ es t => writeModel (soleEntry es) t))
      (directiveOf 0x02 [7] r).args (popDirective s) =
      writeModel (beInt 2 m.tBase ++ be 2 m.tStep ++ be 2 m.interval) (popDirective s) := by
    change withEntries _ _ (7 :: r.args) _ = _
    simp only [hr, List.append_assoc, List.cons_append, List.nil_append]
    rw [withEntries_one _ 7 0 _ (by simp [entrySize, beInt_two])]
    exact withRange_of_rangeOk _ rfl
  unfold writeModel at hact
  rw [parseModel_entry h1 h2 h3 h4] at hact
  constructor <;> intro hrange
  · rw [if_pos hrange] at hact
    exact congrArg _ (runDirective_held_done hs hact rfl)
  · rw [if_neg hrange] at hact
    exact congrArg _ (runDirective_held_refuse hs hact)

/-- Settles O39, table by table. -/
theorem modelTablesAreWrittenBetweenSweeps : Obligations.ModelTablesAreWrittenBetweenSweeps := by
  intro s r first new hm hn
  refine ⟨fun hr => ⟨fun hs => writeTableMeq_entries hm hn hr hs, fun hs => writeTableKd_entries hm hn hr hs⟩, ?_⟩
  intro base step interval hr h1 h2 h3 h4 hs
  exact writeTableModel_entry (m := { tBase := base, tStep := step, interval := interval }) hr h1 h2 h3 h4 hs

end Sys2Proof.Machine
end

section
/-!
SUPPORT. The start and the end of a sweep (R77 to R81): what each leaves of the drying model and the cane queue, and the
obligation.
-/

namespace Sys2Proof.Machine

/-! ## The start of a sweep (R79) -/

/-- The sweep that starts at this moment. -/
def State.newSweep (s : State) : Sweep :=
  { time := s.lineTime, first := s.canes.records.head?.map Cane.sequence,
    last := s.canes.records.getLast?.map Cane.sequence, next := s.canes.records.head?.map Cane.sequence,
    updated := 0, unknown := 0, skipped := 0 }

theorem startSweep_eq (s : State) : startSweep s = s.setDrying { s.drying with sweep := some s.newSweep } := rfl

/-- With records in the queue a sweep runs from the head's number to the tail's. -/
theorem newSweep_of_records {s : State} {h last : Cane} {rest : List Cane} (hr : s.canes.records = h :: rest)
    (hl : (h :: rest).getLast? = some last) :
    s.newSweep = { time := s.lineTime, first := some h.sequence, last := some last.sequence,
                   next := some h.sequence, updated := 0, unknown := 0, skipped := 0 } := by
  rw [State.newSweep, hr, hl]
  rfl

/-- With the queue empty there is no number to visit. -/
theorem newSweep_of_empty {s : State} (hr : s.canes.records = []) :
    s.newSweep = { time := s.lineTime, first := none, last := none, next := none,
                   updated := 0, unknown := 0, skipped := 0 } := by
  rw [State.newSweep, hr]
  rfl

/-! ## The end of a sweep (R81) -/

/-- The derivation touches neither the drying model nor the cane queue. -/
theorem deriveClimate_frame (s : State) :
    (deriveClimate s).drying = s.drying ∧ (deriveClimate s).canes = s.canes ∧
    (deriveClimate s).lineTime = s.lineTime := by
  have drying (k : Nat) (t : State) : (deriveZone k t).drying = t.drying := refreshDemand_drying k _
  have canes (k : Nat) (t : State) : (deriveZone k t).canes = t.canes := refreshDemand_canes k _
  have lineTime (k : Nat) (t : State) : (deriveZone k t).lineTime = t.lineTime := refreshDemand_lineTime k _
  exact ⟨forEach_keeps State.drying _ drying _ s, forEach_keeps State.canes _ canes _ s,
    forEach_keeps State.lineTime _ lineTime _ s⟩

/-- The drying model after the sweep `w` has ended: IDLE, one more completed, and its counts the summary. -/
def Drying.closed (d : Drying) (w : Sweep) : Drying :=
  { d with sweep := none, completed := (d.completed + 1) % 65536,
           summary := { time := w.time, updated := w.updated, unknown := w.unknown, skipped := w.skipped } }

/-- The end of a sweep closes it and leaves the cane queue and line time. -/
theorem closeSweep_frame (w : Sweep) (s : State) :
    (closeSweep w s).drying = s.drying.closed w ∧ (closeSweep w s).canes = s.canes ∧
    (closeSweep w s).lineTime = s.lineTime := by
  obtain ⟨hd, hc, ht⟩ := deriveClimate_frame s
  refine ⟨?_, ?_, ?_⟩
  · rw [closeSweep, climateCheck_drying, hd]; rfl
  · rw [closeSweep, climateCheck_canes]; exact hc
  · rw [closeSweep, climateCheck_lineTime]; exact ht

/-- Without an owed sweep the end of a sweep is all (R81). -/
theorem finishSweep_of_not_owed {w : Sweep} {s : State} (h : s.drying.sweepPending = false) :
    finishSweep w s = closeSweep w s := by
  have hp : (s.drying.closed w).sweepPending = false := h
  simp [finishSweep, (closeSweep_frame w s).1, hp]

/-- An owed sweep starts as soon as the sweep in flight has ended (R81). -/
theorem finishSweep_of_owed {w : Sweep} {s : State} (h : s.drying.sweepPending = true) :
    finishSweep w s =
      startAndCloseEmpty ((closeSweep w s).setDrying { s.drying.closed w with sweepPending := false }) := by
  have hp : (s.drying.closed w).sweepPending = true := h
  simp only [finishSweep, (closeSweep_frame w s).1, hp, if_true]

/-- A sweep that starts with records in the queue is left in flight. -/
theorem startAndCloseEmpty_of_records {s : State} {h : Cane} {rest : List Cane} (hr : s.canes.records = h :: rest) :
    startAndCloseEmpty s = startSweep s := by
  have hn : s.newSweep.next.isNone = false := by rw [State.newSweep, hr]; rfl
  simp [startAndCloseEmpty, startSweep_eq, State.setDrying, hn]

/-- A sweep that starts with the queue empty is closed at once (R79). -/
theorem startAndCloseEmpty_of_empty {s : State} (hr : s.canes.records = []) :
    startAndCloseEmpty s = closeSweep s.newSweep (startSweep s) := by
  have hn : s.newSweep.next.isNone = true := by rw [State.newSweep, hr]; rfl
  simp [startAndCloseEmpty, startSweep_eq, State.setDrying, hn]

/-! ## The two rows -/

/-- An expiry of the sweep timer sets the next one and is then acted on (R77). -/
theorem exec_sweepTimerExpiry_due {s : State} (h : s.drying.nextExpiry ≤ s.lineTime) :
    exec .sweepTimerExpiry s = .next (onSweepExpiry (s.setDrying { s.drying with
      nextExpiry := s.drying.nextExpiry + s.drying.interval })) := congrArg _ (if_pos h)

/-- With the model IDLE a sweep starts; one over an empty queue ends at once (R78, R79). -/
theorem onSweepExpiry_idle {s : State} (h : s.drying.sweep = none) :
    onSweepExpiry s = if s.newSweep.next.isNone then finishSweep s.newSweep (startSweep s) else startSweep s := by
  simp only [onSweepExpiry, h]
  rfl

/-- During a sweep another one is owed (R78). -/
theorem onSweepExpiry_sweeping {s : State} {w : Sweep} (h : s.drying.sweep = some w) :
    onSweepExpiry s = s.setDrying { s.drying with sweepPending := true } := by
  simp only [onSweepExpiry, h]

/-- A sweep ends once its numbers have all been taken (R81). -/
theorem exec_sweepEnd_sweeping {s : State} {w : Sweep} (h : s.drying.sweep = some w) :
    exec .sweepEnd s = .next (if w.next.isNone then finishSweep w s else s) := by
  change execSweepEnd s = _
  simp only [execSweepEnd, h]

/-! ## The obligation -/

/-- An expiry of the sweep timer, by the sweep in flight and the cane queue (R77, R78, R79). -/
theorem sweepTimerExpiry_cases {s : State} (hdue : s.drying.nextExpiry ≤ s.lineTime) :
    (∀ w, s.drying.sweep = some w → exec .sweepTimerExpiry s = .next { s with drying := { s.drying with
      nextExpiry := s.drying.nextExpiry + s.drying.interval, sweepPending := true } }) ∧
    (∀ h rest last, s.drying.sweep = none → s.canes.records = h :: rest → (h :: rest).getLast? = some last →
      exec .sweepTimerExpiry s = .next { s with drying := { s.drying with
        nextExpiry := s.drying.nextExpiry + s.drying.interval,
        sweep := some { time := s.lineTime, first := some h.sequence, last := some last.sequence,
                        next := some h.sequence, updated := 0, unknown := 0, skipped := 0 } } }) ∧
    (s.drying.sweep = none → s.canes.records = [] → s.drying.sweepPending = false →
      ∃ t, exec .sweepTimerExpiry s = .next t ∧ t.drying = { s.drying with
        nextExpiry := s.drying.nextExpiry + s.drying.interval, sweep := none,
        completed := (s.drying.completed + 1) % 65536,
        summary := { time := s.lineTime, updated := 0, unknown := 0, skipped := 0 } }) := by
  let u := s.setDrying { s.drying with nextExpiry := s.drying.nextExpiry + s.drying.interval }
  have hexec : exec .sweepTimerExpiry s = .next (onSweepExpiry u) := exec_sweepTimerExpiry_due hdue
  refine ⟨fun w hw => ?_, fun h rest last hidle hr hl => ?_, fun hidle hr howed => ?_⟩
  · rw [hexec, onSweepExpiry_sweeping (s := u) (w := w) hw]
    rfl
  · have hnew := newSweep_of_records (s := u) hr hl
    have hstart : onSweepExpiry u = startSweep u := by
      rw [onSweepExpiry_idle (s := u) hidle, hnew]; rfl
    rw [hexec, hstart, startSweep_eq, hnew]
    rfl
  · have hnew := newSweep_of_empty (s := u) hr
    have hend : onSweepExpiry u = finishSweep u.newSweep (startSweep u) := by
      rw [onSweepExpiry_idle (s := u) hidle, hnew]; rfl
    refine ⟨_, hexec.trans (congrArg _ hend), ?_⟩
    rw [finishSweep_of_not_owed (s := startSweep u) howed, (closeSweep_frame _ _).1, hnew]
    rfl

/-- The end of a sweep with another one owed: it starts at once, and over an empty queue is closed at once too (R79,
R81). -/
theorem finishSweep_owed_frame {s : State} (w : Sweep) (h : s.drying.sweepPending = true) :
    (finishSweep w s).canes = s.canes ∧
    (∀ c rest last, s.canes.records = c :: rest → (c :: rest).getLast? = some last →
      (finishSweep w s).drying = { s.drying.closed w with
        sweep := some { time := s.lineTime, first := some c.sequence, last := some last.sequence,
                        next := some c.sequence, updated := 0, unknown := 0, skipped := 0 },
        sweepPending := false }) ∧
    (s.canes.records = [] → (finishSweep w s).drying = { s.drying with
      sweep := none, sweepPending := false, completed := (s.drying.completed + 2) % 65536,
      summary := { time := s.lineTime, updated := 0, unknown := 0, skipped := 0 } }) := by
  obtain ⟨-, hc, ht⟩ := closeSweep_frame w s
  let u := (closeSweep w s).setDrying { s.drying.closed w with sweepPending := false }
  have hfinish : finishSweep w s = startAndCloseEmpty u := finishSweep_of_owed h
  have hcanes : u.canes = s.canes := hc
  have htime : u.lineTime = s.lineTime := ht
  rw [hfinish]
  refine ⟨?_, fun c rest last hr hl => ?_, fun hr => ?_⟩
  · cases hr : u.canes.records with
    | nil => rw [startAndCloseEmpty_of_empty hr]; exact (closeSweep_frame _ _).2.1.trans hc
    | cons c rest => rw [startAndCloseEmpty_of_records hr]; exact hc
  · have hr' : u.canes.records = c :: rest := by rw [hcanes, hr]
    rw [startAndCloseEmpty_of_records hr', startSweep_eq, newSweep_of_records hr' hl, htime]
    rfl
  · have hr' : u.canes.records = [] := by rw [hcanes, hr]
    have htwice : ((s.drying.completed + 1) % 65536 + 1) % 65536 = (s.drying.completed + 2) % 65536 := by omega
    rw [startAndCloseEmpty_of_empty hr', (closeSweep_frame _ _).1, newSweep_of_empty hr', htime, ← htwice]
    rfl

/-- Settles O30: the expiry, and the end of the sweep in flight without and with an owed one. -/
theorem sweepsStartAndEnd : Obligations.SweepsStartAndEnd := by
  intro s
  refine ⟨fun hearly => congrArg _ (if_neg (Nat.not_le.2 hearly)), sweepTimerExpiry_cases, fun w hw => ?_⟩
  have hexec := exec_sweepEnd_sweeping hw
  refine ⟨fun n hn => ?_, fun hn howed => ?_, fun hn howed => ?_⟩
  · rw [hexec, hn]; rfl
  · rw [hn] at hexec
    obtain ⟨hd, hc, -⟩ := closeSweep_frame w s
    exact ⟨_, hexec.trans (congrArg _ (finishSweep_of_not_owed howed)), hc, hd⟩
  · rw [hn] at hexec
    obtain ⟨hc, hrecords, hempty⟩ := finishSweep_owed_frame w howed
    exact ⟨_, hexec, hc, hrecords, hempty⟩

end Sys2Proof.Machine
end

section
/-!
SUPPORT. A visit of the sweep (R80, R83 to R90): the three tests as updates of the record, the visit by its climate, and
the obligation.
-/

namespace Sys2Proof.Machine

/-! ## The tests of a visit (R87, R88, R89) -/

/-- The overrun test sets the mark of a record that has stayed in its stage too long (R88). -/
theorem overrunTest_eq (time : Nat) (g : Stage) (p : Product) :
    overrunTest time g p =
      { p with stageOverrun := decide (g.maxDwell * 60 < time - p.stageEntry) || p.stageOverrun } := by
  rw [overrunTest]
  split <;> simp [*]

/-- The stage advance test moves a record on whose moisture has come down to the stage's exit moisture (R87). -/
theorem advanceTest_eq (time : Nat) (gs : List Stage) (p : Product) :
    advanceTest time gs p =
      let advance : Bool :=
        decide (p.stage + 1 < gs.length ∧ p.moisture ≤ (gs.getD p.stage default).exitMoisture)
      { p with stage := if advance then p.stage + 1 else p.stage,
               stageEntry := if advance then time else p.stageEntry } := by
  rw [advanceTest]
  split
  case isTrue h => simp only [decide_eq_true h, if_true]
  case isFalse h => simp only [decide_eq_false h]; rfl

/-- The excursion test fills the record of a first excursion (R89). -/
theorem excursionTest_eq (x : Excursion) (g : Stage) (p : Product) :
    excursionTest x g p = { p with
      excursion := if p.excursion = none ∧ (x.temperature < g.tLow ∨ g.tHigh < x.temperature) then some x
                   else p.excursion } := by
  have houtside : outsideBand g x.temperature = true ↔ x.temperature < g.tLow ∨ g.tHigh < x.temperature := by
    simp [outsideBand]
  simp only [excursionTest, houtside, and_comm (b := p.excursion = none)]
  split <;> rfl

/-! ## The climate of a visit (R83) -/

/-- A slot gives no value exactly when it is LOST (R146). -/
theorem reading_of_isLost {s : State} {role : Nat} (h : s.isLost role = true) : s.reading role = none := if_pos h

/-- With both slots of its zone giving a value, a record's climate is known. -/
theorem visitClimate_known {s : State} {pos k : Nat} {temp rh : Int} (hk : s.zoneAt pos = some k)
    (ht : s.reading (8 + k) = some temp) (hh : s.reading (20 + k) = some rh) :
    s.visitClimate pos = some (k, temp, rh) := by
  have hzone : s.zoneReading k = some (temp, rh) := by simp only [State.zoneReading, roleZoneT, roleZoneRh, ht, hh]
  simp only [State.visitClimate, hk, hzone]
  rfl

/-- With one of the slots LOST the climate is unusable. -/
theorem visitClimate_unknown {s : State} {pos k : Nat} (hk : s.zoneAt pos = some k)
    (hl : s.isLost (8 + k) = true ∨ s.isLost (20 + k) = true) : s.visitClimate pos = none := by
  have hzone : s.zoneReading k = none := by
    rcases hl with h | h
    · simp only [State.zoneReading, roleZoneT, reading_of_isLost h]
    · simp only [State.zoneReading, roleZoneRh, reading_of_isLost h]
      cases s.reading (roleZoneT k) <;> rfl
  simp only [State.visitClimate, hk, hzone]
  rfl

/-! ## A number taken (R80) -/

/-- The sweep after it has taken the number `n`, before its counts. -/
def Sweep.taken (w : Sweep) (n : Nat) : Sweep :=
  { w with next := if w.last = some n then none else some ((n + 1) % 16777216) }

theorem following_eq (w : Sweep) (n : Nat) : w.following n = (w.taken n).next := if_congr eq_comm rfl rfl

/-- The state with the sweep in flight replaced. -/
def State.withSweep (s : State) (w : Sweep) : State := s.setDrying { s.drying with sweep := some w }

/-- A record replaced at a position stands that many before the tail (R50). -/
theorem setProduct_eq {s : State} {pos : Nat} {c d : Cane} (hc : s.canes.at? pos = some c) (p : Product) :
    s.setProduct pos d p = { s with canes := { s.canes with
      records := s.canes.records.set (s.canes.records.length - 1 - pos) { d with product := some p } } } := by
  obtain ⟨-, hpos, -⟩ := at?_eq_some hc
  simp only [State.setProduct, CaneQueue.setAt, hpos, if_true]

section Visit

variable {s : State} {w : Sweep} {n : Nat}

/-- A visit in a known climate dries the record, counts it as updated and reports a new excursion (R85 to R90). -/
theorem visitProduct_known {pos k : Nat} {temp rh : Int} {c : Cane} {p : Product}
    (h : s.visitClimate pos = some (k, temp, rh)) :
    visitProduct w pos c p s =
      reportExcursion p (knownVisit s w.time k temp rh p) c.sequence
        ((s.setProduct pos c (knownVisit s w.time k temp rh p)).withSweep { w with updated := w.updated + 1 }) := by
  simp only [visitProduct, h]
  rfl

/-- A visit without a climate marks the record and counts it as climate-unknown (R84). -/
theorem visitProduct_unknown {pos : Nat} {c : Cane} {p : Product} (h : s.visitClimate pos = none) :
    visitProduct w pos c p s =
      (s.setProduct pos c (unknownVisit s w.time p)).withSweep { w with unknown := w.unknown + 1 } := by
  simp only [visitProduct, h]
  rfl

/-- CANE_VISIT takes the sweep's next number. -/
theorem exec_caneVisit (hw : s.drying.sweep = some w) (hn : w.next = some n) :
    exec .caneVisit s = .next (takeNumber w n s) := by
  change execCaneVisit s = _
  simp only [execCaneVisit, hw, hn]

/-- A number without a record is skipped. -/
theorem takeNumber_skipped (h : s.canes.positionOf n = none) :
    takeNumber w n s = s.withSweep { w.taken n with skipped := w.skipped + 1 } := by
  simp only [takeNumber, following_eq, h]
  rfl

/-- An EMPTY record is passed over. -/
theorem takeNumber_empty {pos : Nat} {c : Cane} (hpos : s.canes.positionOf n = some pos)
    (hc : s.canes.at? pos = some c) (hp : c.product = none) : takeNumber w n s = s.withSweep (w.taken n) := by
  simp only [takeNumber, following_eq, hpos, hc, hp]
  rfl

/-- A PRODUCT record is visited. -/
theorem takeNumber_product {pos : Nat} {c : Cane} {p : Product} (hpos : s.canes.positionOf n = some pos)
    (hc : s.canes.at? pos = some c) (hp : c.product = some p) :
    takeNumber w n s = visitProduct (w.taken n) pos c p s := by
  simp only [takeNumber, following_eq, hpos, hc, hp]
  rfl

end Visit

/-! ## The report of a visit (R90) -/

/-- A report leaves all but the port, the agent and the ledger. -/
theorem queueReport_frame (r : Report) (s : State) :
    { queueReport r s with port := s.port, agent := s.agent, handed := s.handed } = s := by
  simp only [queueReport_clock, queueReport_lineTime, queueReport_lots, queueReport_pacer, queueReport_chain,
    queueReport_canes, queueReport_drying, queueReport_climate, queueReport_discharge, queueReport_sequencer,
    queueReport_signals, queueReport_line, queueReport_pending]

theorem reportExcursion_frame (p q : Product) (n : Nat) (s : State) :
    { reportExcursion p q n s with port := s.port, agent := s.agent, handed := s.handed } = s := by
  rw [reportExcursion]
  split
  · exact queueReport_frame _ s
  · rfl

/-- An excursion that a visit has just filled is reported, with room at an ordinary node (R90, R171). -/
theorem reportExcursion_management {p q : Product} {x : Excursion} {s : State} (n : Nat) (hp : p.excursion = none)
    (hq : q.excursion = some x) (hs : s.port.silent = false) (hf : s.port.fill .management < 5) :
    (reportExcursion p q n s).port.management.map Frame.body = s.port.management.map Frame.body ++
      [.report s.agent.missed s.lineTime (.excursion n q.lot (s.lotSlot q.lot).header.lotNumber x)] := by
  have hreport : reportExcursion p q n s =
      queueReport (.excursion n q.lot (s.lotSlot q.lot).header.lotNumber x) s := by
    simp only [reportExcursion, hp, hq]
  rw [hreport, queueReport_of_room _ hs hf]
  simp [Port.withReport]

/-! ## The obligation -/

/-- The record after a visit without a climate (R84, R88). -/
theorem unknownVisit_eq (s : State) (time : Nat) (p : Product) :
    unknownVisit s time p = { p with
      climateUnknown := true,
      stageOverrun := decide (((s.lotSlot p.lot).stages.getD p.stage default).maxDwell * 60 < time - p.stageEntry) ||
        p.stageOverrun } := overrunTest_eq _ _ _

/-- Settles O32: the number's record by its kind, and a PRODUCT record by its zone's climate. -/
theorem visitsDryTheRecords : Obligations.VisitsDryTheRecords := by
  intro s w n hw hn w1 swept
  have hexec := exec_caneVisit hw hn
  refine ⟨fun hpos => hexec.trans (congrArg _ (takeNumber_skipped hpos)), ?_⟩
  intro pos c hpos hc place
  refine ⟨fun hp => hexec.trans (congrArg _ (takeNumber_empty hpos hc hp)), ?_⟩
  intro p hp profile overrun
  refine ⟨fun k hk hlost => ?_, fun k temp rh hk ht hh => ?_⟩
  · rw [hexec, takeNumber_product hpos hc hp, visitProduct_unknown (visitClimate_unknown hk hlost), unknownVisit_eq,
      setProduct_eq hc]
    rfl
  · intro tb meq frac moisture advance stage entry excursion visited
    have hvisited : knownVisit s w.time k temp rh p = visited := by
      simp only [knownVisit, excursionTest_eq, overrunTest_eq, advanceTest_eq]
      rfl
    let dried : State := { swept { w1 with updated := w.updated + 1 } with
      canes := { s.canes with records := s.canes.records.set place { c with product := some visited } } }
    have hvisit : takeNumber w n s = reportExcursion p visited c.sequence dried := by
      rw [takeNumber_product hpos hc hp, visitProduct_known (visitClimate_known hk ht hh),
        show (w.taken n).time = w.time from rfl, hvisited, setProduct_eq hc]
      rfl
    have hframe := reportExcursion_frame p visited c.sequence dried
    refine ⟨_, hexec.trans (congrArg _ hvisit), (congrArg State.canes hframe :), (congrArg State.drying hframe :),
      (congrArg (fun u : State => { u with canes := s.canes, drying := s.drying }) hframe :), ?_⟩
    intro hnone x hx hsilent hfill
    exact reportExcursion_management (s := dried) c.sequence hnone hx hsilent hfill

end Sys2Proof.Machine
end

section
/-!
SUPPORT. The lengths of the payloads (R156): every frame but a response by its layout, a response by its body.
-/

namespace Sys2Proof.Machine

/-! ## Reports and commands (section 11.4) -/

theorem excursionTail_length_le (x : Option Excursion) : (excursionTail x).length ≤ 10 := by
  cases x <;> simp [excursionTail, excursionBytes]

theorem presentSequence_length (q : Option Nat) : (presentSequence q).length = 4 := by
  cases q <;> simp [presentSequence]

/-- CANE_OUT is the longest report. -/
theorem reportBody_length_le (r : Report) : (reportBody r).length ≤ 33 := by
  cases r with
  | caneOut e n =>
    have htail := excursionTail_length_le e.product.excursion
    simp only [reportBody, flagByte, List.length_append, be_length, List.length_cons, List.length_nil]
    omega
  | modeChange old new reason code => simp [reportBody]
  | faultRaised code detail before after => simp [reportBody]
  | lotFreed slot n => simp [reportBody]
  | excursion q slot n x => simp [reportBody, excursionBytes]
  | dischargeNote strays count head => simp [reportBody, presentSequence_length]
  | unexpectedCut cuts length st => simp [reportBody]

/-- A frame's payload fits when its body, if it is a response, has at most 45 characters (R156). -/
theorem payloadOf_length_le {body : FrameBody}
    (h : ∀ tag code o bytes, body = .response tag code o bytes → bytes.length ≤ 45) : (payloadOf body).length ≤ 48 := by
  cases body with
  | response tag code o bytes =>
    have hbytes := h tag code o bytes rfl
    simp only [payloadOf, List.length_append, List.length_cons, List.length_nil]
    omega
  | report missed time r =>
    have hreport := reportBody_length_le r
    simp only [payloadOf, List.length_cons, List.length_append, be_length]
    omega
  | knifeFire | chainStep | pressCmd => simp [payloadOf, flagByte]
  | zoneClimate | airDir | stripOrder => simp [payloadOf]

/-! ## The bodies of the responses (section 11.4, section 11.5) -/

theorem caneBytes_length_le (c : Cane) : (caneBytes c).length ≤ 35 := by
  rw [caneBytes]
  split
  · simp
  case h_2 p _ =>
    have htail := excursionTail_length_le p.excursion
    simp only [List.length_append, be_length, List.length_cons, List.length_nil]
    omega

/-- Pieces of at most `k` characters make at most as many times `k`. -/
theorem flatten_length_le {k n : Nat} {ps : List (List Byte)} (hk : ∀ p ∈ ps, p.length ≤ k) (hn : ps.length ≤ n) :
    ps.flatten.length ≤ n * k := by
  have hsum : ps.flatten.length ≤ ps.length * k := by
    rw [List.length_flatten]
    exact (List.sum_le_card_nsmul _ k (List.forall_mem_map.2 hk)).trans (by simp)
  exact hsum.trans (Nat.mul_le_mul_right k hn)

/-- The pieces that a function gives for 0 to n − 1. -/
theorem flatten_range_length_le {k : Nat} (n : Nat) {f : Nat → List Byte} (h : ∀ i, (f i).length ≤ k) :
    ((List.range n).map f).flatten.length ≤ n * k :=
  flatten_length_le (List.forall_mem_map.2 fun i _ => h i) (by simp)

/-- Every entry of a table is read in its entry size (section 11.5). -/
theorem tableEntries_length_le (s : State) (t : TableId) : ∀ e ∈ s.tableEntries t, e.length ≤ entrySize t := by
  cases t with
  | listen => exact List.forall_mem_map.2 fun e _ => by cases e <;> simp [listenBytes, entrySize]
  | talk => exact List.forall_mem_map.2 fun e _ => by cases e <;> simp [talkBytes, entrySize]
  | zone => exact List.forall_mem_map.2 fun z _ => by simp [zoneBytes, entrySize]
  | meq | kd | gap => exact List.forall_mem_map.2 fun n _ => by simp [entrySize]
  | zoneCount | model | pacer | line =>
    exact List.forall_mem_singleton.2 (by simp [modelBytes, pacerBytes, lineBytes, limitsBytes, entrySize])
  | lot => nofun

/-- As many whole entries are returned as 42 characters hold (R172). -/
theorem tableBody_length_le (s : State) (t : TableId) (id first count : Nat) :
    (s.tableBody t id first count).length ≤ 45 := by
  have hentries : (((s.tableEntries t).drop first).take (entriesReturned t count)).flatten.length ≤
      entriesReturned t count * entrySize t :=
    flatten_length_le (fun e he => tableEntries_length_le s t e (List.mem_of_mem_drop (List.mem_of_mem_take he)))
      (List.length_take_le _ _)
  have hreturned : entriesReturned t count * entrySize t ≤ 42 :=
    (Nat.mul_le_mul_right _ (Nat.min_le_right _ _)).trans (Nat.div_mul_le_self 42 _)
  simp only [State.tableBody, List.length_append, be_length]
  omega

theorem lotBody_length_le (s : State) (i g : Nat) : (s.lotBody i g).length ≤ 45 := by
  have hstages : ((((s.lotSlot i).stages.drop g).take 1).map stageBytes).flatten.length ≤ 1 * 12 :=
    flatten_length_le (List.forall_mem_map.2 fun e _ => (stageBytes_length e).le)
      (by rw [List.length_map]; exact List.length_take_le _ _)
  simp only [State.lotBody, List.length_append, be_length, headerBytes_length, List.length_cons, List.length_nil]
  omega

theorem zonePage_length_le (s : State) (first : Nat) : (s.zonePage first).length ≤ 40 := by
  refine flatten_range_length_le (k := 10) 4 fun k => ?_
  have htimer (x : Timer) : (timerBytes x).length = 4 := by cases x <;> simp [timerBytes]
  simp [State.zonePart, htimer]

theorem slotRun_length_le (s : State) (first count : Nat) : (s.slotRun first count).length ≤ count * 7 :=
  flatten_range_length_le count fun k => by simp [State.slotPart]

theorem faultPage_length_le (s : State) (first : Nat) : (s.faultPage first).length ≤ 28 := by
  refine flatten_range_length_le (k := 7) 4 fun k => ?_
  cases s.sequencer.faults[first + k]? <;> simp [faultBytes]

/-- With its number before its fields every page fits a response (R175). -/
theorem statusPage_length_le {s : State} {page : Nat} {fields : List Byte} (h : s.statusPage page = some fields) :
    fields.length ≤ 44 := by
  have hslots := slotRun_length_le s
  have hpointer (x : Option Nat) : (slotByte x).length = 1 := by cases x <;> simp [slotByte]
  have hkind (x : Option Cane) : (kindByte x).length = 1 := by cases x <;> simp [kindByte, flagByte]
  have hlatch (x : LatchTimer) : (latchTimerBytes x).length = 4 := by cases x <;> simp [latchTimerBytes]
  have hsweep (x : Option Sweep) : (sweepBytes x).length ≤ 8 := by
    cases x <;> simp [sweepBytes, presentSequence_length]
  unfold State.statusPage at h
  split at h <;> cases h
  case h_1 => simp [State.page0, flagByte]
  case h_2 => exact (faultPage_length_le s 0).trans (by decide)
  case h_3 => exact (faultPage_length_le s 4).trans (by decide)
  case h_4 => simp [State.page3, flagByte, hpointer]
  case h_5 => simp [State.page4, flagByte, hkind, sequenceBytes]
  case h_6 => simp [State.page5, flagByte, presentSequence_length, hlatch]
  case h_7 =>
    have hlast := hsweep s.drying.sweep
    simp only [State.page6, flagByte, List.length_append, be_length, List.length_cons, List.length_nil]
    omega
  case h_8 =>
    have hzones := zonePage_length_le s 0
    rw [List.length_append, be_length]
    omega
  case h_9 => exact (zonePage_length_le s 4).trans (by decide)
  case h_10 => exact (zonePage_length_le s 8).trans (by decide)
  case h_11 => exact (hslots 0 6).trans (by decide)
  case h_12 =>
    have hrun := hslots 6 2
    simp only [State.page11, State.baselinePart, flagByte, List.map_cons, List.map_nil, List.flatten_cons,
      List.flatten_nil, List.length_append, be_length, List.length_cons, List.length_nil]
    omega
  case h_13 => exact (hslots 8 5).trans (by decide)
  case h_14 => exact (hslots 13 5).trans (by decide)
  case h_15 => exact (hslots 18 5).trans (by decide)
  case h_16 => exact (hslots 23 5).trans (by decide)
  case h_17 => exact (hslots 28 4).trans (by decide)
  case h_18 => simp [State.page17]

end Sys2Proof.Machine
end

section
/-!
SUPPORT. The laws of what is sent (R104, R156, R160) and of the zones it is sent for (R95, R97, R100): what they read of
a state, and how a frame, a zone command and a zone's new state keep them.
-/

namespace Sys2Proof.Machine

/-! ## What the laws read -/

/-- What the laws read of a state: the frames of the trunk port, the zone states, and the zone map. -/
structure Sendings where
  urgent : List Frame
  routine : List Frame
  management : List Frame
  contention : Option Frame
  climates : List ZoneState
  zoneCount : Nat
  zones : List ZoneEntry

/-- What the laws read of a state. -/
def State.sendings (s : State) : Sendings :=
  { urgent := s.port.urgent, routine := s.port.routine, management := s.port.management,
    contention := s.port.contention, climates := s.climate.zones, zoneCount := s.canes.zoneCount,
    zones := s.canes.zones }

theorem sendings_congr {s t : State} (hp : t.port = s.port) (hc : t.climate = s.climate) (hz : t.canes = s.canes) :
    t.sendings = s.sendings := by rw [State.sendings, State.sendings, hp, hc, hz]

/-- The climate law with the ranges of the zone map that it leans on (R52, R95, R96). -/
structure ZonesLaw (s : State) : Prop where
  climate : ClimateLaw s
  count_le : s.canes.zoneCount ≤ 12
  ranged : ∀ z ∈ s.canes.zones, z.inRange = true

/-- The law of the zones is read from the zone states and the cane queue's zone map. -/
theorem zonesLaw_congr {s t : State} (hz : t.climate.zones = s.climate.zones) (hc : t.canes = s.canes) (h : ZonesLaw s) :
    ZonesLaw t := by
  obtain ⟨hclimate, hle, hrange⟩ := h
  refine ⟨?_, hc ▸ hle, hc ▸ hrange⟩
  unfold ClimateLaw State.zoneState State.zoneEntry at hclimate ⊢
  rwa [hz, hc]

/-- Every frame of the port has a payload of at most 48 characters (R156), queue by queue. -/
theorem payloadLaw_iff (s : State) :
    PayloadLaw s ↔ (∀ q, ∀ f ∈ s.port.entries q, (payloadOf f.body).length ≤ 48) ∧
      ∀ f, s.port.contention = some f → (payloadOf f.body).length ≤ 48 := by
  simp only [PayloadLaw, List.mem_append, Option.mem_toList]
  constructor
  · refine fun h => ⟨fun q f hf => h f ?_, fun f hf => h f (.inr hf)⟩
    cases q with
    | urgent => exact .inl (.inl (.inl hf))
    | routine => exact .inl (.inl (.inr hf))
    | management => exact .inl (.inr hf)
  · rintro ⟨hqueues, hcontention⟩ f (((hf | hf) | hf) | hf)
    · exact hqueues .urgent f hf
    · exact hqueues .routine f hf
    · exact hqueues .management f hf
    · exact hcontention f hf

/-- From `s` to `t` the laws of the queues, the payloads and the zones are kept. -/
structure State.StaysLawful (s t : State) : Prop where
  queues : QueueLaw s → QueueLaw t
  payloads : PayloadLaw s → PayloadLaw t
  zones : ZonesLaw s → ZonesLaw t

/-- A queue's fill is read from its entries and the frame in contention. -/
theorem fill_congr {p p' : Port} {q : QueueId} (he : p'.entries q = p.entries q)
    (hc : p'.contention = p.contention) : p'.fill q = p.fill q := by
  rw [Port.fill, Port.fill, he, Port.contending, Port.contending, hc]

namespace State.StaysLawful

theorem refl (s : State) : s.StaysLawful s := ⟨id, id, id⟩

theorem trans {s t u : State} (h : s.StaysLawful t) (k : t.StaysLawful u) : s.StaysLawful u :=
  ⟨k.queues ∘ h.queues, k.payloads ∘ h.payloads, k.zones ∘ h.zones⟩

/-- A state with the same frames, zone states and zone map is as lawful. -/
theorem of_eq {s t : State} (h : t.sendings = s.sendings) : s.StaysLawful t := by
  obtain ⟨hu, hr, hm, hc, hz, hn, hmap⟩ := Sendings.mk.inj h
  have hentries (q : QueueId) : t.port.entries q = s.port.entries q := by
    cases q with
    | urgent => exact hu
    | routine => exact hr
    | management => exact hm
  refine ⟨fun hs => ?_, fun hs => ?_, fun ⟨hs, hle, hrange⟩ => ⟨?_, hn ▸ hle, hmap ▸ hrange⟩⟩
  · obtain ⟨hkind, hfill, hkeys⟩ := hs
    exact ⟨fun q => hentries q ▸ hkind q, fun q => fill_congr (hentries q) hc ▸ hfill q, hr ▸ hkeys⟩
  · rw [payloadLaw_iff] at hs ⊢
    exact ⟨fun q => hentries q ▸ hs.1 q, hc ▸ hs.2⟩
  · unfold ClimateLaw State.zoneState State.zoneEntry at hs ⊢
    rwa [hz, hn, hmap]

/-- A state that differs from a lawful one outside the frames, the zone states and the zone map. -/
theorem then_eq {s t u : State} (h : s.StaysLawful t) (k : u.sendings = t.sendings) : s.StaysLawful u :=
  h.trans (of_eq k)

/-- A fold of operations that keep the laws keeps them. -/
theorem foldl {β : Type} {f : State → β → State} (h : ∀ (u : State) (b : β), u.StaysLawful (f u b)) (bs : List β)
    (s : State) : s.StaysLawful (bs.foldl f s) := by
  induction bs generalizing s with
  | nil => exact refl s
  | cons b bs ih => exact (h s b).trans (ih _)

/-- An operation made on a condition keeps what the operation keeps. -/
theorem ite {c : Prop} [Decidable c] {s t : State} (h : s.StaysLawful t) : s.StaysLawful (if c then t else s) := by
  split
  · exact h
  · exact refl s

end State.StaysLawful

/-! ## Updates that leave them -/

@[simp] theorem State.hand_sendings (s : State) (e : Instr) : (s.hand e).sendings = s.sendings := rfl

@[simp] theorem State.took_sendings (s : State) (e : Instr) : (s.took e).sendings = s.sendings := rfl

@[simp] theorem State.setPacer_sendings (s : State) (p : Pacer) : (s.setPacer p).sendings = s.sendings := rfl

@[simp] theorem State.setChain_sendings (s : State) (c : Chain) : (s.setChain c).sendings = s.sendings := rfl

@[simp] theorem State.setLot_sendings (s : State) (i : Nat) (l : LotSlot) : (s.setLot i l).sendings = s.sendings := rfl

@[simp] theorem State.setDrying_sendings (s : State) (d : Drying) : (s.setDrying d).sendings = s.sendings := rfl

@[simp] theorem State.setDischarge_sendings (s : State) (d : Discharge) : (s.setDischarge d).sendings = s.sendings := rfl

@[simp] theorem State.setSequencer_sendings (s : State) (q : Sequencer) : (s.setSequencer q).sendings = s.sendings := rfl

@[simp] theorem State.setSlot_sendings (s : State) (r : Nat) (x : Slot) : (s.setSlot r x).sendings = s.sendings := rfl

@[simp] theorem State.setLoss_sendings (s : State) (k : Nat) (t : LatchTimer) (m : Bool) :
    (s.setLoss k t m).sendings = s.sendings := rfl

@[simp] theorem setStepState_sendings (st : StepState) (s : State) : (setStepState st s).sendings = s.sendings := rfl

@[simp] theorem setPacerState_sendings (st : PacerState) (s : State) : (setPacerState st s).sendings = s.sendings := rfl

@[simp] theorem setMode_sendings (m : LineMode) (s : State) : (setMode m s).sendings = s.sendings := rfl

/-! ## The queues (R104, R160) -/

/-- The kinds and zones of the zone commands in a queue, in their order (R104). -/
def commandKeys (fs : List Frame) : List (ZoneCommandKind × Nat) := fs.filterMap fun f => zoneKey f.body

/-- A zone command belongs in the routine queue. -/
theorem queueOf_of_zoneKey {body : FrameBody} {key : ZoneCommandKind × Nat} (h : zoneKey body = some key) :
    queueOf body = .routine := by
  cases body with
  | zoneClimate | airDir => rfl
  | knifeFire | chainStep | pressCmd | stripOrder | response | report => cases h

/-- Without a zone command of its kind and zone in the queue its key is not among those of the queue. -/
theorem notMem_commandKeys {body : FrameBody} {fs : List Frame} {key : ZoneCommandKind × Nat}
    (hkey : zoneKey body = some key) (h : hasZoneCommand body fs = false) : key ∉ commandKeys fs := by
  intro hmem
  obtain ⟨f, hf, hfk⟩ := List.mem_filterMap.1 hmem
  rw [(hasZoneCommand_iff body fs).2 ⟨f, hf, hfk.trans hkey.symm⟩] at h
  cases h

/-- A frame that is no zone command, or the only one of its kind and zone, joins a queue that has each once. -/
theorem commandKeys_cons_nodup {f : Frame} {fs : List Frame} (h : (commandKeys fs).Nodup)
    (hkey : zoneKey f.body = none ∨ hasZoneCommand f.body fs = false) : (commandKeys (f :: fs)).Nodup := by
  cases hk : zoneKey f.body with
  | none => rwa [commandKeys, List.filterMap_cons_none (f := fun f : Frame => zoneKey f.body) hk]
  | some key =>
    rw [commandKeys, List.filterMap_cons_some (f := fun f : Frame => zoneKey f.body) hk]
    exact List.nodup_cons.2 ⟨notMem_commandKeys hk (hkey.resolve_left (by rw [hk]; nofun)), h⟩

/-- The place at which it joins does not matter. -/
theorem commandKeys_concat_nodup {f : Frame} {fs : List Frame} (h : (commandKeys fs).Nodup)
    (hkey : zoneKey f.body = none ∨ hasZoneCommand f.body fs = false) : (commandKeys (fs ++ [f])).Nodup :=
  ((List.perm_append_singleton f fs).filterMap _).nodup_iff.2 (commandKeys_cons_nodup h hkey)

/-- A replacement in place leaves the kinds and zones of the queue (R104). -/
theorem commandKeys_replaceZoneCommand (f : Frame) (fs : List Frame) :
    commandKeys (replaceZoneCommand f fs) = commandKeys fs := by
  rw [commandKeys, replaceZoneCommand, List.filterMap_map]
  refine List.filterMap_congr fun e _ => ?_
  simp only [Function.comp]
  split
  case isTrue he => exact he.symm
  case isFalse => rfl

/-- The queue law of a state in which one queue's entries have changed, and no other queue's fill has grown. -/
theorem QueueLaw.of_change {s t : State} {q : QueueId} (hs : QueueLaw s)
    (hother : ∀ r, r ≠ q → t.port.entries r = s.port.entries r ∧ t.port.fill r ≤ s.port.fill r)
    (hkind : ∀ f ∈ t.port.entries q, queueOf f.body = q) (hfill : t.port.fill q ≤ queueCapacity q)
    (hkeys : q = .routine → (commandKeys t.port.routine).Nodup) : QueueLaw t := by
  obtain ⟨hskind, hsfill, hskeys⟩ := hs
  refine ⟨fun r => ?_, fun r => ?_, ?_⟩
  · by_cases hr : r = q
    · exact hr ▸ hkind
    · rw [(hother r hr).1]; exact hskind r
  · by_cases hr : r = q
    · exact hr ▸ hfill
    · exact (hother r hr).2.trans (hsfill r)
  · by_cases hr : .routine = q
    · exact hkeys hr.symm
    · rw [show t.port.routine = s.port.routine from (hother .routine hr).1]; exact hskeys

/-- The payload law of a state whose frames were all there before, but for one of at most 48 characters. -/
theorem PayloadLaw.of_change {s t : State} {g : Frame} (hs : PayloadLaw s) (hg : (payloadOf g.body).length ≤ 48)
    (hentries : ∀ q, ∀ f ∈ t.port.entries q, f ∈ s.port.entries q ∨ f = g)
    (hcontention : t.port.contention = s.port.contention) : PayloadLaw t := by
  rw [payloadLaw_iff] at hs ⊢
  refine ⟨fun q f hf => ?_, hcontention ▸ hs.2⟩
  rcases hentries q f hf with hf | rfl
  · exact hs.1 q f hf
  · exact hg

/-! ## Frames and reports (R160, R171) -/

theorem handFrame_contention (dest : Nat) (body : FrameBody) (s : State) :
    (handFrame dest body s).port.contention = s.port.contention := by
  rcases handFrame_cases dest body s with ⟨-, h⟩ | ⟨-, -, h⟩ <;> rw [h]
  · rfl
  · rw [Port.joinTail]; cases queueOf body <;> rfl

/-- A frame with a payload that fits, and no zone command that already stands in its queue, is handed to the port. -/
theorem handFrame_lawful {dest : Nat} {body : FrameBody} {s : State}
    (hkey : zoneKey body = none ∨ hasZoneCommand body s.port.routine = false)
    (hlen : (payloadOf body).length ≤ 48) : s.StaysLawful (handFrame dest body s) := by
  by_cases hjoins : s.port.silent = false ∧ s.port.hasRoom (queueOf body) = true
  case neg =>
    rcases handFrame_cases dest body s with ⟨-, h⟩ | ⟨h1, h2, -⟩
    · rw [h]; exact .of_eq rfl
    · exact absurd ⟨h1, h2⟩ hjoins
  let f : Frame := { number := inc32 s.port.frameCount, dest := dest, body := body }
  have hself : (handFrame dest body s).port.entries (queueOf body) = s.port.entries (queueOf body) ++ [f] :=
    (handFrame_entries_self dest body s).trans (by rw [if_pos hjoins])
  have hother {r : QueueId} (hr : r ≠ queueOf body) := handFrame_entries_ne dest body s hr
  refine ⟨fun hs => hs.of_change (q := queueOf body) (fun r hr => ⟨hother hr, ?_⟩) ?_ ?_ ?_,
    fun hs => hs.of_change (g := f) hlen (fun q g hg => ?_) (handFrame_contention dest body s), ?_⟩
  · exact (handFrame_fill_ne dest body s hr).le
  · rw [hself]
    exact List.forall_mem_append.2 ⟨hs.1 _, List.forall_mem_singleton.2 rfl⟩
  · have hroom : s.port.fill (queueOf body) < queueCapacity (queueOf body) := of_decide_eq_true hjoins.2
    rw [Port.fill, hself, handFrame_contending, List.length_append]
    rw [Port.fill] at hroom
    change _ + 1 + _ ≤ _
    omega
  · intro hq
    rw [hq] at hself
    rw [show (handFrame dest body s).port.routine = s.port.routine ++ [f] from hself]
    exact commandKeys_concat_nodup hs.2.2 hkey
  · by_cases hq : q = queueOf body
    · rw [hq, hself] at hg
      exact (List.mem_append.1 (hq ▸ hg)).imp_right List.mem_singleton.1
    · exact .inl (hother hq ▸ hg)
  · exact zonesLaw_congr (congrArg Climate.zones (handFrame_climate dest body s)) (handFrame_canes dest body s)

/-- A report may be queued at any time (R171). -/
theorem queueReport_lawful (r : Report) (s : State) : s.StaysLawful (queueReport r s) := by
  rcases queueReport_cases r s with ⟨-, h⟩ | ⟨-, n, h⟩ <;> rw [h]
  · exact .of_eq rfl
  · refine (handFrame_lawful (.inl rfl) ?_).then_eq rfl
    exact payloadOf_length_le nofun

/-! ## Zone commands and zone states (R95, R97, R103, R104) -/

/-- A zone command takes the place of its like, or joins the tail without one (R104). -/
theorem queueZoneCommand_lawful {role : Nat} {body : FrameBody} {s : State} (hq : queueOf body = .routine)
    (hlen : (payloadOf body).length ≤ 48) : s.StaysLawful (queueZoneCommand role body s) := by
  rcases queueZoneCommand_cases role body s with h | ⟨dest, -, ⟨-, h⟩ | ⟨hnew, -, h⟩⟩ <;> rw [h]
  · exact .refl s
  · let f : Frame := { number := s.nextFrame, dest := dest, body := body }
    have hmem {e : Frame} (he : e ∈ replaceZoneCommand f s.port.routine) : e ∈ s.port.routine ∨ e = f := by
      obtain ⟨x, hx, rfl⟩ := List.mem_map.1 he
      split
      · exact .inr rfl
      · exact .inl hx
    refine ⟨fun hs => hs.of_change (q := .routine) (fun r hr => ?_) (fun e he => ?_) ?_ fun _ => ?_,
      fun hs => hs.of_change (g := f) hlen (fun q e he => ?_) rfl, zonesLaw_congr rfl rfl⟩
    · cases r with
      | routine => exact absurd rfl hr
      | urgent | management => exact ⟨rfl, le_rfl⟩
    · rcases hmem he with he | rfl
      · exact hs.1 .routine e he
      · exact hq
    · have hlength : (replaceZoneCommand f s.port.routine).length = s.port.routine.length := List.length_map ..
      exact (congrArg (· + s.port.contending .routine) hlength).le.trans (hs.2.1 .routine)
    · exact (commandKeys_replaceZoneCommand f _).symm ▸ hs.2.2
    · cases q with
      | routine => exact hmem he
      | urgent | management => exact .inl he
  · exact handFrame_lawful (.inr hnew) hlen

theorem queueZoneClimate_lawful (k : Nat) (s : State) : s.StaysLawful (queueZoneClimate k s) :=
  queueZoneCommand_lawful rfl (payloadOf_length_le nofun)

theorem queueAirDir_lawful (k : Nat) (s : State) : s.StaysLawful (queueAirDir k s) :=
  queueZoneCommand_lawful rfl (payloadOf_length_le nofun)

/-- Every entry of the zone map is in range; beyond the table all its fields are 0. -/
theorem ZonesLaw.zoneEntry {s : State} (h : ZonesLaw s) (k : Nat) : (s.zoneEntry k).inRange = true := by
  by_cases hk : k < s.canes.zones.length
  · rw [State.zoneEntry, List.getD_eq_getElem _ _ hk]
    exact h.ranged _ (List.getElem_mem hk)
  · rw [State.zoneEntry, List.getD_eq_default _ _ (Nat.le_of_not_lt hk)]
    rfl

/-- What the climate law says of zone `k` with the state `z`, configured or not. -/
structure ZoneState.Lawful (z : ZoneState) (s : State) (k : Nat) : Prop where
  demand : -127 ≤ z.demand ∧ z.demand ≤ 127
  temp : k < s.canes.zoneCount → (s.zoneEntry k).tMin ≤ z.tempSetpoint ∧ z.tempSetpoint ≤ (s.zoneEntry k).tMax
  rh : k < s.canes.zoneCount → (s.zoneEntry k).rhMin ≤ z.rhSetpoint ∧ z.rhSetpoint ≤ (s.zoneEntry k).rhMax
  air : s.canes.zoneCount ≤ k → z.airTimer = .stopped

/-- The climate law, zone by zone. -/
theorem climateLaw_iff (s : State) :
    ClimateLaw s ↔ s.climate.zones.length = 12 ∧ ∀ k, (s.zoneState k).Lawful s k := by
  constructor
  · rintro ⟨hlen, hdemand, hlimits, hair⟩
    refine ⟨hlen, fun k => ⟨?_, fun hk => ?_, fun hk => ?_, hair k⟩⟩
    · by_cases hk : k < s.climate.zones.length
      · rw [State.zoneState, List.getD_eq_getElem _ _ hk]
        exact hdemand _ (List.getElem_mem hk)
      · rw [State.zoneState, List.getD_eq_default _ _ (Nat.le_of_not_lt hk)]
        decide
    · obtain ⟨h1, h2, -, -⟩ := hlimits k hk
      exact ⟨h1, h2⟩
    · obtain ⟨-, -, h3, h4⟩ := hlimits k hk
      exact ⟨h3, h4⟩
  · rintro ⟨hlen, h⟩
    refine ⟨hlen, fun z hz => ?_, fun k hk => ?_, fun k hk => (h k).air hk⟩
    · obtain ⟨k, hk, rfl⟩ := List.getElem_of_mem hz
      have hdemand := (h k).demand
      rwa [State.zoneState, List.getD_eq_getElem _ _ hk] at hdemand
    · obtain ⟨h1, h2⟩ := (h k).temp hk
      obtain ⟨h3, h4⟩ := (h k).rh hk
      exact ⟨h1, h2, h3, h4⟩

/-- A zone's state in a state that meets the laws. -/
theorem ZonesLaw.zoneState {s : State} (h : ZonesLaw s) (k : Nat) : (s.zoneState k).Lawful s k :=
  ((climateLaw_iff s).1 h.climate).2 k

/-- A lawful state of a zone may be stored. -/
theorem setZone_lawful {s : State} {k : Nat} {z : ZoneState} (h : ZonesLaw s → z.Lawful s k) :
    s.StaysLawful (s.setZone k z) := by
  refine ⟨id, id, fun hs => ⟨?_, hs.count_le, hs.ranged⟩⟩
  obtain ⟨hlen, hzones⟩ := (climateLaw_iff s).1 hs.climate
  refine (climateLaw_iff _).2 ⟨List.length_set.trans hlen, fun j => ?_⟩
  have hstored : ((s.setZone k z).zoneState j).Lawful s j := by
    by_cases hk : k < s.climate.zones.length
    · rw [zoneState_setZone z j hk]
      split
      case isTrue hj => exact hj ▸ h hs
      case isFalse => exact hzones j
    · have hsame : (s.setZone k z).climate.zones = s.climate.zones := List.set_eq_of_length_le (Nat.le_of_not_lt hk)
      rw [zoneState_congr hsame]
      exact hzones j
  exact ⟨hstored.demand, hstored.temp, hstored.rh, hstored.air⟩

/-- A demand is clamped (R102). -/
theorem demandAgainst_inRange (s : State) (k rh : Nat) : -127 ≤ demandAgainst s k rh ∧ demandAgainst s k rh ≤ 127 := by
  rw [demandAgainst]
  split <;> omega

/-- A zone's demand is computed and stored, and its ZONE_CLIMATE queued (R102). -/
theorem refreshDemand_lawful (k : Nat) (s : State) : s.StaysLawful (refreshDemand k s) := by
  refine State.StaysLawful.trans ?_ (queueZoneClimate_lawful k _)
  refine setZone_lawful fun hs => { hs.zoneState k with demand := ?_ }
  rw [humidityDemand_eq]
  exact demandAgainst_inRange s k _

/-- The air timer of a configured zone may start (R106, R107). -/
theorem startAirTimer_lawful {k : Nat} {s : State} (hk : k < s.canes.zoneCount) :
    s.StaysLawful (startAirTimer k s) := by
  have started : s.StaysLawful (s.setZone k { s.zoneState k with airTimer := .running (s.lineTime +
      (s.zoneEntry k).airBase + (staggerStep s.climate.stagger).toNat % ((s.zoneEntry k).airJitter + 1)) }) :=
    setZone_lawful fun hs => { hs.zoneState k with air := fun hle => absurd hk (Nat.not_lt.2 hle) }
  exact started.then_eq rfl

end Sys2Proof.Machine
end

section
/-!
SUPPORT. The shared operations keep the laws of what is sent and of the zones (R95, R100, R104, R156, R160): each hands
on frames, changes zone states, or leaves both.
-/

namespace Sys2Proof.Machine

/-! ## The evaluations and the station (R30, R56, R67) -/

theorem sendStep_lawful (c : Cane) (dest : Nat) (s : State) : s.StaysLawful (sendStep c dest s) := by
  have handed : s.StaysLawful (handFrame dest (.chainStep c.isProduct) s) :=
    handFrame_lawful (.inl rfl) (payloadOf_length_le nofun)
  exact handed.then_eq rfl

theorem evaluateChain_lawful (s : State) : s.StaysLawful (evaluateChain s) := by
  rcases evaluateChain_form s with h | ⟨st, h⟩ | ⟨c, dest, h⟩ <;> rw [h]
  · exact .refl s
  · exact .of_eq rfl
  · exact sendStep_lawful c dest s

theorem placeRecord_lawful (p : Option Product) (s : State) : s.StaysLawful (placeRecord p s) := by
  have placed : s.StaysLawful (stationed p s) := .of_eq rfl
  exact placed.trans (evaluateChain_lawful _)

theorem tryInsertion_lawful (s : State) : s.StaysLawful (tryInsertion s) := by
  rcases tryInsertion_cases s with ⟨-, h⟩ | ⟨-, h⟩ <;> rw [h]
  · have stopped : s.StaysLawful { s with chain := { s.chain with drainTimer := .stopped } } := .of_eq rfl
    exact stopped.trans (placeRecord_lawful none _)
  · exact .refl s

theorem sendFire_lawful (target dest : Nat) (s : State) : s.StaysLawful (sendFire target dest s) := by
  have handed : s.StaysLawful (handFrame dest (.knifeFire (decide (s.fireKind ≠ .hang))) s) :=
    handFrame_lawful (.inl rfl) (payloadOf_length_le nofun)
  exact handed.then_eq rfl

theorem evaluateFire_lawful (s : State) : s.StaysLawful (evaluateFire s) := by
  rcases evaluateFire_cases s with h | ⟨-, h | h | ⟨target, dest, -, -, -, -, h⟩⟩ <;> rw [h]
  · exact .refl s
  · exact .of_eq rfl
  · exact .of_eq rfl
  · exact sendFire_lawful target dest s

theorem afterFireEnd_lawful (s : State) : s.StaysLawful (afterFireEnd s) := by
  have rested : s.StaysLawful (setPacerState s.restState s) := .of_eq rfl
  exact rested.trans ((evaluateFire_lawful _).trans (tryInsertion_lawful _))

theorem afterStepEnd_lawful (s : State) : s.StaysLawful (afterStepEnd s) :=
  (evaluateFire_lawful s).trans (tryInsertion_lawful _)

/-! ## The lots (R12 to R17) -/

theorem freeIfRetired_lawful (i : Nat) (s : State) : s.StaysLawful (freeIfRetired i s) := by
  rcases freeIfRetired_cases i s with ⟨-, -, h⟩ | ⟨-, h⟩ <;> rw [h]
  · have cleared : s.StaysLawful (s.setLot i .cleared) := .of_eq rfl
    exact cleared.trans (queueReport_lawful _ _)
  · exact .refl s

theorem releaseRef_lawful (i : Nat) (s : State) : s.StaysLawful (releaseRef i s) := by
  have lowered : s.StaysLawful (s.setLot i { s.lotSlot i with refCount := (s.lotSlot i).refCount - 1 }) := .of_eq rfl
  exact lowered.trans (freeIfRetired_lawful i _)

@[simp] theorem activateArmed_sendings (s : State) : (activateArmed s).sendings = s.sendings := by
  rw [activateArmed]; split <;> rfl

theorem switchTest_lawful (s : State) : s.StaysLawful (switchTest s) := by
  rw [switchTest]
  split
  case h_1 new old _ _ =>
    have retired : s.StaysLawful (s.setLot old { s.lotSlot old with life := .retiring }) := .of_eq rfl
    exact .ite ((retired.trans (freeIfRetired_lawful old _)).then_eq rfl)
  case h_2 => exact .refl s

/-! ## The line sequencer and the modes (R128, R129, R132) -/

theorem queuePressCommand_lawful (s : State) : s.StaysLawful (queuePressCommand s) := by
  rcases queuePressCommand_cases s with ⟨dest, -, -, h⟩ | ⟨-, h⟩ <;> rw [h]
  · refine (handFrame_lawful (.inl rfl) ?_).then_eq rfl
    exact payloadOf_length_le nofun
  · exact .of_eq rfl

theorem enterModeCore_lawful (m : LineMode) (r : ModeReason) (c : Option FaultCode) (s : State) :
    s.StaysLawful (enterModeCore m r c s) := by
  have entered : s.StaysLawful (setMode m s) := .of_eq rfl
  have pressed : s.StaysLawful (if entersWithPressCommand m then queuePressCommand (setMode m s) else setMode m s) :=
    entered.trans (.ite (queuePressCommand_lawful _))
  exact (pressed.trans (queueReport_lawful _ _)).then_eq rfl

theorem raiseFault_lawful (c : FaultCode) (d : Nat) (s : State) : s.StaysLawful (raiseFault c d s) := by
  rcases raiseFault_cases c d s with ⟨-, h⟩ | ⟨-, h⟩ <;> rw [h]
  · exact .of_eq rfl
  · have listed : s.StaysLawful { s with sequencer := { s.sequencer with
        faults := s.sequencer.faults ++ [{ code := c, time := s.lineTime, count := 1, detail := d }] } } := .of_eq rfl
    split
    · exact listed.trans (queueReport_lawful _ _)
    · exact listed.trans ((queueReport_lawful _ _).trans (enterModeCore_lawful _ _ _ _))

theorem speedLostTest_lawful (s : State) : s.StaysLawful (speedLostTest s) := .ite (raiseFault_lawful _ _ s)

theorem enterMode_lawful (m : LineMode) (r : ModeReason) (s : State) : s.StaysLawful (enterMode m r s) := by
  have core : s.StaysLawful (enterModeCore m r none s) := enterModeCore_lawful m r none s
  unfold enterMode
  cases m with
  | running => exact core.then_eq (activateArmed_sendings _)
  | priming => exact core.trans (speedLostTest_lawful _)
  | stopped | holding | draining | safe => exact core

/-! ## The climate loss and the slots (R137, R148) -/

@[simp] theorem climateSlotLost_sendings (k : Nat) (s : State) : (climateSlotLost k s).sendings = s.sendings :=
  sendings_congr (by rw [climateSlotLost]; split <;> rfl) (by simp) (by simp)

@[simp] theorem climateSlotBack_sendings (k : Nat) (s : State) : (climateSlotBack k s).sendings = s.sendings :=
  sendings_congr (by rw [climateSlotBack]; split <;> rfl) (by simp) (by simp)

theorem climateCheckZone_lawful (k : Nat) (s : State) : s.StaysLawful (climateCheckZone k s) := by
  have marked : s.StaysLawful (s.setLoss k .expired true) := .of_eq rfl
  exact .ite (marked.trans (raiseFault_lawful _ _ _))

theorem climateCheck_lawful (s : State) : s.StaysLawful (climateCheck s) :=
  .foldl (fun u k => climateCheckZone_lawful k u) _ s

theorem reportLoss_lawful (role : Nat) (s : State) : s.StaysLawful (reportLoss role s) := by
  rcases reportLoss_cases role s with ⟨-, h⟩ | ⟨-, h⟩ | ⟨k, -, -, h⟩ | ⟨k, -, -, h⟩ | ⟨-, -, -, -, h⟩ <;> rw [h]
  · have forgotten : s.StaysLawful { s with pacer := { s.pacer with lastTick := none } } := .of_eq rfl
    exact forgotten.trans (speedLostTest_lawful _)
  · exact .of_eq rfl
  · exact .of_eq (climateSlotLost_sendings k s)
  · exact (State.StaysLawful.ite (refreshDemand_lawful k s)).then_eq (climateSlotLost_sendings k _)
  · exact .refl s

theorem makeLost_lawful (role : Nat) (s : State) : s.StaysLawful (makeLost role s) := by
  have lost : s.StaysLawful (s.setSlot role (s.slot role).madeLost) := .of_eq rfl
  rcases makeLost_cases role s with ⟨-, h⟩ | ⟨-, h⟩ <;> rw [h]
  · exact lost
  · exact lost.trans (reportLoss_lawful role _)

theorem reportGain_lawful (role : Nat) (s : State) : s.StaysLawful (reportGain role s) := by
  rw [reportGain]
  split
  · exact evaluateFire_lawful s
  split
  · exact evaluateChain_lawful s
  (repeat' split) <;> exact .of_eq (by simp)

/-- The air timer of a configured zone turns its direction, with AIR_DIR, and starts again (R107). -/
theorem alternateAir_lawful {k : Nat} {s : State} (hk : k < s.canes.zoneCount) : s.StaysLawful (alternateAir k s) := by
  have turned : s.StaysLawful (s.setZone k { s.zoneState k with direction := (s.zoneState k).direction.toggled }) :=
    setZone_lawful fun hs => { hs.zoneState k with }
  have announced := turned.trans (queueAirDir_lawful k _)
  exact announced.trans (startAirTimer_lawful (by rw [queueAirDir_canes]; exact hk))

/-! ## Derivation and configuration (R97, R98 to R101) -/

/-- A setpoint that is limited lies within the limits (R97, R100). -/
theorem clamp_inRange {x a b : Int} (h : a ≤ b) : a ≤ clamp x a b ∧ clamp x a b ≤ b := by
  rw [clamp]
  split
  · exact ⟨le_rfl, h⟩
  split <;> omega

/-- The limits of an entry in range are in their order, and V_min is at most 127 (R96). -/
theorem limits_of_inRange {e : ZoneEntry} (h : e.inRange = true) : e.tMin ≤ e.tMax ∧ e.rhMin ≤ e.rhMax ∧ e.vMin ≤ 127 := by
  simp only [ZoneEntry.inRange, Bool.and_eq_true, decide_eq_true_eq] at h
  omega

theorem limitTemp_inRange {e : ZoneEntry} (h : e.inRange = true) (t : Int) :
    e.tMin ≤ limitTemp e t ∧ limitTemp e t ≤ e.tMax := clamp_inRange (limits_of_inRange h).1

theorem limitRh_inRange {e : ZoneEntry} (h : e.inRange = true) (rh : Nat) :
    e.rhMin ≤ limitRh e rh ∧ limitRh e rh ≤ e.rhMax := by
  have hclamp := clamp_inRange (x := rh) (Int.ofNat_le.2 (limits_of_inRange h).2.1)
  rw [limitRh]
  omega

/-- Derived setpoints lie within the limits, for those held were there before (R100, R101). -/
theorem derivedSetpoints_inRange {s : State} {k : Nat} (h : ZonesLaw s) (hk : k < s.canes.zoneCount) :
    ((s.zoneEntry k).tMin ≤ (s.derivedSetpoints k).1 ∧ (s.derivedSetpoints k).1 ≤ (s.zoneEntry k).tMax) ∧
    ((s.zoneEntry k).rhMin ≤ (s.derivedSetpoints k).2 ∧ (s.derivedSetpoints k).2 ≤ (s.zoneEntry k).rhMax) := by
  have hentry := h.zoneEntry k
  rw [State.derivedSetpoints]
  split
  · exact ⟨limitTemp_inRange hentry _, limitRh_inRange hentry _⟩
  split
  · exact ⟨(h.zoneState k).temp hk, (h.zoneState k).rh hk⟩
  · exact ⟨limitTemp_inRange hentry _, limitRh_inRange hentry _⟩

theorem deriveZone_lawful (k : Nat) (s : State) : s.StaysLawful (deriveZone k s) := by
  have derived : s.StaysLawful (s.setSetpoints k (s.derivedSetpoints k)) :=
    setZone_lawful fun hs => { hs.zoneState k with
      temp := fun hk => (derivedSetpoints_inRange hs hk).1, rh := fun hk => (derivedSetpoints_inRange hs hk).2 }
  exact derived.trans (refreshDemand_lawful k _)

theorem deriveClimate_lawful (s : State) : s.StaysLawful (deriveClimate s) :=
  .foldl (fun u k => deriveZone_lawful k u) _ s

/-- A configured zone meets the limits of its entry and the range of its demand (R97, R100). -/
theorem configuredZone_lawful {s u : State} {k : Nat} (g : BitVec 16) (hentry : (s.zoneEntry k).inRange = true)
    (hu : u.canes = s.canes) (hk : k < s.canes.zoneCount) : (s.configuredZone k g).Lawful u k := by
  have hzone : u.zoneEntry k = s.zoneEntry k := by rw [State.zoneEntry, hu]; rfl
  refine ⟨demandAgainst_inRange s k _, fun _ => ?_, fun _ => ?_, fun hle => absurd (hu ▸ hle) (Nat.not_le.2 hk)⟩
  · rw [hzone]
    exact limitTemp_inRange hentry _
  · rw [hzone]
    exact limitRh_inRange hentry _

end Sys2Proof.Machine
end

section
/-!
SUPPORT. The rows of the trunk port, the pacer, the chain controller, the discharge unit, the drying model and the
signals keep the laws of what is sent and of the zones (R95, R100, R104, R156, R160).
-/

namespace Sys2Proof.Machine

/-! ## The trunk port (R161 to R166) -/

/-- A draw takes the head of one queue into contention, or finds the three queues empty (R161). -/
theorem draw_cases (p : Port) :
    p.draw = p ∨ ∃ q f fs, p.entries q = f :: fs ∧
      p.draw = { p.withEntries q fs with contention := some f, trunk := .busy } := by
  rw [Port.draw]
  split
  case h_1 f fs hu => exact .inr ⟨.urgent, f, fs, hu, rfl⟩
  case h_2 f fs _ hr => exact .inr ⟨.routine, f, fs, hr, rfl⟩
  case h_3 f fs _ _ hm => exact .inr ⟨.management, f, fs, hm, rfl⟩
  case h_4 => exact .inl rfl

/-- A queue's frame that is drawn fills its place as the frame in contention (R160, R161). -/
theorem draw_lawful {s : State} (h : s.port.contention = none) : s.StaysLawful (s.setPort s.port.draw) := by
  rcases draw_cases s.port with hdraw | ⟨q, f, fs, hq, hdraw⟩ <;> rw [hdraw]
  · exact .refl s
  let t := s.setPort { s.port.withEntries q fs with contention := some f, trunk := .busy }
  have hself : t.port.entries q = fs := by cases q <;> rfl
  have hother {r : QueueId} (hr : r ≠ q) : t.port.entries r = s.port.entries r := by
    rw [← s.port.withEntries_entries_ne fs hr]
    cases r <;> rfl
  have hfill (r : QueueId) : t.port.fill r = (t.port.entries r).length + if queueOf f.body = r then 1 else 0 := rfl
  have hfill' (r : QueueId) : s.port.fill r = (s.port.entries r).length := by rw [Port.fill, Port.contending, h]; rfl
  refine ⟨fun hs => ?_, fun hs => ?_, zonesLaw_congr rfl rfl⟩
  · have hkind : queueOf f.body = q := hs.1 q f (by rw [hq]; exact List.mem_cons_self)
    refine hs.of_change (q := q) (fun r hr => ⟨hother hr, ?_⟩) (fun g hg => ?_) ?_ fun hroutine => ?_
    · rw [hfill, hfill', hother hr, if_neg (fun he => hr (he.symm.trans hkind))]
      exact le_rfl
    · exact hs.1 q g (by rw [hq]; exact List.mem_cons_of_mem f (hself ▸ hg))
    · have hle := hs.2.1 q
      rw [hfill', hq, List.length_cons] at hle
      rw [hfill, hself, if_pos hkind]
      exact hle
    · subst hroutine
      have hroutine : s.port.routine = f :: fs := hq
      have hkeys : (commandKeys s.port.routine).Nodup := hs.2.2
      rw [hroutine] at hkeys
      rw [show t.port.routine = fs from hself]
      exact hkeys.sublist ((List.sublist_cons_self f fs).filterMap _)
  · rw [payloadLaw_iff] at hs ⊢
    refine ⟨fun r g hg => ?_, fun g hg => ?_⟩
    · by_cases hr : r = q
      · subst hr
        exact hs.1 r g (by rw [hq]; exact List.mem_cons_of_mem f (hself ▸ hg))
      · exact hs.1 r g (hother hr ▸ hg)
    · obtain rfl : f = g := Option.some.inj hg
      exact hs.1 q f (by rw [hq]; exact List.mem_cons_self)

/-- With the frame in contention gone the fill of its queue falls (R160). -/
theorem contentionEnded_lawful {s : State} {p : Port} (he : p.entries = s.port.entries) (hc : p.contention = none) :
    s.StaysLawful (s.setPort p) := by
  refine ⟨fun ⟨hkind, hfill, hkeys⟩ => ⟨fun q => he ▸ hkind q, fun q => le_trans ?_ (hfill q), ?_⟩, fun hs => ?_,
    zonesLaw_congr rfl rfl⟩
  · rw [State.setPort_port, Port.fill, Port.fill, he, Port.contending, hc]
    exact Nat.add_le_add_left (Nat.zero_le _) _
  · rw [show (s.setPort p).port.routine = s.port.routine from congrFun he .routine]
    exact hkeys
  · rw [payloadLaw_iff] at hs ⊢
    exact ⟨fun q => he ▸ hs.1 q, fun f hf => by rw [State.setPort_port, hc] at hf; cases hf⟩

theorem endFrame_lawful (o : FrameOutcome) (s : State) : s.StaysLawful (endFrame o s) := by
  rw [endFrame]
  split
  · exact .refl s
  · have ended : s.StaysLawful (s.setPort { s.port with contention := none }) := contentionEnded_lawful rfl rfl
    exact ended.then_eq rfl

/-- A frame that returns to its queue held its place there, and is the only zone command of its kind and zone (R162). -/
theorem returnHead_lawful {s : State} {f : Frame} {p : Port} (hf : s.port.contention = some f)
    (hsuper : s.port.supersedes f = false) (he : p.entries = s.port.entries) (hc : p.contention = none) :
    s.StaysLawful (s.setPort (p.returnHead f)) := by
  let q := queueOf f.body
  have hself : (p.returnHead f).entries q = f :: s.port.entries q := by
    rw [Port.returnHead, Port.withEntries_entries_self, he]
  have hother {r : QueueId} (hr : r ≠ q) : (p.returnHead f).entries r = s.port.entries r := by
    rw [Port.returnHead, Port.withEntries_entries_ne _ _ hr, he]
  have hnone : (p.returnHead f).contention = none := by
    rw [← hc, Port.returnHead]; cases queueOf f.body <;> rfl
  have hfill (r : QueueId) : (p.returnHead f).fill r = ((p.returnHead f).entries r).length := by
    rw [Port.fill, Port.contending, hnone]; rfl
  have hfill' (r : QueueId) : s.port.fill r = (s.port.entries r).length + if q = r then 1 else 0 := by
    rw [Port.fill, Port.contending, hf]
  refine ⟨fun hs => hs.of_change (q := q) (fun r hr => ⟨hother hr, ?_⟩) ?_ ?_ fun hroutine => ?_, fun hs => ?_,
    zonesLaw_congr rfl rfl⟩
  · rw [State.setPort_port, hfill, hfill', hother hr]
    exact Nat.le_add_right _ _
  · rw [State.setPort_port, hself]
    exact List.forall_mem_cons.2 ⟨rfl, hs.1 q⟩
  · have hle := hs.2.1 q
    rw [hfill', if_pos rfl] at hle
    rw [State.setPort_port, hfill, hself]
    exact hle
  · rw [hroutine] at hself
    rw [show (s.setPort (p.returnHead f)).port.routine = f :: s.port.routine from hself]
    refine commandKeys_cons_nodup hs.2.2 ?_
    simpa [Port.supersedes, or_iff_not_imp_left, Option.isSome_iff_ne_none] using hsuper
  · rw [payloadLaw_iff] at hs ⊢
    refine ⟨fun r g hg => ?_, fun g hg => by rw [State.setPort_port, hnone] at hg; cases hg⟩
    by_cases hr : r = q
    · subst hr
      rcases List.mem_cons.1 (hself ▸ hg) with rfl | hg
      · exact hs.2 g hf
      · exact hs.1 q g hg
    · exact hs.1 r g (hother hr ▸ hg)

/-- A claim lost drops a superseded zone command and returns any other frame (R162). -/
theorem claimLost_lawful {s t : State} (ht : exec .claimLost s = .next t) : s.StaysLawful t := by
  refine of_next (P := s.StaysLawful) ht ?_
  split
  case h_1 => exact .refl s
  case h_2 f hf =>
    let p : Port := { s.port with
      contention := none, reception := .receiving,
      counts := { s.port.counts with claimsLost := inc16 s.port.counts.claimsLost } }
    have ended : s.StaysLawful (s.setPort p) := contentionEnded_lawful rfl rfl
    dsimp only
    split
    · exact ended.then_eq rfl
    case isFalse hsuper => exact returnHead_lawful hf (Bool.eq_false_iff.2 hsuper) rfl rfl

/-- A trunk reset empties the queues and ends the contention (R166). -/
theorem trunkReset_lawful (s : State) : s.StaysLawful (s.setPort s.port.trunkReset) := by
  have hempty (q : QueueId) : s.port.trunkReset.entries q = [] := by cases q <;> rfl
  have hnone {q : QueueId} {f : Frame} (hf : f ∈ (s.setPort s.port.trunkReset).port.entries q) : False := by
    rw [State.setPort_port, hempty] at hf
    cases hf
  refine ⟨fun _ => ⟨fun q f hf => (hnone hf).elim, fun q => ?_, List.nodup_nil⟩, fun _ => ?_, zonesLaw_congr rfl rfl⟩
  · rw [State.setPort_port, Port.fill, hempty]
    exact Nat.zero_le _
  · rw [payloadLaw_iff]
    exact ⟨fun q f hf => (hnone hf).elim, fun f hf => by cases hf⟩

@[simp] theorem cutOffReception_sendings (cs : List RxChar) (s : State) :
    (cutOffReception cs s).sendings = s.sendings := by
  rw [cutOffReception]; (repeat' split) <;> rfl

/-! ## The pacer (R24 to R45) -/

theorem miss_lawful (s : State) : s.StaysLawful (miss s) := by
  have counted : s.StaysLawful (missCounted s) := .of_eq rfl
  rw [miss_eq]
  exact counted.trans (afterFireEnd_lawful _)

theorem takeFireOutcome_lawful (n : Nat) (o : FrameOutcome) (s : State) : s.StaysLawful (takeFireOutcome n o s) := by
  rw [takeFireOutcome]
  split
  · exact .refl s
  split
  · exact .refl s
  split
  · split
    · exact .refl s
    · exact .of_eq rfl
  · exact miss_lawful s
  · exact miss_lawful s

theorem cancelFire_lawful (s : State) : s.StaysLawful (cancelFire s) := by
  have stopped : s.StaysLawful (s.setPacer { s.pacer with knifeTimer := .stopped }) := .of_eq rfl
  rw [cancelFire]
  split
  · exact stopped.trans (afterFireEnd_lawful _)
  · exact .refl s

@[simp] theorem settleWatch_sendings (v : Nat) (s : State) : (settleWatch v s).sendings = s.sendings := by
  rw [settleWatch]; split <;> rfl

@[simp] theorem overlengthCheck_sendings (s : State) : (overlengthCheck s).sendings = s.sendings := by
  rw [overlengthCheck]; split <;> rfl

theorem takeSpeed_lawful (v tick : Nat) (s : State) : s.StaysLawful (takeSpeed v tick s) := by
  rw [takeSpeed]
  split
  case h_1 => exact .of_eq (settleWatch_sendings v _)
  case h_2 last _ =>
    have integrated : s.StaysLawful (settleWatch v (overlengthCheck (s.setPacer (s.pacer.integrate last v tick)))) :=
      .of_eq (by simp)
    exact integrated.trans (evaluateFire_lawful _)

theorem pacerFollowsMode_lawful (new : LineMode) (s : State) : s.StaysLawful (pacerFollowsMode new s) := by
  have formed (st : PacerState) : s.StaysLawful (setPacerState st s) := .of_eq rfl
  rw [pacerFollowsMode]
  split
  · exact State.StaysLawful.trans (.ite (formed .forming)) (evaluateFire_lawful _)
  · exact .ite (formed .idle)

@[simp] theorem settleModeChange_sendings (old new : LineMode) (s : State) :
    (settleModeChange old new s).sendings = s.sendings := by
  rw [settleModeChange]; (repeat' split) <;> rfl

theorem hangCane_lawful (length : Nat) (s : State) : s.StaysLawful (hangCane length s) := by
  rw [hangCane]
  split
  case h_1 i _ =>
    have counted : s.StaysLawful (raiseRef i s) := .of_eq rfl
    exact counted.trans (placeRecord_lawful _ _)
  case h_2 => exact .refl s

theorem handOverCut_lawful (f : Fire) (length : Nat) (s : State) : s.StaysLawful (handOverCut f length s) := by
  rw [handOverCut]
  split
  · exact (hangCane_lawful length s).then_eq rfl
  · exact (placeRecord_lawful none s).then_eq rfl
  · exact .of_eq rfl

theorem completeCut_lawful (f : Fire) (s : State) : s.StaysLawful (completeCut f s) := by
  have closed : s.StaysLawful (s.setPacer (s.pacer.closeCurtain f.kind)) := .of_eq rfl
  have handed : s.StaysLawful (cutHandled f s) := (closed.trans (handOverCut_lawful f _ _)).then_eq rfl
  rw [completeCut_eq]
  exact handed.trans ((switchTest_lawful _).trans (afterFireEnd_lawful _))

theorem unexpectedCuts_lawful (n : Nat) (s : State) : s.StaysLawful (unexpectedCuts n s) := by
  have dropped : s.StaysLawful (s.setPacer s.pacer.dropCurtain) := .of_eq rfl
  rw [unexpectedCuts]
  exact dropped.trans ((queueReport_lawful _ _).trans (evaluateFire_lawful _))

theorem takeKnifeCount_lawful (n : Nat) (s : State) : s.StaysLawful (takeKnifeCount n s) := by
  rw [takeKnifeCount]
  split
  · exact .refl s
  split
  · split
    · exact completeCut_lawful _ s
    · exact (completeCut_lawful _ s).trans (unexpectedCuts_lawful _ _)
  · exact unexpectedCuts_lawful n s

/-! ## The chain controller (R59 to R72) -/

theorem failStep_lawful (d : Nat) (s : State) : s.StaysLawful (failStep d s) := by
  have failed : s.StaysLawful (State.hand (setStepState .idle
      (s.setChain { s.chain with recommands := 0, stepTimer := .stopped })) (.faultRaise .chainTimeout d)) := .of_eq rfl
  exact failed.trans (afterStepEnd_lawful _)

theorem recommandStep_lawful (st : StepInFlight) (s : State) : s.StaysLawful (recommandStep st s) := by
  let t := s.setChain { s.chain with recommands := s.chain.recommands + 1 }
  have counted : s.StaysLawful t := .of_eq rfl
  rw [recommandStep]
  split
  case h_1 dest _ =>
    have handed : t.StaysLawful (handFrame dest (.chainStep st.loaded) t) :=
      handFrame_lawful (.inl rfl) (payloadOf_length_le nofun)
    exact (counted.trans handed).then_eq rfl
  case h_2 => exact counted

theorem takeStepOutcome_lawful (n : Nat) (o : FrameOutcome) (s : State) : s.StaysLawful (takeStepOutcome n o s) := by
  rw [takeStepOutcome]
  split
  · exact .refl s
  split
  · exact .refl s
  split
  · split
    · exact .refl s
    · exact .of_eq rfl
  split
  · exact recommandStep_lawful _ s
  · exact failStep_lawful 1 s

/-- Records that move between their places leave the frames and the zones (R61, R62). -/
@[simp] theorem recordsMoved_sendings (s : State) : (recordsMoved s).sendings = s.sendings := by
  have joined : (stationJoins s).sendings = s.sendings := by rw [stationJoins]; split <;> rfl
  have departed (c : Cane) (u : State) : (departHead c u).sendings = u.sendings := by rw [departHead]; split <;> rfl
  rw [recordsMoved]
  split
  · exact (departed _ _).trans joined
  · exact joined

@[simp] theorem endStep_sendings (s : State) : (endStep s).sendings = s.sendings := by
  rw [endStep]; split <;> rfl

theorem reportDeparture_lawful (d : Option Cane) (s : State) : s.StaysLawful (reportDeparture d s) := by
  cases d with
  | none => exact .refl s
  | some c => exact .ite (enterMode_lawful _ _ s)

theorem stepDone_lawful (s : State) : s.StaysLawful (stepDone s) := by
  have ended : s.StaysLawful (endStep (recordsMoved s)) := .of_eq (by simp)
  rw [stepDone_eq]
  exact ended.trans ((afterStepEnd_lawful _).trans ((reportDeparture_lawful _ _).trans (climateCheck_lawful _)))

theorem takeChainCount_lawful (n : Nat) (s : State) : s.StaysLawful (takeChainCount n s) := by
  rw [takeChainCount]
  split
  · exact .refl s
  split
  · split
    · exact stepDone_lawful s
    · exact (stepDone_lawful s).then_eq rfl
  · exact .of_eq rfl

@[simp] theorem indexEvent_sendings (s : State) : (indexEvent s).sendings = s.sendings := by
  rw [indexEvent]; split <;> rfl

@[simp] theorem drainModeChange_sendings (old new : LineMode) (s : State) :
    (drainModeChange old new s).sendings = s.sendings := by
  rw [drainModeChange]; (repeat' split) <;> rfl

/-! ## The discharge unit (R117 to R120) -/

theorem orderHead_lawful (s : State) : s.StaysLawful (orderHead s) := by
  rw [orderHead]
  split
  case h_1 e _ dest _ _ =>
    split
    · have handed : s.StaysLawful (handFrame dest (orderBody (s.lotSlot e.product.lot).header e) s) :=
        handFrame_lawful (.inl rfl) (payloadOf_length_le nofun)
      exact handed.then_eq rfl
    · exact .refl s
  case h_2 => exact .refl s

@[simp] theorem takeOrderOutcome_sendings (q : Nat) (o : FrameOutcome) (s : State) :
    (takeOrderOutcome q o s).sendings = s.sendings := by
  rw [takeOrderOutcome]; (repeat' split) <;> rfl

theorem completeHead_lawful (e : DischargeEntry) (rest : List DischargeEntry) (s : State) :
    s.StaysLawful (completeHead e rest s) := by
  have gone : s.StaysLawful (headGone e rest s) := (queueReport_lawful _ s).then_eq rfl
  rw [completeHead_eq]
  exact gone.trans ((releaseRef_lawful _ _).trans (evaluateChain_lawful _))

theorem takeStripperCount_lawful (n : Nat) (s : State) : s.StaysLawful (takeStripperCount n s) := by
  have strays (m : Nat) (u : State) : u.StaysLawful (strayEvents m u) := queueReport_lawful _ u
  rw [takeStripperCount]
  split
  · exact .refl s
  split
  · split
    · split
      · exact completeHead_lawful _ _ s
      · exact (completeHead_lawful _ _ s).trans (strays _ _)
    · exact strays n s
  · exact strays n s

/-! ## Visits and sweeps (R79 to R90) -/

theorem reportExcursion_lawful (p q : Product) (n : Nat) (s : State) : s.StaysLawful (reportExcursion p q n s) := by
  rw [reportExcursion]
  split
  · exact queueReport_lawful _ s
  · exact .refl s

/-- A visit writes one record and may report its excursion; the zone map stands (R80). -/
theorem takeNumber_lawful (w : Sweep) (n : Nat) (s : State) : s.StaysLawful (takeNumber w n s) := by
  have written (pos : Nat) (c : Cane) (p : Product) : (s.setProduct pos c p).sendings = s.sendings := by
    rw [State.setProduct, CaneQueue.setAt]; split <;> rfl
  simp only [takeNumber]
  split
  case h_1 => exact .of_eq rfl
  case h_2 pos _ =>
    split
    case h_1 => exact .of_eq rfl
    case h_2 c _ =>
      split
      case h_1 => exact .of_eq rfl
      case h_2 p _ =>
        rw [visitProduct]
        split
        case h_1 k temp rh _ =>
          have visited : s.StaysLawful (s.setProduct pos c (knownVisit s w.time k temp rh p)) := .of_eq (written _ _ _)
          exact (visited.then_eq (State.setDrying_sendings _ _)).trans (reportExcursion_lawful _ _ _ _)
        case h_2 =>
          exact .of_eq (written _ _ _)

theorem closeSweep_lawful (w : Sweep) (s : State) : s.StaysLawful (closeSweep w s) := by
  have derived : s.StaysLawful (deriveClimate s) := deriveClimate_lawful s
  rw [closeSweep]
  exact (derived.then_eq (State.setDrying_sendings _ _)).trans (climateCheck_lawful _)

theorem startSweep_lawful (s : State) : s.StaysLawful (startSweep s) := .of_eq rfl

theorem startAndCloseEmpty_lawful (s : State) : s.StaysLawful (startAndCloseEmpty s) := by
  cases hr : s.canes.records with
  | nil =>
    rw [startAndCloseEmpty_of_empty hr]
    exact (startSweep_lawful s).trans (closeSweep_lawful _ _)
  | cons c rest =>
    rw [startAndCloseEmpty_of_records hr]
    exact startSweep_lawful s

theorem finishSweep_lawful (w : Sweep) (s : State) : s.StaysLawful (finishSweep w s) := by
  rw [finishSweep]
  split
  · exact ((closeSweep_lawful w s).then_eq (State.setDrying_sendings _ _)).trans (startAndCloseEmpty_lawful _)
  · exact closeSweep_lawful w s

theorem onSweepExpiry_lawful (s : State) : s.StaysLawful (onSweepExpiry s) := by
  cases hs : s.drying.sweep with
  | some w =>
    rw [onSweepExpiry_sweeping hs]
    exact .of_eq rfl
  | none =>
    rw [onSweepExpiry_idle hs]
    split
    · exact (startSweep_lawful s).trans (finishSweep_lawful _ _)
    · exact startSweep_lawful s

/-! ## Arrivals (R143 to R150) -/

theorem acceptItem_lawful (role : Nat) (v : Int) (st : SampleStatus) (tick : Nat) (s : State) :
    s.StaysLawful (acceptItem role v st tick s) := by
  rw [acceptItem]
  refine State.StaysLawful.then_eq ?_ (foldl_keeps State.sendings State.hand State.hand_sendings _ _)
  split
  · refine State.StaysLawful.trans ?_ (reportGain_lawful role _)
    exact .of_eq rfl
  · exact .of_eq rfl

theorem takeItem_lawful (source tick : Nat) (i : SampleItem) (s : State) :
    s.StaysLawful (takeItem source tick i s) := by
  rw [takeItem]
  split
  · exact .refl s
  split
  · exact acceptItem_lawful _ _ _ _ s
  split
  · exact acceptItem_lawful _ _ _ _ s
  · exact .refl s

theorem takeSample_lawful (source : Nat) (payload : List Byte) (s : State) :
    s.StaysLawful (takeSample source payload s) := by
  rw [takeSample]
  exact .ite (.foldl (fun u i => takeItem_lawful source s.clock i u) _ s)

theorem endReception_lawful (cs : List RxChar) (e : ReceptionEnding) (s : State) :
    s.StaysLawful (endReception cs e s) := by
  have closed : s.StaysLawful (setTrunk .busy .closed s) := .of_eq rfl
  simp only [endReception, takeFrame]
  split
  · exact .refl s
  split
  · exact .of_eq rfl
  · exact closed.trans (.ite (takeSample_lawful _ _ _))

/-- An outcome row keeps the laws when its action does. -/
theorem takeOutcome_lawful {act : State → State} (e : Instr) (h : ∀ u : State, u.StaysLawful (act u)) (s : State) :
    s.StaysLawful (takeOutcome e act s) := by
  have took : s.StaysLawful (s.took e) := .of_eq rfl
  rcases takeOutcome_cases e act s with ⟨-, ht⟩ | ⟨-, ht⟩ <;> rw [ht]
  · exact took.trans (h _)
  · exact .refl s

end Sys2Proof.Machine
end

section
/-!
SUPPORT. The directives keep the laws of what is sent and of the zones, and their responses fit a payload; every row
keeps them, and the two obligations.
-/

namespace Sys2Proof.Machine

/-! ## The zone count (R53, R97) -/

/-- The configuration of a zone hands on zone commands only, whether or not the zones are lawful while it runs. -/
theorem configureZone_keepsQueues (k : Nat) (s : State) :
    (QueueLaw s → QueueLaw (configureZone k s)) ∧ (PayloadLaw s → PayloadLaw (configureZone k s)) := by
  let u := refreshDemand k (s.setSetpoints k (limitTemp (s.zoneEntry k) (s.zoneEntry k).idleT,
    limitRh (s.zoneEntry k) (s.zoneEntry k).idleRh))
  have climate := refreshDemand_lawful k (s.setSetpoints k (limitTemp (s.zoneEntry k) (s.zoneEntry k).idleT,
    limitRh (s.zoneEntry k) (s.zoneEntry k).idleRh))
  have air := queueAirDir_lawful k (u.setZone k { u.zoneState k with direction := .forward })
  rw [configureZone]
  split <;> exact ⟨air.queues ∘ climate.queues, air.payloads ∘ climate.payloads⟩

/-- After a zone count write the configured zones have their idle climate, and the others no air timer (R97). -/
theorem configureZones_zonesLaw {n : Nat} {s : State} (hn : n ≤ 12) (hs : ZonesLaw s) :
    ZonesLaw (configureZones n (zoneCounted n s)) := by
  obtain ⟨hlen, hzones⟩ := (climateLaw_iff s).1 hs.climate
  let w := forEach n configureZone (zoneCounted n s)
  have hrun : ZonesConfigured (2 * n) n (zoneCounted n s) w := zonesConfigured_forEach le_rfl (by exact hlen ▸ hn)
  have hwlen : w.climate.zones.length = 12 := hrun.length.trans hlen
  obtain ⟨hframe, -, halen, hazone⟩ := stopAirTimers_forEach (n := n) (s := w) hwlen.ge
  have hcanes : (configureZones n (zoneCounted n s)).canes = (zoneCounted n s).canes :=
    (congrArg State.canes hframe :).trans hrun.reads.1
  refine ⟨(climateLaw_iff _).2 ⟨halen.trans hwlen, fun k => ?_⟩, ?_, ?_⟩
  · rw [show (configureZones n (zoneCounted n s)).zoneState k = _ from hazone k]
    by_cases hk : k < n
    · rw [if_neg (by omega), hrun.zone k hk]
      exact configuredZone_lawful (s := zoneCounted n s) _ (hs.zoneEntry k) hcanes hk
    · have hle : n ≤ k := Nat.le_of_not_lt hk
      have hlawful : (s.zoneState k).Lawful s k := hzones k
      have hother : w.zoneState k = s.zoneState k := hrun.other k hle
      have hcount : (configureZones n (zoneCounted n s)).canes.zoneCount = n := congrArg CaneQueue.zoneCount hcanes
      rw [hother]
      refine ⟨?_, fun h => absurd (hcount ▸ h) hk, fun h => absurd (hcount ▸ h) hk, fun _ => ?_⟩
      · split <;> exact hlawful.demand
      · split
        · rfl
        · have hout : s.climate.zones.length ≤ k := by omega
          rw [State.zoneState, List.getD_eq_default _ _ hout]
          rfl
  · rw [hcanes]; exact hn
  · rw [hcanes]; exact hs.ranged

theorem storeZoneCount_lawful {n : Nat} (hn : n ≤ 12) (s : State) : s.StaysLawful (storeZoneCount n s) := by
  have port : (configureZones n (zoneCounted n s)).port = (forEach n configureZone (zoneCounted n s)).port :=
    forEach_keeps State.port _ (fun k t => by split <;> rfl) 12 _
  have run (m : Nat) (u : State) : (QueueLaw u → QueueLaw (forEach m configureZone u)) ∧
      (PayloadLaw u → PayloadLaw (forEach m configureZone u)) := by
    induction m with
    | zero => exact ⟨id, id⟩
    | succ m ih =>
      rw [forEach_succ]
      obtain ⟨hqueues, hpayloads⟩ := configureZone_keepsQueues m (forEach m configureZone u)
      exact ⟨hqueues ∘ ih.1, hpayloads ∘ ih.2⟩
  obtain ⟨hqueues, hpayloads⟩ := run n (zoneCounted n s)
  have configured : s.StaysLawful (configureZones n (zoneCounted n s)) := by
    refine ⟨fun hs => ?_, fun hs => ?_, configureZones_zonesLaw hn⟩
    · rw [QueueLaw, port]; exact hqueues hs
    · rw [PayloadLaw, port]; exact hpayloads hs
  have restarted (u : State) : (restartLossTimers n u).sendings = u.sendings := by
    rw [restartLossTimers]
    split
    · exact forEach_keeps State.sendings _ (fun k t => State.setLoss_sendings t k _ _) _ u
    · exact forEach_keeps State.sendings _ (fun k t => by split <;> rfl) _ u
  exact (configured.then_eq (restarted _)).trans (evaluateChain_lawful _)

/-! ## Answers (R169, R170) -/

/-- From `u` the answer has kept the laws, and its body fits a response (R156). -/
structure Answer.Lawful (a : Answer) (u : State) : Prop where
  state : u.StaysLawful a.state
  body : a.body.length ≤ 45

theorem refuse_lawful (o : OutcomeCode) (u : State) : (refuse o u).Lawful u := ⟨.refl u, Nat.zero_le _⟩

theorem doneWith_lawful {body : List Byte} {u t : State} (h : u.StaysLawful t) (hbody : body.length ≤ 45) :
    (doneWith body t).Lawful u := ⟨h, hbody⟩

/-- An answer without a body. -/
theorem plain_lawful {u t : State} (h : u.StaysLawful t) : (doneWith [] t).Lawful u :=
  doneWith_lawful h (Nat.zero_le _)

/-- A reading leaves the state. -/
theorem read_lawful {body : List Byte} (u : State) (h : body.length ≤ 45) : (doneWith body u).Lawful u :=
  doneWith_lawful (.refl u) h

/-- Whatever the arguments, the execution answers lawfully. -/
def AnswersLawfully (act : List Byte → State → Answer) : Prop := ∀ args u, (act args u).Lawful u

/-- The same for a table write, given its first index and its entries. -/
def WritesLawfully (act : Nat → List (List Byte) → State → Answer) : Prop := ∀ first es u, (act first es u).Lawful u

theorem answersLawfully_withLength {n : Nat} {act : List Byte → State → Answer} (h : AnswersLawfully act) :
    AnswersLawfully (withLength n act) := by
  intro args u
  rw [withLength]
  split
  · exact h args u
  · exact refuse_lawful _ u

theorem answersLawfully_withSlot {act : List Byte → Nat → State → Answer}
    (h : ∀ args i u, (act args i u).Lawful u) : AnswersLawfully fun args => withSlot (act args) args := by
  intro args u
  simp only [withSlot]
  split
  · exact h args _ u
  · exact refuse_lawful _ u

theorem answersLawfully_modeFrom {taken : LineMode → Bool} {act : State → Answer} (h : ∀ u, (act u).Lawful u) :
    AnswersLawfully (modeFrom taken act) := by
  intro args u
  rw [modeFrom]
  split
  · exact refuse_lawful _ u
  split
  · exact h u
  · exact refuse_lawful _ u

theorem answersLawfully_withEntries {t : TableId} {act : Nat → List (List Byte) → State → Answer}
    (h : WritesLawfully act) : AnswersLawfully (withEntries t act) := by
  intro args u
  rw [withEntries]
  split
  · exact h _ _ u
  · exact refuse_lawful _ u

theorem writesLawfully_withRange {t : TableId} {act : Nat → List (List Byte) → State → Answer}
    (h : WritesLawfully act) : WritesLawfully (withRange t act) := by
  intro first es u
  rw [withRange]
  split
  · exact h first es u
  · exact refuse_lawful _ u

theorem writesLawfully_withModes {act : Nat → List (List Byte) → State → Answer} (h : WritesLawfully act) :
    WritesLawfully (withModes act) := by
  intro first es u
  rw [withModes]
  split
  · exact h first es u
  · exact refuse_lawful _ u

/-- A directive row keeps the laws: its response fits a payload and is no zone command. -/
theorem runDirective_lawful {d : Directive} {gap : Bool} {act : List Byte → State → Answer} (h : AnswersLawfully act)
    (s : State) : s.StaysLawful (runDirective d gap act s) := by
  rcases runDirective_cases d gap act s with ⟨-, hr⟩ | ⟨-, hr⟩ <;> rw [hr]
  · obtain ⟨hstate, hbody⟩ := h d.args (popDirective s)
    have popped : s.StaysLawful (popDirective s) := .of_eq rfl
    refine popped.trans (hstate.trans (handFrame_lawful (.inl rfl) (payloadOf_length_le ?_)))
    rintro _ _ _ bytes ⟨⟩
    exact hbody
  · exact .refl s

/-! ### The reading, lot and mark directives -/

theorem readKnownTable_lawful (t : TableId) : AnswersLawfully (readKnownTable t) := by
  intro args u
  rw [readKnownTable, readLot]
  split
  · split
    · split
      · exact refuse_lawful _ u
      · exact read_lawful u (lotBody_length_le u _ _)
    · exact refuse_lawful _ u
  split
  · exact refuse_lawful _ u
  split
  · exact read_lawful u (tableBody_length_le u _ _ _ _)
  · exact refuse_lawful _ u

theorem readTable_lawful : AnswersLawfully readTableAnswer := by
  intro args u
  rw [readTableAnswer]
  split
  · split
    · exact readKnownTable_lawful _ args u
    · exact refuse_lawful _ u
  · exact refuse_lawful _ u

theorem readCane_lawful : AnswersLawfully readCaneAnswer := by
  have station (c : Cane) : (stationBody c).length ≤ 45 := by
    have hcane := caneBytes_length_le c
    rw [stationBody, List.length_cons]
    omega
  have queue (u : State) (pos : Nat) (c : Cane) : (u.queueBody pos c).length ≤ 45 := by
    have hcane := caneBytes_length_le c
    simp only [State.queueBody, List.length_cons, List.length_append, be_length]
    omega
  have entry (u : State) (i : Nat) (e : DischargeEntry) : (u.entryBody i e).length ≤ 45 := by
    have hcane := caneBytes_length_le e.cane
    simp only [State.entryBody, List.length_cons, List.length_append, be_length, List.length_nil]
    omega
  intro args u
  simp only [readCaneAnswer, readBySequence, readByPosition]
  (repeat' split)
  · exact read_lawful u (station _)
  · exact read_lawful u (queue u _ _)
  · exact read_lawful u (entry u _ _)
  · exact refuse_lawful _ u
  · exact refuse_lawful _ u
  · exact read_lawful u (queue u _ _)
  · exact refuse_lawful _ u
  · exact refuse_lawful _ u

theorem readStatus_lawful : AnswersLawfully readStatusAnswer := by
  intro args u
  rw [readStatusAnswer]
  split
  case h_1 fields hpage =>
    refine read_lawful u ?_
    have hfields := statusPage_length_le hpage
    rw [List.length_append, be_length]
    omega
  case h_2 => exact refuse_lawful _ u

theorem markCanes_lawful : AnswersLawfully markCanesAnswer := by
  intro args u
  simp only [markCanesAnswer]
  split
  · exact refuse_lawful _ u
  · exact doneWith_lawful (.of_eq rfl) (by simp)

theorem clearLineAnswer_lawful : AnswersLawfully clearLineAnswer := by
  intro args u
  rw [clearLineAnswer]
  split
  · exact refuse_lawful _ u
  split
  · exact refuse_lawful _ u
  · have emptied : u.StaysLawful (clearRefs (emptyPlaces u)) := .of_eq rfl
    have freed : u.StaysLawful (freeRetired (clearRefs (emptyPlaces u))) :=
      emptied.trans (.foldl (fun v k => freeIfRetired_lawful k v) _ _)
    exact doneWith_lawful (freed.trans ((evaluateChain_lawful _).trans (evaluateFire_lawful _)))
      (by simp [State.clearCounts])

theorem openLot_lawful (header : Option LotHeader) (i : Nat) (u : State) : (openLot header i u).Lawful u := by
  unfold openLot
  (repeat' split)
  · exact refuse_lawful _ u
  · exact refuse_lawful _ u
  · exact plain_lawful (.of_eq rfl)
  · exact refuse_lawful _ u

theorem appendStage_lawful (g : Stage) (i : Nat) (u : State) : (appendStage g i u).Lawful u := by
  rw [appendStage]
  (repeat' split)
  · exact refuse_lawful _ u
  · exact refuse_lawful _ u
  · exact refuse_lawful _ u
  · exact doneWith_lawful (.of_eq rfl) (by simp)

theorem sealLot_lawful (i : Nat) (u : State) : (sealLot i u).Lawful u := by
  rw [sealLot]
  (repeat' split)
  · exact refuse_lawful _ u
  · exact plain_lawful (.of_eq rfl)
  · exact refuse_lawful _ u

theorem discardLot_lawful (i : Nat) (u : State) : (discardLot i u).Lawful u := by
  rw [discardLot]
  split
  · exact plain_lawful (.of_eq rfl)
  · exact refuse_lawful _ u

theorem armLot_lawful (b : Nat) (u : State) : (armLot b u).Lawful u := by
  rw [armLot]
  (repeat' split)
  · exact refuse_lawful _ u
  · exact refuse_lawful _ u
  · exact plain_lawful (.of_eq rfl)
  · exact plain_lawful (.of_eq rfl)
  · exact refuse_lawful _ u

/-! ### The modes and the faults -/

theorem enterByDirective_lawful (m : LineMode) (u : State) : (enterByDirective m u).Lawful u :=
  plain_lawful (enterMode_lawful m _ u)

theorem enterPriming_lawful (u : State) : (enterPriming u).Lawful u := by
  rw [enterPriming]
  (repeat' split)
  · exact refuse_lawful _ u
  · exact refuse_lawful _ u
  · exact enterByDirective_lawful _ u

theorem enterRunning_lawful (u : State) : (enterRunning u).Lawful u := by
  rw [enterRunning]
  (repeat' split)
  · exact refuse_lawful _ u
  · exact refuse_lawful _ u
  · exact enterByDirective_lawful _ u

theorem enterDraining_lawful (u : State) : (enterDraining u).Lawful u := by
  have drained : u.StaysLawful (enterMode .draining .directive u) := enterMode_lawful _ _ u
  rw [enterDraining]
  refine plain_lawful ?_
  split
  · exact drained
  · exact drained.trans (enterMode_lawful _ _ _)

theorem enterStopped_lawful (u : State) : (enterStopped u).Lawful u := by
  rw [enterStopped]
  (repeat' split)
  · exact enterByDirective_lawful _ u
  · exact refuse_lawful _ u
  · exact refuse_lawful _ u
  · exact enterByDirective_lawful _ u

theorem enterSafe_lawful (u : State) : (enterSafe u).Lawful u := by
  rw [enterSafe]
  split
  · exact plain_lawful (.refl u)
  · exact enterByDirective_lawful _ u

theorem leaveSafe_lawful (u : State) : (leaveSafe u).Lawful u := by
  rw [leaveSafe]
  split
  · exact refuse_lawful _ u
  · exact enterByDirective_lawful _ u

theorem ackFault_lawful (b : Nat) (u : State) : (ackFaultCode b u).Lawful u := by
  rw [ackFaultCode]
  (repeat' split)
  · exact refuse_lawful _ u
  · exact refuse_lawful _ u
  · exact doneWith_lawful (.of_eq rfl) (by simp)

/-! ### The table writes -/

theorem writeListen_lawful : WritesLawfully writeListen := by
  intro first es u
  rw [writeListen]
  split
  case h_1 => exact refuse_lawful _ u
  case h_2 new _ =>
    split
    · have stored : u.StaysLawful { u with signals := { u.signals with
          listen := replaced u.signals.listen first new } } := .of_eq rfl
      exact plain_lawful (stored.trans (.foldl (fun v k => makeLost_lawful (first + k) v) _ _))
    · exact refuse_lawful _ u

theorem writeTalk_lawful : WritesLawfully writeTalk := by
  intro first es u
  rw [writeTalk]
  split
  case h_1 => exact refuse_lawful _ u
  case h_2 new _ =>
    let t : State := { u with signals := { u.signals with talk := replaced u.signals.talk first new } }
    have stored : u.StaysLawful t := .of_eq rfl
    have fired : t.StaysLawful (if first ≤ talkKnife ∧ talkKnife < first + new.length then evaluateFire t else t) :=
      .ite (evaluateFire_lawful t)
    exact plain_lawful (stored.trans (fired.trans (.ite (evaluateChain_lawful _))))

/-- Zone entries are written with no zone configured, within their ranges (R52, R96). -/
theorem writeZone_lawful {t : TableId} : WritesLawfully (withZoneCountZero (withRange t writeZone)) := by
  intro first es u
  rw [withZoneCountZero]
  split
  case isFalse => exact refuse_lawful _ u
  case isTrue hcount =>
    rw [withRange]
    split
    case isFalse => exact refuse_lawful _ u
    case isTrue =>
      unfold writeZone
      cases hnew : parseAll parseZone es with
      | none => exact refuse_lawful _ u
      | some new =>
        refine plain_lawful ⟨id, id, fun hs => ⟨?_, hs.count_le, fun z hz => ?_⟩⟩
        · obtain ⟨hlen, hzones⟩ := (climateLaw_iff u).1 hs.climate
          have none_configured {k : Nat} (hk : k < u.canes.zoneCount) : False := by omega
          exact (climateLaw_iff _).2 ⟨hlen, fun k =>
            ⟨(hzones k).demand, fun hk => (none_configured hk).elim, fun hk => (none_configured hk).elim,
              (hzones k).air⟩⟩
        · exact (mem_of_mem_replaced hz).elim (hs.ranged z) (parseAll_forall parseZone_inRange hnew z)

theorem writeZoneCount_lawful (n : Nat) (u : State) : (writeZoneCount n u).Lawful u := by
  rw [writeZoneCount]
  split
  · exact refuse_lawful _ u
  split
  · exact refuse_lawful _ u
  case isFalse hn =>
    split
    · exact refuse_lawful _ u
    split
    · exact plain_lawful (storeZoneCount_lawful (Nat.le_of_not_lt hn) u)
    · exact refuse_lawful _ u

theorem writeMeq_lawful : WritesLawfully writeMeq := by
  intro first es u
  unfold writeMeq
  cases parseAll parseMeq es with
  | none => exact refuse_lawful _ u
  | some new => exact plain_lawful (.of_eq rfl)

theorem writeModel_lawful (entry : List Byte) (u : State) : (writeModel entry u).Lawful u := by
  unfold writeModel
  cases parseModel entry with
  | none => exact refuse_lawful _ u
  | some m => exact plain_lawful (.of_eq rfl)

theorem writePacer_lawful (entry : List Byte) (u : State) : (writePacer entry u).Lawful u := by
  unfold writePacer
  cases parsePacer entry with
  | none => exact refuse_lawful _ u
  | some p => exact plain_lawful (.of_eq rfl)

theorem writeLine_lawful (entry : List Byte) (u : State) : (writeLine entry u).Lawful u := by
  unfold writeLine
  cases parseLine u.port.node entry with
  | none => exact refuse_lawful _ u
  | some p => exact plain_lawful (.of_eq rfl)

/-! ## Every row -/

/-- At power-on the queues are empty, no zone is configured and every figure is 0 (R52, R95, R160). -/
theorem powerOn_lawful (straps : BitVec 6) (s : State) : s.StaysLawful (State.powerOn straps) := by
  have hempty (q : QueueId) : (State.powerOn straps).port.entries q = [] := by cases q <;> rfl
  refine ⟨fun _ => ⟨fun q f hf => ?_, fun q => ?_, List.nodup_nil⟩, fun _ => ?_, fun _ => ⟨?_, Nat.zero_le _, ?_⟩⟩
  · rw [hempty] at hf
    cases hf
  · rw [Port.fill, hempty]
    exact Nat.zero_le _
  · rw [payloadLaw_iff]
    exact ⟨fun q f hf => (by rw [hempty] at hf; cases hf), fun f hf => (by cases hf)⟩
  · have hzone (k : Nat) : (State.powerOn straps).zoneState k = .initial := by
      rw [State.zoneState, show (State.powerOn straps).climate.zones = List.replicate 12 .initial from rfl,
        List.getD_eq_getElem?_getD, List.getElem?_replicate]
      split <;> rfl
    refine (climateLaw_iff _).2 ⟨rfl, fun k => ?_⟩
    rw [hzone]
    exact ⟨by decide, fun hk => absurd hk (Nat.not_lt_zero k), fun hk => absurd hk (Nat.not_lt_zero k), fun _ => rfl⟩
  · intro z hz
    rw [List.eq_of_mem_replicate hz]
    rfl

/-- Every row keeps the laws. -/
theorem exec_lawful {c : Instr} {s t : State} (ht : exec c s = .next t) : s.StaysLawful t := by
  -- a row by the state that it answers
  have row {u : State} (hu : (.next u : Host.Outcome State Fault Refusal) = .next t) (h : s.StaysLawful u) :
      s.StaysLawful t := of_next (P := s.StaysLawful) hu h
  -- a row that leaves the frames and the zones
  have same {u : State} (hu : (.next u : Host.Outcome State Fault Refusal) = .next t) (h : u.sendings = s.sendings) :
      s.StaysLawful t := row hu (.of_eq h)
  -- a row that first takes what was handed on
  have took {u : State} (e : Instr) (hu : (.next u : Host.Outcome State Fault Refusal) = .next t)
      (h : (s.took e).StaysLawful u) : s.StaysLawful t := by
    have taken : s.StaysLawful (s.took e) := .of_eq rfl
    exact row hu (taken.trans h)
  -- a directive row
  have dir {d : Directive} {gap : Bool} {act : List Byte → State → Answer}
      (hu : (.next (runDirective d gap act s) : Host.Outcome State Fault Refusal) = .next t)
      (h : AnswersLawfully act) : s.StaysLawful t := row hu (runDirective_lawful h s)
  cases c with
  | powerOnReset straps => exact row ht ((powerOn_lawful straps s).then_eq rfl)
  | trunkReset =>
    refine row ht ?_
    split
    · exact .refl s
    · exact (trunkReset_lawful s).then_eq (foldl_keeps State.sendings State.hand State.hand_sendings _ _)
  | signalUnitTrunkReset => exact took _ ht (.foldl (fun u k => makeLost_lawful k u) _ _)
  | pacerTrunkReset => exact took _ ht (cancelFire_lawful _)
  | chainTrunkReset => exact same ht (by (repeat' split) <;> rfl)
  | dischargeTrunkReset => exact same ht rfl
  | lineSequencerTrunkReset =>
    refine took .lineSequencerTrunkReset ht (State.StaysLawful.then_eq ?_ (State.setSequencer_sendings _ _))
    exact .ite (enterMode_lawful _ _ _)
  | agentTrunkReset => exact same ht rfl
  | idleGap received =>
    refine same ht ?_
    split
    · rfl
    · exact cutOffReception_sendings received s
  | receptionEnd received ending => exact row ht (endReception_lawful received ending s)
  | directiveAcknowledge received => exact same ht (by (repeat' split) <;> rfl)
  | frameDraw =>
    refine row ht ?_
    split
    case isTrue h => exact draw_lawful h.2
    case isFalse => exact .refl s
  | claimLost => exact claimLost_lawful ht
  | transmissionBroken => exact row ht (endFrame_lawful _ s)
  | acknowledgeSlotOutcome dominant => exact row ht (endFrame_lawful _ s)
  | knifeFireOutcome f o => exact row ht (takeOutcome_lawful _ (takeFireOutcome_lawful _ o) s)
  | chainStepOutcome f o => exact row ht (takeOutcome_lawful _ (takeStepOutcome_lawful _ o) s)
  | pressCmdOutcome f run o =>
    exact row ht (takeOutcome_lawful _ (fun u => .of_eq (by rw [takePressOutcome]; split <;> rfl)) s)
  | zoneCommandOutcome f o => exact row ht (takeOutcome_lawful _ .refl s)
  | stripOrderOutcome f q o =>
    exact row ht (takeOutcome_lawful _ (fun u => .of_eq (takeOrderOutcome_sendings q o u)) s)
  | managementFrameOutcome f o => exact row ht (takeOutcome_lawful _ .refl s)
  | speedArrival v tick => exact took _ ht (takeSpeed_lawful v tick _)
  | spreaderStateArrival v => exact took (.spreaderStateArrival v) ht (.ite (evaluateFire_lawful _))
  | knifeCountEvents n => exact took _ ht (takeKnifeCount_lawful n _)
  | knifeTimerExpiry => exact row ht (.ite (miss_lawful s))
  | settleTimerExpiry => exact same ht (by split <;> rfl)
  | pacerModeChange old new =>
    have settled : s.StaysLawful (settleModeChange old new (s.took (.pacerModeChange old new))) := .of_eq (by simp)
    exact row ht (settled.trans (pacerFollowsMode_lawful new _))
  | chainModeChange old new =>
    have drained : s.StaysLawful (drainModeChange old new (s.took (.chainModeChange old new))) := .of_eq (by simp)
    exact row ht (drained.trans (.ite (evaluateChain_lawful _)))
  | chainCountEvents n => exact took _ ht (takeChainCount_lawful n _)
  | chainIndexEvents n => exact same ht (forEach_keeps State.sendings _ (fun _ => indexEvent_sendings) n _)
  | stepTimerExpiry => exact row ht (.ite (failStep_lawful 2 s))
  | drainTimerExpiry =>
    have expired : s.StaysLawful (s.setChain { s.chain with drainTimer := .expired }) := .of_eq rfl
    exact row ht (.ite (expired.trans ((tryInsertion_lawful _).trans (evaluateChain_lawful _))))
  | stripperStateArrival v => exact took (.stripperStateArrival v) ht (.ite (orderHead_lawful _))
  | stripperCountEvents n => exact took _ ht (takeStripperCount_lawful n _)
  | stallTimerExpiry => exact same ht (by split <;> rfl)
  | pressStateArrival v =>
    refine took (.pressStateArrival v) ht (State.StaysLawful.trans ?_ (.ite (queuePressCommand_lawful _)))
    exact .ite (raiseFault_lawful _ _ _)
  | zoneRhArrival k => exact took (.zoneRhArrival k) ht (.ite (refreshDemand_lawful k _))
  | staleTimerExpiry role => exact same ht (by rw [staleExpiry]; split <;> rfl)
  | lostTimerExpiry role => exact row ht (.ite (makeLost_lawful role s))
  | climateLossTimerExpiry k =>
    have expired : s.StaysLawful (s.setLoss k .expired (s.lossMark k)) := .of_eq rfl
    exact row ht (.ite (expired.trans (climateCheck_lawful _)))
  | airTimerExpiry k =>
    refine row ht ?_
    split
    case isTrue h => exact alternateAir_lawful h.1
    case isFalse => exact .refl s
  | sweepTimerExpiry =>
    have scheduled : s.StaysLawful (s.setDrying { s.drying with
        nextExpiry := s.drying.nextExpiry + s.drying.interval }) := .of_eq rfl
    exact row ht (.ite (scheduled.trans (onSweepExpiry_lawful _)))
  | caneVisit =>
    refine row ht ?_
    split
    · exact .refl s
    split
    · exact .refl s
    · exact takeNumber_lawful _ _ s
  | sweepEnd =>
    refine row ht ?_
    split
    · exact .refl s
    · exact .ite (finishSweep_lawful _ s)
  | faultRaise code d => exact took _ ht (raiseFault_lawful code d _)
  | readTable r => exact dir ht readTable_lawful
  | writeTableListen r =>
    exact dir ht (answersLawfully_withEntries (writesLawfully_withModes (writesLawfully_withRange writeListen_lawful)))
  | writeTableTalk r =>
    exact dir ht (answersLawfully_withEntries (writesLawfully_withModes (writesLawfully_withRange writeTalk_lawful)))
  | writeTableZone r => exact dir ht (answersLawfully_withEntries writeZone_lawful)
  | writeTableZoneCount r =>
    exact dir ht (answersLawfully_withEntries (writesLawfully_withRange fun _ _ => writeZoneCount_lawful _))
  | writeTableMeq r => exact dir ht (answersLawfully_withEntries (writesLawfully_withRange writeMeq_lawful))
  | writeTableKd r =>
    exact dir ht (answersLawfully_withEntries (writesLawfully_withRange fun _ _ _ => plain_lawful (.of_eq rfl)))
  | writeTableModel r =>
    exact dir ht (answersLawfully_withEntries (writesLawfully_withRange fun _ _ => writeModel_lawful _))
  | writeTableGap r =>
    exact dir ht (answersLawfully_withEntries (writesLawfully_withRange fun _ _ _ => plain_lawful (.of_eq rfl)))
  | writeTablePacer r =>
    exact dir ht (answersLawfully_withEntries (writesLawfully_withRange fun _ _ => writePacer_lawful _))
  | writeTableLine r =>
    exact dir ht (answersLawfully_withEntries (writesLawfully_withRange fun _ _ => writeLine_lawful _))
  | writeTableUnwritable r =>
    refine row ht ?_
    split
    · exact .refl s
    · exact runDirective_lawful (fun args u => by rw [refuseTable]; split <;> exact refuse_lawful _ u) s
  | readCane r => exact dir ht (answersLawfully_withLength readCane_lawful)
  | markCanes r => exact dir ht (answersLawfully_withLength markCanes_lawful)
  | clearLine r => exact dir ht (answersLawfully_withLength clearLineAnswer_lawful)
  | lotOpen r => exact dir ht (answersLawfully_withLength (answersLawfully_withSlot fun _ => openLot_lawful _))
  | lotStage r => exact dir ht (answersLawfully_withLength (answersLawfully_withSlot fun _ => appendStage_lawful _))
  | lotSeal r => exact dir ht (answersLawfully_withLength (answersLawfully_withSlot fun _ => sealLot_lawful))
  | lotDiscard r => exact dir ht (answersLawfully_withLength (answersLawfully_withSlot fun _ => discardLot_lawful))
  | lotArm r => exact dir ht (answersLawfully_withLength fun _ => armLot_lawful _)
  | modePrime r => exact dir ht (answersLawfully_modeFrom enterPriming_lawful)
  | modeRun r => exact dir ht (answersLawfully_modeFrom enterRunning_lawful)
  | modeHold r => exact dir ht (answersLawfully_modeFrom (enterByDirective_lawful _))
  | modeResume r => exact dir ht (answersLawfully_modeFrom enterPriming_lawful)
  | modeDrain r => exact dir ht (answersLawfully_modeFrom enterDraining_lawful)
  | modeStop r => exact dir ht (answersLawfully_modeFrom enterStopped_lawful)
  | modeSafe r => exact dir ht (answersLawfully_modeFrom enterSafe_lawful)
  | modeLeaveSafe r => exact dir ht (answersLawfully_modeFrom leaveSafe_lawful)
  | ackFault r => exact dir ht (answersLawfully_withLength fun _ => ackFault_lawful _)
  | readStatus r => exact dir ht (answersLawfully_withLength readStatus_lawful)
  | readTotals r =>
    exact dir ht (answersLawfully_withLength fun _ u => read_lawful u (by simp [totalsBody]))
  | clearTotals r => exact dir ht (answersLawfully_withLength fun _ _ => plain_lawful (.of_eq rfl))
  | unknownDirective sender payload =>
    refine row ht ?_
    split
    · exact .refl s
    · exact runDirective_lawful (fun _ => refuse_lawful _) s
  | lineClockTick => exact same ht rfl
  | startMark received =>
    refine same ht ?_
    split
    · rfl
    · exact cutOffReception_sendings received s
  | dominantRun bits => exact same ht (by split <;> rfl)
  | trunkResetReleased => exact same ht (by split <;> rfl)
  | modeUnknownArgument r =>
    refine row ht ?_
    split
    · exact .refl s
    · exact runDirective_lawful (fun args u => by rw [refuseMode]; split <;> exact refuse_lawful _ u) s

/-- An idle step changes nothing, and every other takes a row. -/
theorem step_lawful {s t : State} (ht : step s = .next t) : s.StaysLawful t := by
  unfold step at ht
  split at ht
  case h_1 => exact of_next (P := s.StaysLawful) ht (.refl s)
  case h_2 c rest _ =>
    have popped : s.StaysLawful { s with pending := rest } := .of_eq rfl
    exact popped.trans (exec_lawful ht)

/-! ## The obligations -/

/-- Settles O52: a frame joins its own queue with room, a zone command only without its like, and every payload fits. -/
theorem transmitQueueLawIsKept : Obligations.TransmitQueueLawIsKept :=
  fun _ _ ht => ⟨(step_lawful ht).queues, (step_lawful ht).payloads⟩

theorem ZoneMapLaw.zonesLaw {s : State} (hm : ZoneMapLaw s) (hc : ClimateLaw s) : ZonesLaw s := by
  obtain ⟨-, hle, hranged, -⟩ := hm
  exact ⟨hc, hle, hranged⟩

/-- The outputs of a zone's form for a demand in range (R103). -/
theorem outputs_inRange {d : Int} {vMin : Nat} (hd : -127 ≤ d ∧ d ≤ 127) (hv : vMin ≤ 127) (form : OutputForm) :
    (form = .single → firstOutput form d ≤ 254 ∧ secondOutput form vMin d = 0) ∧
    (form = .divided → firstOutput form d ≤ 127 ∧ secondOutput form vMin d ≤ 127 ∧
      (firstOutput form d = 0 ∨ secondOutput form vMin d = 0)) ∧
    (form = .biased → firstOutput form d ≤ 127 ∧ vMin ≤ secondOutput form vMin d ∧ secondOutput form vMin d ≤ 127) := by
  cases form <;> simp only [firstOutput, secondOutput, reduceCtorEq, false_implies, true_implies, true_and, and_true]
  · omega
  · omega
  · omega

/-- Settles O57: every row keeps the law of the zones, and a demand in range gives outputs in the range of the form. -/
theorem climateLawIsKept : Obligations.ClimateLawIsKept := by
  refine ⟨fun s t hm hc ht => ((step_lawful ht).zones (hm.zonesLaw hc)).climate, fun s k hm hc _ => ?_⟩
  have hs := hm.zonesLaw hc
  exact ⟨_, _, _, rfl, outputs_inRange (hs.zoneState k).demand (limits_of_inRange (hs.zoneEntry k)).2.2 _⟩

end Sys2Proof.Machine
end

section
/-!
SUPPORT. A zone's answers to an arrival and to its air timer (R102 to R107): the one zone command that each queues, and
the zone's state that each stores.
-/

namespace Sys2Proof.Machine

/-! ## One zone command (R103, R104) -/

/-- The owner of a zone command takes its outcome as that of a zone command (R164). -/
theorem outcomeEvent_of_zoneKey {f : Frame} {key : ZoneCommandKind × Nat} (h : zoneKey f.body = some key)
    (o : FrameOutcome) : outcomeEvent f o = .zoneCommandOutcome f.sent o := by
  obtain ⟨number, dest, body⟩ := f
  cases body with
  | zoneClimate | airDir => rfl
  | knifeFire | chainStep | pressCmd | stripOrder | response | report => cases h

section ZoneCommand

variable {role : Nat} {body : FrameBody} {key : ZoneCommandKind × Nat} {s : State}

/-- A zone command joins the routine queue's tail in an ordinary node that has room. -/
theorem handFrame_of_room (dest : Nat) (hkey : zoneKey body = some key) (hs : s.port.silent = false)
    (hroom : s.port.hasRoom .routine = true) : handFrame dest body s = withRoutine s dest body := by
  have hq := queueOf_of_zoneKey hkey
  rcases handFrame_cases dest body s with ⟨hn, -⟩ | ⟨-, -, h⟩
  · rw [hq, hs, hroom] at hn
    simp at hn
  · rw [h, Port.joinTail, hq]
    rfl

/-- In a silent listener it is never sent (R165). -/
theorem handFrame_of_silent (dest : Nat) (hkey : zoneKey body = some key) (hs : s.port.silent = true) :
    handFrame dest body s = { s with
      port := { s.port with frameCount := inc32 s.port.frameCount },
      handed := s.handed ++
        [.zoneCommandOutcome { number := inc32 s.port.frameCount, content := payloadOf body } .neverSent] } := by
  rcases handFrame_cases dest body s with ⟨-, h⟩ | ⟨hn, -⟩
  · rw [h, outcomeEvent_of_zoneKey (by exact hkey)]
    rfl
  · rw [hs] at hn
    cases hn

/-- A zone command is queued in R104's three ways. -/
theorem zoneCommandQueued_queueZoneCommand (hkey : zoneKey body = some key) :
    ZoneCommandQueued s (queueZoneCommand role body s) role body := by
  refine ⟨fun hd => queueZoneCommand_unqueued (.inl hd), fun dest hd => ⟨fun hqueued => ?_, fun hnew hfill hs => ?_,
    fun hnew hfill hs => ?_, fun hnew hfull => queueZoneCommand_unqueued (.inr ⟨hnew, hfull⟩)⟩⟩
  · rw [← hasZoneCommand_iff] at hqueued
    simp only [queueZoneCommand, hd, hqueued, if_true]
    rfl
  · rw [← hasRoom_routine_iff] at hfill
    rw [← hasZoneCommand_iff] at hnew
    simp only [queueZoneCommand, hd, hnew, hfill, if_true]
    exact handFrame_of_room dest hkey hs hfill
  · rw [← hasRoom_routine_iff] at hfill
    rw [← hasZoneCommand_iff] at hnew
    simp only [queueZoneCommand, hd, hnew, hfill, if_true]
    exact handFrame_of_silent dest hkey hs

end ZoneCommand

/-! ## What the queueing of a frame does not look at -/

/-- The climate replaced. -/
def State.setClimate (s : State) (c : Climate) : State := { s with climate := c }

/-- A frame is queued alike whatever the zones' states are. -/
theorem handFrame_setClimate (dest : Nat) (body : FrameBody) (c : Climate) (s : State) :
    handFrame dest body (s.setClimate c) = (handFrame dest body s).setClimate c := by
  simp only [handFrame, apply_ite (State.setClimate · c)]
  rfl

/-- So is a zone command. -/
theorem queueZoneCommand_setClimate (role : Nat) (body : FrameBody) (c : Climate) (s : State) :
    queueZoneCommand role body (s.setClimate c) = (queueZoneCommand role body s).setClimate c := by
  have htalk : (s.setClimate c).talkNode role = s.talkNode role := rfl
  unfold queueZoneCommand
  rw [htalk]
  cases s.talkNode role with
  | none => rfl
  | some dest =>
    dsimp only
    rw [handFrame_setClimate, apply_ite (State.setClimate · c), apply_ite (State.setClimate · c)]
    rfl

/-! ## A humidity arrival (R102) -/

/-- A zone's demand against its RH setpoint is stored and its ZONE_CLIMATE queued. -/
theorem refreshDemand_eq {k : Nat} {s : State} (h : k < s.climate.zones.length) :
    refreshDemand k s =
      queueZoneCommand (4 + k)
        (climateCommand s k (s.zoneState k).tempSetpoint (demandAgainst s k (s.zoneState k).rhSetpoint))
        (s.setZone k { s.zoneState k with demand := demandAgainst s k (s.zoneState k).rhSetpoint }) := by
  rw [refreshDemand, humidityDemand_eq, queueZoneClimate, zoneClimateBody_eq, zoneState_setZone_self _ h]
  rfl

/-! ## An air timer expiry (R106, R107) -/

theorem toggled_eq (d : AirDirection) : d.toggled = if d = .forward then .reverse else .forward := by cases d <;> rfl

/-- The zone's state once its direction is turned and its air timer started again, with `g` the generator's value. -/
def State.alternatedZone (s : State) (k : Nat) (g : BitVec 16) : ZoneState :=
  { s.zoneState k with
    direction := (s.zoneState k).direction.toggled,
    airTimer := .running (s.lineTime + (s.zoneEntry k).airBase + g.toNat % ((s.zoneEntry k).airJitter + 1)) }

/-- The direction turned is queued as AIR_DIR; the zone's state is as if it had been stored first. -/
theorem alternateAir_eq {k : Nat} {s : State} (h : k < s.climate.zones.length) :
    alternateAir k s = queueZoneCommand (16 + k) (.airDir k (s.zoneState k).direction.toggled) (s.setClimate {
      zones := s.climate.zones.set k (s.alternatedZone k (staggerNext s.climate.stagger)),
      stagger := staggerNext s.climate.stagger }) := by
  let turned := s.setZone k { s.zoneState k with direction := (s.zoneState k).direction.toggled }
  let sent := queueZoneCommand (16 + k) (.airDir k (s.zoneState k).direction.toggled) turned
  have hturned : turned.zoneState k = { s.zoneState k with direction := (s.zoneState k).direction.toggled } :=
    zoneState_setZone_self _ h
  have hsent : queueAirDir k turned = sent := by
    rw [queueAirDir, hturned]
    rfl
  have hclimate : sent.climate = turned.climate := queueZoneCommand_climate ..
  have hzone : sent.zoneState k = turned.zoneState k := zoneState_congr (congrArg Climate.zones hclimate) k
  have hentry : sent.zoneEntry k = s.zoneEntry k := by
    rw [State.zoneEntry, queueZoneCommand_canes]
    rfl
  have hline : sent.lineTime = s.lineTime := queueZoneCommand_lineTime ..
  have hstarted : startAirTimer k sent = sent.setClimate {
      zones := s.climate.zones.set k (s.alternatedZone k (staggerNext s.climate.stagger)),
      stagger := staggerNext s.climate.stagger } := by
    rw [startAirTimer, State.setZone, hzone, hentry, hline, hclimate, hturned, staggerStep_eq,
      State.alternatedZone, ← hline]
    simp only [turned, State.setZone, List.set_set]
    rfl
  rw [alternateAir, show s.setZone k _ = turned from rfl, hsent, hstarted, ← queueZoneCommand_setClimate]
  rfl

/-! ## The obligation -/

/-- Settles O28: each command of a zone is queued in the state that stores the zone's answer. -/
theorem zonesAnswerArrivalsAndAlternate : Obligations.ZonesAnswerArrivalsAndAlternate := by
  intro s k
  refine ⟨fun hk => ⟨?_, ?_⟩, fun hk hlen => ⟨⟨refreshDemand k (s.took (.zoneRhArrival k)), ?_, ?_⟩,
    fun x hx hdue => ⟨alternateAir k s, ?_, ?_⟩⟩⟩
  · exact congrArg Host.Outcome.next (if_neg (Nat.not_lt.2 hk))
  · exact congrArg Host.Outcome.next (if_neg fun h => Nat.not_lt.2 hk h.1)
  · exact congrArg Host.Outcome.next (if_pos hk)
  · rw [refreshDemand_eq (by exact hlen)]
    exact zoneCommandQueued_queueZoneCommand (zoneKey_climateCommand ..)
  · have hexpired : (s.zoneState k).airTimer.due s.lineTime = true := by
      rw [hx]
      exact decide_eq_true hdue
    exact congrArg Host.Outcome.next (if_pos ⟨hk, hexpired⟩)
  · rw [alternateAir_eq hlen, State.alternatedZone, toggled_eq]
    exact zoneCommandQueued_queueZoneCommand rfl

end Sys2Proof.Machine
end

section
/-!
SUPPORT. The derivation at the end of a sweep (R98 to R104): one zone's, the run over the configured zones, and what the
closing of the sweep leaves of it.
-/

namespace Sys2Proof.Machine

/-! ## The target climate (R98) -/

/-- `t` and `h` are the least temperature and the greatest RH of a list of stages. -/
structure BoundsOf (gs : List Stage) (t : Int) (h : Nat) : Prop where
  least : ∃ p ∈ gs, p.temperature = t
  greatest : ∃ q ∈ gs, q.humidity = h
  bounds : ∀ g ∈ gs, t ≤ g.temperature ∧ g.humidity ≤ h

theorem BoundsOf.unique {gs : List Stage} {t t' : Int} {h h' : Nat} (a : BoundsOf gs t h) (b : BoundsOf gs t' h') :
    t = t' ∧ h = h' := by
  obtain ⟨⟨p, hp, rfl⟩, ⟨q, hq, rfl⟩, ha⟩ := a
  obtain ⟨⟨p', hp', rfl⟩, ⟨q', hq', rfl⟩, hb⟩ := b
  exact ⟨Int.le_antisymm (ha p' hp').1 (hb p hp).1, Nat.le_antisymm (hb q hq).2 (ha q' hq').2⟩

theorem BoundsOf.cons {gs : List Stage} {t : Int} {h : Nat} (b : BoundsOf gs t h) (g : Stage) :
    BoundsOf (g :: gs) (min g.temperature t) (max g.humidity h) := by
  obtain ⟨⟨p, hp, rfl⟩, ⟨q, hq, rfl⟩, hb⟩ := b
  refine ⟨?_, ?_, List.forall_mem_cons.2 ⟨by omega, fun x hx => ?_⟩⟩
  · rcases min_choice g.temperature p.temperature with hmin | hmin
    · exact ⟨g, List.mem_cons_self, hmin.symm⟩
    · exact ⟨p, List.mem_cons_of_mem g hp, hmin.symm⟩
  · rcases max_choice g.humidity q.humidity with hmax | hmax
    · exact ⟨g, List.mem_cons_self, hmax.symm⟩
    · exact ⟨q, List.mem_cons_of_mem g hq, hmax.symm⟩
  · have hle := hb x hx
    omega

/-- A zone with records has the least temperature and the greatest RH of their stages for its climate. -/
theorem climateOf_boundsOf {gs : List Stage} (hne : gs ≠ []) : ∃ t h, climateOf gs = some (t, h) ∧ BoundsOf gs t h := by
  induction gs with
  | nil => exact absurd rfl hne
  | cons g gs ih =>
    by_cases hgs : gs = []
    · subst hgs
      exact ⟨_, _, rfl, ⟨g, List.mem_cons_self, rfl⟩, ⟨g, List.mem_cons_self, rfl⟩,
        List.forall_mem_singleton.2 ⟨Int.le_refl _, Nat.le_refl _⟩⟩
    · obtain ⟨t, h, heq, hb⟩ := ih hgs
      exact ⟨_, _, by rw [climateOf, heq], hb.cons g⟩

theorem climateOf_eq {gs : List Stage} {t : Int} {h : Nat} (hb : BoundsOf gs t h) : climateOf gs = some (t, h) := by
  obtain ⟨p, hp, -⟩ := hb.least
  obtain ⟨t', h', heq, hb'⟩ := climateOf_boundsOf (List.ne_nil_of_mem hp)
  obtain ⟨rfl, rfl⟩ := hb.unique hb'
  exact heq

/-! ## One zone's derivation (R98 to R103) -/

/-- The state of a zone once its setpoints are derived. -/
def State.derivedZone (s : State) (k : Nat) : ZoneState :=
  { s.zoneState k with
    tempSetpoint := (s.derivedSetpoints k).1, rhSetpoint := (s.derivedSetpoints k).2,
    demand := demandAgainst s k (s.derivedSetpoints k).2 }

/-- The ZONE_CLIMATE that it then queues. -/
def State.derivedCommand (s : State) (k : Nat) : FrameBody :=
  climateCommand s k (s.derivedZone k).tempSetpoint (s.derivedZone k).demand

/-- A zone's derived state is stored and its ZONE_CLIMATE queued. -/
theorem deriveZone_eq {k : Nat} {s : State} (h : k < s.climate.zones.length) :
    deriveZone k s = queueZoneCommand (4 + k) (s.derivedCommand k) (s.setZone k (s.derivedZone k)) := by
  have hset : (s.setSetpoints k (s.derivedSetpoints k)).zoneState k = { s.zoneState k with
      tempSetpoint := (s.derivedSetpoints k).1, rhSetpoint := (s.derivedSetpoints k).2 } := zoneState_setZone_self _ h
  have hlen : k < (s.setSetpoints k (s.derivedSetpoints k)).climate.zones.length := by
    rw [State.setSetpoints, State.setZone, List.length_set]
    exact h
  rw [deriveZone, refreshDemand_eq hlen, hset, State.setSetpoints, setZone_setZone]
  rfl

/-- A derivation reads of the zones its own zone's state only, and nothing of the trunk port. -/
theorem derivedSetpoints_congr {s : State} {k : Nat} {c : Climate} {p : Port} {es : List Instr}
    (hz : ({ s with climate := c, port := p, handed := es } : State).zoneState k = s.zoneState k) :
    ({ s with climate := c, port := p, handed := es } : State).derivedSetpoints k = s.derivedSetpoints k := by
  unfold State.derivedSetpoints
  rw [hz]
  rfl

theorem derivedZone_congr {s : State} {k : Nat} {c : Climate} {p : Port} {es : List Instr}
    (hz : ({ s with climate := c, port := p, handed := es } : State).zoneState k = s.zoneState k) :
    ({ s with climate := c, port := p, handed := es } : State).derivedZone k = s.derivedZone k := by
  unfold State.derivedZone
  rw [derivedSetpoints_congr hz, hz]
  rfl

/-! ## The run over the configured zones (R98) -/

/-- The setpoints of the zones below `n` have been derived, from `s` to `t`, among a number `m` of commands. -/
structure ZonesDerived (m n : Nat) (s t : State) : Prop where
  frame : t = { s with climate := t.climate, port := t.port, handed := t.handed }
  length : t.climate.zones.length = s.climate.zones.length
  zone : ∀ k, k < n → t.zoneState k = s.derivedZone k
  other : ∀ k, n ≤ k → t.zoneState k = s.zoneState k
  fill_le : s.port.fill .routine ≤ t.port.fill .routine
  fill_up : t.port.fill .routine ≤ s.port.fill .routine + n
  silent : t.port.silent = s.port.silent
  kept : ∀ k, n ≤ k → commandsOf (some (.climate, k)) t.port.routine = commandsOf (some (.climate, k)) s.port.routine
  climate : ∀ k, k < n → ZoneCommandAmong s t (4 + k) (s.derivedCommand k) m

theorem zonesDerived_zero (m : Nat) (s : State) : ZonesDerived m 0 s s :=
  ⟨rfl, rfl, fun k hk => absurd hk (Nat.not_lt_zero k), fun _ _ => rfl, Nat.le_refl _, Nat.le_refl _, rfl,
    fun _ _ => rfl, fun k hk => absurd hk (Nat.not_lt_zero k)⟩

section NextZone

variable {m n : Nat} {s t : State}

/-- A zone that has not had its turn derives as at the start of the run. -/
theorem ZonesDerived.derivedZone_eq (h : ZonesDerived m n s t) : t.derivedZone n = s.derivedZone n := by
  have hz := h.other n (Nat.le_refl n)
  rw [h.frame] at hz ⊢
  exact derivedZone_congr hz

theorem ZonesDerived.derivedCommand_eq (h : ZonesDerived m n s t) : t.derivedCommand n = s.derivedCommand n := by
  rw [State.derivedCommand, h.derivedZone_eq, h.frame]
  rfl

/-- The run goes on to the next zone. -/
theorem ZonesDerived.next (h : ZonesDerived m n s t) (hm : n + 1 ≤ m) (hn : n < s.climate.zones.length) :
    ZonesDerived m (n + 1) s (deriveZone n t) := by
  let stored := t.setZone n (s.derivedZone n)
  have hlen : n < t.climate.zones.length := h.length ▸ hn
  have hderive : deriveZone n t = queueZoneCommand (4 + n) (s.derivedCommand n) stored := by
    rw [deriveZone_eq hlen, h.derivedCommand_eq, h.derivedZone_eq]
  have hkey : zoneKey (s.derivedCommand n) = some (.climate, n) := zoneKey_climateCommand ..
  have hqueue : queueOf (s.derivedCommand n) = .routine := queueOf_climateCommand ..
  have hzone (k : Nat) : (deriveZone n t).zoneState k = if k = n then s.derivedZone n else t.zoneState k := by
    rw [← zoneState_setZone _ k hlen, hderive]
    exact zoneState_congr (congrArg Climate.zones (queueZoneCommand_climate ..)) k
  have hother {k : Nat} (hk : k ≠ n) : commandsOf (some (.climate, k)) (deriveZone n t).port.routine =
      commandsOf (some (.climate, k)) t.port.routine := by
    rw [hderive, queueZoneCommand_commandsOf_ne hqueue]
    · rfl
    · rw [hkey]
      exact fun he => hk (congrArg Prod.snd (Option.some.inj he))
  obtain ⟨hle, hup, hsilent⟩ := queueZoneCommand_fill (role := 4 + n) (s := stored) hqueue
  rw [← hderive] at hle hup hsilent
  have hle' := h.fill_le
  have hup' := h.fill_up
  refine ⟨?_, ?_, fun k hk => ?_, fun k hk => ?_, hle'.trans hle, ?_, hsilent.trans h.silent, fun k hk => ?_,
    fun k hk => ?_⟩
  · have hstep : { deriveZone n t with climate := t.climate, port := t.port, handed := t.handed } = t := by
      simp [hderive, stored, State.setZone]
    have hframe := h.frame
    rw [← hstep] at hframe
    exact (congrArg (fun u : State => { u with
      climate := (deriveZone n t).climate, port := (deriveZone n t).port, handed := (deriveZone n t).handed }) hframe :)
  · rw [hderive, queueZoneCommand_climate]
    exact List.length_set.trans h.length
  · rw [hzone]
    split
    case isTrue he => rw [he]
    case isFalse he => exact h.zone k (by omega)
  · rw [hzone, if_neg (by omega)]
    exact h.other k (by omega)
  · have hsame : stored.port.fill .routine = t.port.fill .routine := rfl
    omega
  · rw [hother (by omega)]
    exact h.kept k (by omega)
  · by_cases he : k = n
    · subst he
      have hsame : stored.port.fill .routine = t.port.fill .routine := rfl
      exact zoneCommandAmong_of_queued (v := stored) hkey hqueue
        (congrArg (fun u : State => u.signals.talk) h.frame :) (h.kept k (Nat.le_refl k)) h.fill_le (by omega) h.silent
        (congrArg State.port hderive)
    · exact zoneCommandAmong_congr (zoneKey_climateCommand ..) (hother he) (h.climate k (by omega))

end NextZone

/-- The derivation of every configured zone. -/
theorem zonesDerived_deriveClimate {s : State} (hn : s.canes.zoneCount ≤ s.climate.zones.length) :
    ZonesDerived s.canes.zoneCount s.canes.zoneCount s (deriveClimate s) := by
  have run (n : Nat) (hle : n ≤ s.canes.zoneCount) :
      ZonesDerived s.canes.zoneCount n s (forEach n deriveZone s) := by
    induction n with
    | zero => exact zonesDerived_zero _ s
    | succ n ih =>
      rw [forEach_succ]
      exact (ih (Nat.le_of_succ_le hle)).next hle (Nat.lt_of_lt_of_le hle hn)
  exact run _ (Nat.le_refl _)

/-! ## The closing of the sweep (R81, R137) -/

theorem climateCheck_routineView (s : State) : (climateCheck s).routineView = s.routineView := by
  refine forEach_keeps State.routineView _ (fun k u => ?_) _ s
  rw [climateCheckZone]
  split
  · exact raiseFault_routineView _ _ _
  · rfl

/-- The closing of a sweep keeps the derived zones and the zone commands. -/
theorem closeSweep_derived (w : Sweep) (s : State) :
    (closeSweep w s).climate = (deriveClimate s).climate ∧
    (closeSweep w s).port.routine = (deriveClimate s).port.routine := by
  rw [closeSweep]
  exact ⟨climateCheck_climate _, congrArg Prod.fst (climateCheck_routineView _)⟩

/-- The climate loss check is made from the derived state. -/
theorem closeSweep_lossChecked {s : State} (w : Sweep) (hlen : s.sequencer.lossRaised.length = 12)
    (hcount : s.canes.zoneCount ≤ 12) (hn : s.canes.zoneCount ≤ s.climate.zones.length) (d : Drying) :
    ClimateLossChecked s ((closeSweep w s).setDrying d) := by
  have hframe := (zonesDerived_deriveClimate hn).frame
  have hcanes : (deriveClimate s).canes = s.canes := (congrArg State.canes hframe :)
  have hseq : (deriveClimate s).sequencer = s.sequencer := (congrArg State.sequencer hframe :)
  have htime : (deriveClimate s).lineTime = s.lineTime := (congrArg State.lineTime hframe :)
  refine climateLossChecked_climateCheck (u := (deriveClimate s).setDrying { (deriveClimate s).drying with
      sweep := none, completed := inc16 (deriveClimate s).drying.completed,
      summary := { time := w.time, updated := w.updated, unknown := w.unknown, skipped := w.skipped } })
    hlen hcount (congrArg (·.zoneCount) hcanes) htime (congrArg Sequencer.lossTimers hseq)
    (congrArg Sequencer.lossRaised hseq) (congrArg Sequencer.faults hseq) rfl (climateCheck_canes _)

/-- A sweep that ends with none owed, or with records to sweep next, leaves its closing but for the drying model. -/
theorem exec_sweepEnd_closes {s : State} {w : Sweep} (hw : s.drying.sweep = some w) (hnext : w.next = none)
    (h : s.drying.sweepPending = false ∨ s.canes.records ≠ []) :
    ∃ d, exec .sweepEnd s = .next ((closeSweep w s).setDrying d) := by
  have hexec : exec .sweepEnd s = .next (finishSweep w s) := by
    rw [exec_sweepEnd_sweeping hw, hnext]
    rfl
  rw [hexec]
  by_cases howed : s.drying.sweepPending = true
  · cases hr : s.canes.records with
    | nil => exact absurd hr (h.resolve_left (by rw [howed]; nofun))
    | cons c rest =>
      have hrecords : (closeSweep w s).canes.records = c :: rest := by rw [(closeSweep_frame w s).2.1, hr]
      rw [finishSweep_of_owed howed, startAndCloseEmpty_of_records (by exact hrecords)]
      exact ⟨_, rfl⟩
  · rw [finishSweep_of_not_owed (Bool.eq_false_iff.2 howed)]
    exact ⟨(closeSweep w s).drying, rfl⟩

/-! ## What a zone derives (R98 to R101) -/

section Setpoints

variable {s : State} {k : Nat}

theorem derivedSetpoints_of_safe (hm : s.sequencer.mode = .safe) : s.derivedSetpoints k =
    (limitTemp (s.zoneEntry k) (s.zoneEntry k).safeT, limitRh (s.zoneEntry k) (s.zoneEntry k).safeRh) := if_pos hm

theorem derivedSetpoints_of_lost (hm : s.sequencer.mode ≠ .safe)
    (hl : s.isLost (8 + k) = true ∨ s.isLost (20 + k) = true) :
    s.derivedSetpoints k = ((s.zoneState k).tempSetpoint, (s.zoneState k).rhSetpoint) := by
  have hlost : s.climateLost k = true := Bool.or_eq_true_iff.2 hl
  simp only [State.derivedSetpoints, if_neg hm, hlost, if_true]

theorem derivedSetpoints_of_target (hm : s.sequencer.mode ≠ .safe) (ht : s.isLost (8 + k) = false)
    (hrh : s.isLost (20 + k) = false) : s.derivedSetpoints k =
      (limitTemp (s.zoneEntry k) (slewed (s.zoneState k).tempSetpoint (s.zoneTarget k).1 (s.zoneEntry k).ramp
        s.drying.interval), limitRh (s.zoneEntry k) (s.zoneTarget k).2) := by
  have hlost : s.climateLost k = false := Bool.or_eq_false_iff.2 ⟨ht, hrh⟩
  simp only [State.derivedSetpoints, if_neg hm, hlost]
  rfl

theorem zoneTarget_of_empty (h : s.productsIn k = []) :
    s.zoneTarget k = ((s.zoneEntry k).idleT, (s.zoneEntry k).idleRh) := by
  rw [State.zoneTarget, h]
  rfl

/-- The target of a zone by two of its records, one with the least temperature and one with the greatest RH. -/
theorem zoneTarget_of_bounds {p q : Product} (hp : p ∈ s.productsIn k) (hq : q ∈ s.productsIn k)
    (h : ∀ r ∈ s.productsIn k, (s.currentStage p).temperature ≤ (s.currentStage r).temperature ∧
      (s.currentStage r).humidity ≤ (s.currentStage q).humidity) :
    s.zoneTarget k = ((s.currentStage p).temperature, (s.currentStage q).humidity) := by
  have hb : BoundsOf ((s.productsIn k).map s.currentStage) (s.currentStage p).temperature
      (s.currentStage q).humidity :=
    ⟨⟨_, List.mem_map_of_mem hp, rfl⟩, ⟨_, List.mem_map_of_mem hq, rfl⟩, List.forall_mem_map.2 h⟩
  rw [State.zoneTarget, climateOf_eq hb]
  rfl

end Setpoints

end Sys2Proof.Machine
end

section
/-!
SUPPORT. A sweep over an empty queue derives too (R79, R81): the end of a sweep does the same whether another one is
owed or not, and the obligation.
-/

namespace Sys2Proof.Machine

/-! ## What no part of a sweep's end looks at -/

/-- No sweep is owed any longer. -/
def State.notOwed (s : State) : State := s.setDrying { s.drying with sweepPending := false }

theorem forEach_notOwed {f : Nat → State → State} (h : ∀ k s, f k s.notOwed = (f k s).notOwed) (n : Nat) (s : State) :
    forEach n f s.notOwed = (forEach n f s).notOwed := by
  induction n with
  | zero => rfl
  | succ n ih => rw [forEach_succ, ih, h, forEach_succ]

theorem handFrame_notOwed (dest : Nat) (body : FrameBody) (s : State) :
    handFrame dest body s.notOwed = (handFrame dest body s).notOwed := by
  simp only [handFrame, apply_ite State.notOwed]
  rfl

theorem queueReport_notOwed (r : Report) (s : State) : queueReport r s.notOwed = (queueReport r s).notOwed := by
  simp only [queueReport, handFrame_notOwed, apply_ite State.notOwed]
  rfl

theorem queuePressCommand_notOwed (s : State) : queuePressCommand s.notOwed = (queuePressCommand s).notOwed := by
  have htalk : s.notOwed.talkNode talkPress = s.talkNode talkPress := rfl
  rw [queuePressCommand, queuePressCommand, htalk]
  cases s.talkNode talkPress with
  | none => rfl
  | some dest =>
    simp only [handFrame_notOwed, apply_ite State.notOwed]
    rfl

theorem enterModeCore_notOwed (m : LineMode) (r : ModeReason) (c : Option FaultCode) (s : State) :
    enterModeCore m r c s.notOwed = (enterModeCore m r c s).notOwed := by
  have hset : setMode m s.notOwed = (setMode m s).notOwed := rfl
  simp only [enterModeCore, hset, queuePressCommand_notOwed, ← apply_ite State.notOwed, queueReport_notOwed]
  rfl

theorem raiseFault_notOwed (code : FaultCode) (d : Nat) (s : State) :
    raiseFault code d s.notOwed = (raiseFault code d s).notOwed := by
  let listed : State := { s with sequencer := { s.sequencer with
    faults := s.sequencer.faults ++ [{ code := code, time := s.lineTime, count := 1, detail := d }] } }
  let after := modeAfterFault s.sequencer.mode s.sequencer.faults.isEmpty
  let r : Report := .faultRaised code d s.sequencer.mode after
  change (if s.sequencer.lists code then
      State.notOwed { s with sequencer := { s.sequencer with faults := bumpFault code s.sequencer.faults } }
    else if after = s.sequencer.mode then queueReport r listed.notOwed
    else enterModeCore after .fault (some code) (queueReport r listed.notOwed)) = _
  rw [queueReport_notOwed, enterModeCore_notOwed, ← apply_ite State.notOwed, ← apply_ite State.notOwed]
  rfl

theorem climateCheckZone_notOwed (k : Nat) (s : State) :
    climateCheckZone k s.notOwed = (climateCheckZone k s).notOwed := by
  have hset : s.notOwed.setLoss k .expired true = (s.setLoss k .expired true).notOwed := rfl
  rw [climateCheckZone, climateCheckZone, hset, raiseFault_notOwed, apply_ite State.notOwed]
  rfl

theorem queueZoneCommand_notOwed (role : Nat) (body : FrameBody) (s : State) :
    queueZoneCommand role body s.notOwed = (queueZoneCommand role body s).notOwed := by
  have htalk : s.notOwed.talkNode role = s.talkNode role := rfl
  rw [queueZoneCommand, queueZoneCommand, htalk]
  cases s.talkNode role with
  | none => rfl
  | some dest =>
    dsimp only
    rw [handFrame_notOwed, apply_ite State.notOwed, apply_ite State.notOwed]
    rfl

theorem deriveZone_notOwed (k : Nat) (s : State) : deriveZone k s.notOwed = (deriveZone k s).notOwed := by
  let derived := s.setSetpoints k (s.derivedSetpoints k)
  let stored := derived.setZone k { derived.zoneState k with demand := derived.humidityDemand k }
  exact queueZoneCommand_notOwed (talkZoneClimate k) (stored.zoneClimateBody k) stored

theorem closeSweep_notOwed (w : Sweep) (s : State) : closeSweep w s.notOwed = (closeSweep w s).notOwed := by
  have derive : deriveClimate s.notOwed = (deriveClimate s).notOwed := forEach_notOwed deriveZone_notOwed _ s
  have check (u : State) : climateCheck u.notOwed = (climateCheck u).notOwed :=
    forEach_notOwed climateCheckZone_notOwed _ u
  rw [closeSweep, closeSweep, derive, ← check]
  rfl

/-! ## A sweep over an empty queue (R79, R81) -/

/-- The sweep over an empty queue that starts at this moment. -/
def State.emptySweep (s : State) : Sweep :=
  { time := s.lineTime, first := none, last := none, next := none, updated := 0, unknown := 0, skipped := 0 }

/-- An expiry that finds the queue empty ends its sweep as SWEEP_END does (R78, R79). -/
theorem sweepTimerExpiry_empty {s : State} (hdue : s.drying.nextExpiry ≤ s.lineTime) (hidle : s.drying.sweep = none)
    (hr : s.canes.records = []) : exec .sweepTimerExpiry s = exec .sweepEnd (s.setDrying { s.drying with
      nextExpiry := s.drying.nextExpiry + s.drying.interval, sweep := some s.emptySweep }) := by
  let u := s.setDrying { s.drying with nextExpiry := s.drying.nextExpiry + s.drying.interval }
  have hnew : u.newSweep = s.emptySweep := newSweep_of_empty (s := u) hr
  have hexpiry : exec .sweepTimerExpiry s = .next (onSweepExpiry u) := exec_sweepTimerExpiry_due hdue
  rw [hexpiry, onSweepExpiry_idle (s := u) hidle, startSweep_eq, hnew]
  exact (exec_sweepEnd_sweeping (s := u.setDrying { u.drying with sweep := some s.emptySweep }) rfl).symm

/-- A sweep that was owed ends, over an empty queue, after the one in flight has (R79, R81). -/
theorem sweepEnd_owed_empty {s : State} {w : Sweep} (hw : s.drying.sweep = some w) (hnext : w.next = none)
    (howed : s.drying.sweepPending = true) (hr : s.canes.records = []) :
    exec .sweepEnd s.notOwed = .next (closeSweep w s.notOwed) ∧
    exec .sweepEnd s = exec .sweepEnd ((closeSweep w s.notOwed).setDrying { (closeSweep w s.notOwed).drying with
      sweep := some s.emptySweep }) := by
  obtain ⟨hd, hc, ht⟩ := closeSweep_frame w s
  let u := (closeSweep w s).notOwed
  have hu : closeSweep w s.notOwed = u := closeSweep_notOwed w s
  have hrecords : u.canes.records = [] := (congrArg (·.records) hc).trans hr
  have hnew : u.newSweep = s.emptySweep := (newSweep_of_empty hrecords).trans (by
    rw [show u.lineTime = s.lineTime from ht]; rfl)
  have hexec : exec .sweepEnd s = .next (finishSweep w s) := by
    rw [exec_sweepEnd_sweeping hw, hnext]
    rfl
  have hfinish : finishSweep w s =
      closeSweep s.emptySweep (u.setDrying { u.drying with sweep := some s.emptySweep }) := by
    rw [finishSweep_of_owed howed, ← hd, ← hnew, ← startSweep_eq]
    exact startAndCloseEmpty_of_empty hrecords
  refine ⟨?_, ?_⟩
  · rw [exec_sweepEnd_sweeping (s := s.notOwed) hw, hnext, ← finishSweep_of_not_owed (s := s.notOwed) rfl]
    rfl
  · rw [hexec, hfinish, hu, exec_sweepEnd_sweeping (w := s.emptySweep) (by rfl)]
    exact congrArg Host.Outcome.next (finishSweep_of_not_owed rfl).symm

/-! ## The obligation -/

/-- Settles O31: the derived zones stand through the closing of the sweep, and a sweep over an empty queue is closed by
the same end. -/
theorem sweepEndDerivesTheSetpoints : Obligations.SweepEndDerivesTheSetpoints := by
  refine ⟨fun s w k hw hnext howed hk hlen hcount => ?_, fun s => ⟨sweepTimerExpiry_empty, fun w hw hnext howed hr =>
    ⟨_, sweepEnd_owed_empty hw hnext howed hr⟩⟩⟩
  have hn : s.canes.zoneCount ≤ s.climate.zones.length := hlen ▸ hcount
  obtain ⟨d, hexec⟩ := exec_sweepEnd_closes hw hnext howed
  obtain ⟨hclimate, hroutine⟩ := closeSweep_derived w s
  have derived := zonesDerived_deriveClimate hn
  let t := (closeSweep w s).setDrying d
  have hzone : t.zoneState k = s.derivedZone k :=
    (zoneState_congr (congrArg Climate.zones hclimate) k).trans (derived.zone k hk)
  have htemp : (t.zoneState k).tempSetpoint = (s.derivedSetpoints k).1 := congrArg ZoneState.tempSetpoint hzone
  have hrh : (t.zoneState k).rhSetpoint = (s.derivedSetpoints k).2 := congrArg ZoneState.rhSetpoint hzone
  refine ⟨t, hexec, ?_, ?_, fun hloss => closeSweep_lossChecked w hloss hcount hn d, fun hm => ?_, fun hm hl => ?_,
    fun hm ht hh => ⟨fun hempty => ?_, fun p hp q hq hbounds => ?_⟩⟩
  · rw [hzone]
    rfl
  · rw [hzone]
    exact zoneCommandAmong_congr (zoneKey_climateCommand ..) (congrArg (commandsOf _) hroutine) (derived.climate k hk)
  · rw [htemp, hrh, derivedSetpoints_of_safe hm]
    exact ⟨rfl, rfl⟩
  · rw [htemp, hrh, derivedSetpoints_of_lost hm hl]
    exact ⟨rfl, rfl⟩
  · rw [htemp, hrh, derivedSetpoints_of_target hm ht hh, zoneTarget_of_empty hempty]
    exact ⟨rfl, rfl⟩
  · rw [htemp, hrh, derivedSetpoints_of_target hm ht hh, zoneTarget_of_bounds hp hq hbounds]
    exact ⟨rfl, rfl⟩

end Sys2Proof.Machine
end

section
/-!
SUPPORT. The order of the discharge unit's head (R117, R118): what a READY arrival sends and what an outcome withdraws.
-/

namespace Sys2Proof.Machine

/-! ## The order of the head (R117) -/

/-- The row takes the arrival off the ledger, and READY alone is acted on. -/
theorem exec_stripperStateArrival (v : Int) (s : State) :
    exec (.stripperStateArrival v) s =
      .next (if v = 1 then orderHead (s.took (.stripperStateArrival v)) else s.took (.stripperStateArrival v)) := rfl

/-- A frame of a routine kind joins the routine queue's tail in an ordinary node that has room. -/
theorem handFrame_withRoutine {dest : Nat} {body : FrameBody} {s : State} (hq : queueOf body = .routine)
    (hs : s.port.silent = false) (hroom : s.port.fill .routine < 24) :
    handFrame dest body s = withRoutine s dest body := by
  rcases handFrame_cases dest body s with ⟨hn, -⟩ | ⟨-, -, h⟩
  · rw [hq, hs, (hasRoom_routine_iff _).2 hroom] at hn
    simp at hn
  · rw [h, Port.joinTail, hq]
    rfl

/-- No order goes out with an empty discharge queue, with one outstanding, without a STRIPPER entry or with a full
routine queue. -/
theorem orderHead_of_not_orderable {s : State}
    (h : s.discharge.entries = [] ∨ s.discharge.orderOutstanding = true ∨ s.talkNode 3 = none ∨
      24 ≤ s.port.fill .routine) : orderHead s = s := by
  rw [orderHead]
  split
  case h_1 e rest dest he hd =>
    have hd' : s.talkNode 3 = some dest := hd
    refine if_neg ?_
    rintro ⟨ho, hroom⟩
    have hfill := (hasRoom_routine_iff _).1 hroom
    rcases h with h | h | h | h
    · simp [he] at h
    · simp [ho] at h
    · simp [hd'] at h
    · omega
  case h_2 => rfl

/-- The order of the head joins the routine queue's tail, and the flag is set. -/
theorem orderHead_of_orderable {s : State} {e : DischargeEntry} {rest : List DischargeEntry} {dest : Nat}
    (he : s.discharge.entries = e :: rest) (ho : s.discharge.orderOutstanding = false)
    (hd : s.talkNode 3 = some dest) (hroom : s.port.fill .routine < 24) (hs : s.port.silent = false) :
    orderHead s = withRoutine (s.setDischarge { s.discharge with orderOutstanding := true }) dest
      (orderBody (s.lotSlot e.product.lot).header e) := by
  have hd' : s.talkNode talkStripper = some dest := hd
  simp only [orderHead, he, hd', ho, (hasRoom_routine_iff _).2 hroom, and_self, if_true]
  rw [handFrame_withRoutine rfl hs hroom, withRoutine, he]
  rfl

/-! ## Outcomes of STRIP_ORDER (R118) -/

/-- The oldest outcome reported is taken off the ledger and acted on (R164). -/
theorem exec_stripOrderOutcome {s : State} {frame : SentFrame} {q : Nat} {o : FrameOutcome}
    (h : s.nextOutcome = some (.stripOrderOutcome frame q o)) :
    exec (.stripOrderOutcome frame q o) s =
      .next (takeOrderOutcome q o (s.took (.stripOrderOutcome frame q o))) := congrArg _ (if_pos h)

section Outcome

variable {s : State} {e : DischargeEntry} {rest : List DischargeEntry} {q : Nat} {o : FrameOutcome}

/-- A NACK or never-sent outcome of the head's order withdraws it. -/
theorem takeOrderOutcome_of_failed (he : s.discharge.entries = e :: rest) (ho : s.discharge.orderOutstanding = true)
    (hq : e.sequence = q) (hfailed : o ≠ .acknowledged) : takeOrderOutcome q o s = withdrawOrder e rest s := by
  simp only [takeOrderOutcome, he]
  exact if_pos ⟨ho, hq, hfailed⟩

/-- Every other outcome changes nothing: that of an order completed or withdrawn, and that of an acknowledged one. -/
theorem takeOrderOutcome_of_ignored (he : s.discharge.entries = e :: rest)
    (h : s.discharge.orderOutstanding = false ∨ e.sequence ≠ q ∨ o = .acknowledged) : takeOrderOutcome q o s = s := by
  simp only [takeOrderOutcome, he]
  refine if_neg ?_
  rintro ⟨ho, hq, hfailed⟩
  rcases h with h | h | h
  · simp [ho] at h
  · exact h hq
  · exact hfailed h

theorem takeOrderOutcome_of_empty (he : s.discharge.entries = []) : takeOrderOutcome q o s = s := by
  simp only [takeOrderOutcome, he]

end Outcome

/-- Settles O23: READY sends the head's order when R117 lets it, and a failed order is withdrawn and decided again. -/
theorem stripOrdersGoToTheHead : Obligations.StripOrdersGoToTheHead := by
  intro s v n q dest o e rest
  refine ⟨fun h => ?_, fun hv he ho hd hroom hs => ?_, fun hnext he => ⟨fun ho hq hfailed => ?_, fun h => ?_⟩,
    fun hnext he => ?_⟩
  · rw [exec_stripperStateArrival]
    rcases h with hv | h
    · rw [if_neg hv]
      rfl
    · rw [orderHead_of_not_orderable (s := s.took (.stripperStateArrival v)) h, ite_self]
      rfl
  · rw [exec_stripperStateArrival, if_pos hv,
      orderHead_of_orderable (s := s.took (.stripperStateArrival v)) he ho hd hroom hs]
    rfl
  · rw [exec_stripOrderOutcome hnext,
      takeOrderOutcome_of_failed (s := s.took (.stripOrderOutcome n q o)) he ho hq hfailed]
    rfl
  · rw [exec_stripOrderOutcome hnext, takeOrderOutcome_of_ignored (s := s.took (.stripOrderOutcome n q o)) he h]
    rfl
  · rw [exec_stripOrderOutcome hnext, takeOrderOutcome_of_empty (s := s.took (.stripOrderOutcome n q o)) he]
    rfl

end Sys2Proof.Machine
end

section
/-!
SUPPORT. The expiries of the stall timer (R121) and of a climate loss timer (R137), with the check that follows it over
every configured zone.
-/

namespace Sys2Proof.Machine

/-! ## The stall timer (R121) -/

theorem LatchTimer.due_running {e now : Nat} (h : e ≤ now) : (LatchTimer.running e).due now = true :=
  decide_eq_true h

/-- The expiry asks for DISCHARGE_STALL, and its detail says whether an order is outstanding. -/
theorem exec_stallTimerExpiry {s : State} {e : Nat} (ht : s.discharge.stallTimer = .running e) (he : e ≤ s.lineTime) :
    exec .stallTimerExpiry s = .next ((s.setDischarge { s.discharge with stallTimer := .expired }).hand
      (.faultRaise .dischargeStall (if s.discharge.orderOutstanding = true then 1 else 0))) := by
  have hdue : s.discharge.stallTimer.due s.lineTime = true := by rw [ht]; exact LatchTimer.due_running he
  exact congrArg _ (if_pos hdue)

/-! ## The check whatever the number of zones (R137) -/

/-- Only the timers of the list are ever running or expired. -/
theorem lossTimer_lt {s : State} {k : Nat} (h : s.lossTimer k ≠ .stopped) : k < s.sequencer.lossTimers.length := by
  by_contra hge
  exact h (List.getD_eq_default _ _ (Nat.le_of_not_lt hge))

/-- The check goes on over zones of which none is due. -/
theorem ChecksMade.extend {m n : Nat} {s : State} (h : ChecksMade m s (forEach m climateCheckZone s)) (hmn : m ≤ n)
    (hnone : ∀ k, m ≤ k → ¬ s.lossDue k) : ChecksMade n s (forEach n climateCheckZone s) := by
  induction n, hmn using Nat.le_induction with
  | base => exact h
  | succ n hle ih =>
    have hnot : ¬ (forEach n climateCheckZone s).lossDue n := by
      rw [zoneDue_congr ih.timers (ih.kept n fun hk => Nat.lt_irrefl n hk.1) ih.canes]
      exact hnone n hle
    rw [forEach_succ, climateCheckZone_of_not_due hnot]
    exact ih.next_of_not_due (hnone n hle)

/-- With a mark for every loss timer the check reaches every configured zone. -/
theorem checksMade_climateCheck {s : State} (hlen : s.sequencer.lossTimers.length ≤ s.sequencer.lossRaised.length) :
    ChecksMade s.canes.zoneCount s (climateCheck s) := by
  rcases Nat.le_total s.canes.zoneCount s.sequencer.lossRaised.length with hle | hle
  · exact checksMade_forEach _ hle
  · exact (checksMade_forEach _ le_rfl).extend hle fun k hk hd => by
      obtain ⟨hexpired, -, -⟩ := hd
      have hlt := lossTimer_lt (s := s) (k := k) (by rw [hexpired]; nofun)
      omega

/-! ## The climate loss timers (R137) -/

section LossExpiry

variable {s : State} {k e : Nat}

/-- The expiry writes the zone's mark back as it stands. -/
theorem setLoss_lossMark_lossRaised (x : LatchTimer) (hk : k < s.sequencer.lossRaised.length) :
    (s.setLoss k x (s.lossMark k)).sequencer.lossRaised = s.sequencer.lossRaised := by
  rw [State.setLoss_sequencer, State.lossMark, ← List.getElem_eq_getD (h := hk), List.set_getElem_self]

theorem exec_climateLossTimerExpiry (ht : s.lossTimer k = .running e) (he : e ≤ s.lineTime) :
    exec (.climateLossTimerExpiry k) s = .next (climateCheck (s.setLoss k .expired (s.lossMark k))) := by
  have hdue : (s.lossTimer k).due s.lineTime = true := by rw [ht]; exact LatchTimer.due_running he
  exact congrArg _ (if_pos hdue)

end LossExpiry

/-- Settles O25: the stall timer's expiry asks for its fault, and the check after a loss timer's expiry reaches every
configured zone. -/
theorem stallAndClimateLossRunOut : Obligations.StallAndClimateLossRunOut := by
  refine fun s k e he => ⟨fun ht => exec_stallTimerExpiry ht he, fun ht hzone htimers hmarks => ?_⟩
  have hk : k < 12 := htimers ▸ lossTimer_lt (by rw [ht]; nofun)
  let u := s.setLoss k .expired (s.lossMark k)
  have hraised : u.sequencer.lossRaised = s.sequencer.lossRaised := setLoss_lossMark_lossRaised _ (by omega)
  have hmark : u.lossMark k = s.lossMark k := congrArg (·.getD k false) hraised
  have htimer (j : Nat) : u.lossTimer j = if k = j then .expired else s.lossTimer j :=
    (congrArg Prod.fst (setLoss_lossState .expired (s.lossMark k) htimers hmarks hk j)).trans (apply_ite Prod.fst _ _ _)
  have hlen : u.sequencer.lossTimers.length = 12 := (List.length_set ..).trans htimers
  have hmade : ChecksMade s.canes.zoneCount u (climateCheck u) :=
    checksMade_climateCheck (by rw [hlen, hraised, hmarks])
  have kept (j : Nat) : (climateCheck u).lossTimer j = u.lossTimer j := congrArg (·.getD j .stopped) hmade.timers
  have due (hp : s.productsIn k ≠ []) (hm : s.lossMark k = false) : u.lossDue k :=
    ⟨(htimer k).trans (if_pos rfl), hmark.trans hm, hp⟩
  have same (h : ¬ u.lossDue k) : (climateCheck u).lossMark k = s.lossMark k :=
    (hmade.kept k fun hd => h hd.2).trans hmark
  refine ⟨climateCheck u, exec_climateLossTimerExpiry ht he, ((kept k).trans (htimer k)).trans (if_pos rfl),
    fun j hj => ((kept j).trans (htimer j)).trans (if_neg hj.symm),
    fun hp => ⟨?_, fun hm => (hmade.marked k hzone (due hp hm)).2⟩,
    fun hp => same fun ⟨_, _, hproducts⟩ => hproducts hp, fun hcount => ?_, ?_⟩
  · cases hm : s.lossMark k with
    | false => exact (hmade.marked k hzone (due hp hm)).1
    | true =>
      have hnot : ¬ u.lossDue k := fun ⟨_, hclear, _⟩ => by simp [hmark, hm] at hclear
      exact (same hnot).trans hm
  · exact climateLossChecked_climateCheck (u := u) hmarks hcount rfl rfl rfl hraised rfl rfl (climateCheck_canes u)
  · exact congrArg (fun v : State => { v with sequencer := s.sequencer }) (climateCheck_frame u)

end Sys2Proof.Machine
end

section
/-!
SUPPORT. The fault list law and the slot law (R125, R132, R146, R147): what they read of a state, and for every shared
operation that it keeps them.
-/

namespace Sys2Proof.Machine

/-! ## What the laws read -/

/-- What the two laws read of a state: the line mode, the fault list and the measurement slots. -/
structure Watch where
  mode : LineMode
  faults : List FaultEntry
  slots : List Slot

/-- The watch of a state. -/
def State.watch (s : State) : Watch :=
  { mode := s.sequencer.mode, faults := s.sequencer.faults, slots := s.signals.slots }

/-- From `s` to `t` the fault list law and the slot law are kept. -/
structure State.KeepsWatch (s t : State) : Prop where
  faults : FaultListLaw s → FaultListLaw t
  slots : SlotLaw s → SlotLaw t

namespace State.KeepsWatch

theorem refl (s : State) : s.KeepsWatch s := ⟨id, id⟩

theorem trans {s t u : State} (h : s.KeepsWatch t) (k : t.KeepsWatch u) : s.KeepsWatch u :=
  ⟨k.faults ∘ h.faults, k.slots ∘ h.slots⟩

/-- A state with the same slots keeps the laws when it keeps that of the fault list. -/
theorem of_faults {s t : State} (hf : FaultListLaw s → FaultListLaw t) (hg : t.signals = s.signals) :
    s.KeepsWatch t := ⟨hf, by rw [SlotLaw, SlotLaw, hg]; exact id⟩

/-- A state with the same watch keeps the laws. -/
theorem of_eq {s t : State} (h : t.watch = s.watch) : s.KeepsWatch t := by
  obtain ⟨hm, hf, hg⟩ := Watch.mk.inj h
  exact ⟨by rw [FaultListLaw, FaultListLaw, hm, hf]; exact id, by rw [SlotLaw, SlotLaw, hg]; exact id⟩

/-- What is kept from a state with the same watch is kept. -/
theorem from_eq {s t u : State} (k : t.KeepsWatch u) (h : t.watch = s.watch) : s.KeepsWatch u := (of_eq h).trans k

/-- A fold of operations that keep the laws keeps them. -/
theorem foldl {β : Type} {f : State → β → State} (h : ∀ (u : State) (b : β), u.KeepsWatch (f u b)) (bs : List β)
    (s : State) : s.KeepsWatch (bs.foldl f s) := by
  induction bs generalizing s with
  | nil => exact refl s
  | cons b bs ih => exact (h s b).trans (ih _)

/-- An operation made on a condition keeps what the operation keeps. -/
theorem ite {c : Prop} [Decidable c] {s t : State} (h : s.KeepsWatch t) : s.KeepsWatch (if c then t else s) := by
  split
  · exact h
  · exact refl s

end State.KeepsWatch

/-! ## Operations that leave the watch -/

@[simp] theorem State.hand_watch (s : State) (e : Instr) : (s.hand e).watch = s.watch := rfl

@[simp] theorem State.setPort_watch (s : State) (p : Port) : (s.setPort p).watch = s.watch := rfl

@[simp] theorem State.setPacer_watch (s : State) (p : Pacer) : (s.setPacer p).watch = s.watch := rfl

@[simp] theorem State.setDrying_watch (s : State) (d : Drying) : (s.setDrying d).watch = s.watch := rfl

@[simp] theorem State.setZone_watch (s : State) (k : Nat) (z : ZoneState) : (s.setZone k z).watch = s.watch := rfl

@[simp] theorem State.setLoss_watch (s : State) (k : Nat) (t : LatchTimer) (m : Bool) :
    (s.setLoss k t m).watch = s.watch := rfl

@[simp] theorem setStepState_watch (st : StepState) (s : State) : (setStepState st s).watch = s.watch := rfl

@[simp] theorem handFrame_watch (dest : Nat) (body : FrameBody) (s : State) :
    (handFrame dest body s).watch = s.watch := by simp [State.watch]

@[simp] theorem queueReport_watch (r : Report) (s : State) : (queueReport r s).watch = s.watch := by
  simp [State.watch]

@[simp] theorem evaluateFire_watch (s : State) : (evaluateFire s).watch = s.watch := by simp [State.watch]

@[simp] theorem evaluateChain_watch (s : State) : (evaluateChain s).watch = s.watch := by simp [State.watch]

@[simp] theorem placeRecord_watch (p : Option Product) (s : State) : (placeRecord p s).watch = s.watch := by
  simp [State.watch]

@[simp] theorem tryInsertion_watch (s : State) : (tryInsertion s).watch = s.watch := by simp [State.watch]

@[simp] theorem afterFireEnd_watch (s : State) : (afterFireEnd s).watch = s.watch := by simp [State.watch]

@[simp] theorem freeIfRetired_watch (i : Nat) (s : State) : (freeIfRetired i s).watch = s.watch := by
  simp [State.watch]

@[simp] theorem releaseRef_watch (i : Nat) (s : State) : (releaseRef i s).watch = s.watch := by simp [State.watch]

@[simp] theorem refreshDemand_watch (k : Nat) (s : State) : (refreshDemand k s).watch = s.watch := by
  simp [State.watch]

@[simp] theorem queueAirDir_watch (k : Nat) (s : State) : (queueAirDir k s).watch = s.watch := by simp [State.watch]

@[simp] theorem startAirTimer_watch (k : Nat) (s : State) : (startAirTimer k s).watch = s.watch := by
  simp [State.watch]

/-- A climate slot's loss changes of the sequencer the loss timers and their marks (R137). -/
@[simp] theorem climateSlotLost_watch (k : Nat) (s : State) : (climateSlotLost k s).watch = s.watch := by
  rw [climateSlotLost]; split <;> rfl

@[simp] theorem climateSlotBack_watch (k : Nat) (s : State) : (climateSlotBack k s).watch = s.watch := by
  rw [climateSlotBack]; split <;> rfl

@[simp] theorem reportGain_watch (role : Nat) (s : State) : (reportGain role s).watch = s.watch := by
  rw [reportGain]; (repeat' split) <;> simp

/-- A press command changes of the sequencer what is owed (R129). -/
@[simp] theorem queuePressCommand_watch (s : State) : (queuePressCommand s).watch = s.watch := by
  rw [State.watch, queuePressCommand_sequencer, queuePressCommand_signals]; rfl

/-! ## The fault list (R125, R132) -/

/-- Outside SAFE at most one fault is listed. -/
theorem FaultListLaw.length_le_one {s : State} (h : FaultListLaw s) (hm : s.sequencer.mode ≠ .safe) :
    s.sequencer.faults.length ≤ 1 := by
  obtain ⟨-, -, hsafe⟩ := h
  exact Nat.le_of_not_lt fun hl => hm (hsafe hl)

/-- Counting a listed code keeps the codes of the list. -/
theorem bumpFault_codes (code : FaultCode) (es : List FaultEntry) :
    (bumpFault code es).map FaultEntry.code = es.map FaultEntry.code := by
  rw [bumpFault, List.map_map]
  refine List.map_congr_left fun e _ => ?_
  simp only [Function.comp_apply]
  split <;> rfl

theorem lists_eq_false_iff (q : Sequencer) (code : FaultCode) :
    q.lists code = false ↔ ∀ e ∈ q.faults, e.code ≠ code := by simp [Sequencer.lists]

/-- A fault already listed is counted; a new one joins the list, the second with SAFE (R132). -/
theorem raiseFault_keepsWatch (code : FaultCode) (d : Nat) (s : State) : s.KeepsWatch (raiseFault code d s) := by
  refine .of_faults (fun ⟨hcodes, hcounts, hsafe⟩ => ?_) (raiseFault_signals code d s)
  obtain ⟨owed, hseq⟩ := raiseFault_sequencer code d s
  rw [FaultListLaw, hseq]
  split
  case isTrue =>
    refine ⟨by rwa [bumpFault_codes], fun e he => ?_, by simpa [bumpFault] using hsafe⟩
    obtain ⟨x, hx, rfl⟩ := List.mem_map.1 he
    obtain ⟨hpos, hle⟩ := hcounts x hx
    split
    · exact ⟨by simp only; omega, by simp only; omega⟩
    · exact ⟨hpos, hle⟩
  case isFalse hnew =>
    have hnew := (lists_eq_false_iff _ _).1 (Bool.not_eq_true _ ▸ hnew)
    refine ⟨?_, fun e he => ?_, fun hlen => ?_⟩
    · rw [List.map_append, List.map_singleton, ← List.concat_eq_append, List.nodup_concat]
      refine ⟨fun hmem => ?_, hcodes⟩
      obtain ⟨e, he, hc⟩ := List.mem_map.1 hmem
      exact hnew e he hc
    · rcases List.mem_append.1 he with he | he
      · exact hcounts e he
      · rw [List.mem_singleton.1 he]
        exact ⟨Nat.le_refl 1, by simp only; omega⟩
    · cases hfs : s.sequencer.faults with
      | nil => simp [hfs] at hlen
      | cons => rfl

theorem speedLostTest_keepsWatch (s : State) : s.KeepsWatch (speedLostTest s) := .ite (raiseFault_keepsWatch _ _ s)

/-- A mode may be entered with at most one fault listed, and SAFE with any (R126, R132). -/
theorem enterMode_keepsWatch {m : LineMode} {s : State} (r : ModeReason)
    (h : FaultListLaw s → s.sequencer.faults.length ≤ 1 ∨ m = .safe) : s.KeepsWatch (enterMode m r s) := by
  have core : s.KeepsWatch (enterModeCore m r none s) := by
    refine .of_faults (fun hs => ?_) (enterModeCore_signals _ _ _ s)
    obtain ⟨hcodes, hcounts, -⟩ := id hs
    rw [FaultListLaw, enterModeCore_sequencer]
    exact ⟨hcodes, hcounts, fun hlen => (h hs).resolve_left (Nat.not_le.2 hlen)⟩
  unfold enterMode
  cases m with
  | running => exact core.trans (.of_eq (by simp [State.watch]))
  | priming => exact core.trans (speedLostTest_keepsWatch _)
  | stopped => exact core
  | holding => exact core
  | draining => exact core
  | safe => exact core

/-- Outside SAFE every mode may be entered. -/
theorem enterMode_keepsWatch_of_ne_safe {s : State} (m : LineMode) (r : ModeReason)
    (h : s.sequencer.mode ≠ .safe) : s.KeepsWatch (enterMode m r s) :=
  enterMode_keepsWatch r fun hs => .inl (hs.length_le_one h)

theorem climateCheck_keepsWatch (s : State) : s.KeepsWatch (climateCheck s) := by
  refine .foldl (fun u k => ?_) _ s
  exact .ite ((raiseFault_keepsWatch _ _ _).from_eq (u.setLoss_watch k .expired true))

/-! ## The measurement slots (R146, R147, R148) -/

/-- Every slot is in step with its freshness; a role without a slot reads as one at power-on. -/
theorem SlotLaw.slot {s : State} (h : SlotLaw s) (role : Nat) : (s.slot role).timed := by
  obtain ⟨-, htimed⟩ := h
  by_cases hr : role < s.signals.slots.length
  · rw [State.slot, List.getD_eq_getElem _ _ hr]
    exact htimed _ (List.getElem_mem hr)
  · rw [State.slot, List.getD_eq_default _ _ (Nat.le_of_not_lt hr)]
    exact timed_initial

/-- A slot written in step with its freshness keeps the laws. -/
theorem setSlot_keepsWatch {s : State} {role : Nat} {x : Slot} (h : SlotLaw s → x.timed) :
    s.KeepsWatch (s.setSlot role x) := by
  refine ⟨id, fun hs => ⟨by simpa using hs.1, fun y hy => ?_⟩⟩
  rcases List.mem_or_eq_of_mem_set hy with hy | rfl
  · exact hs.2 y hy
  · exact h hs

theorem madeLost_timed (x : Slot) : x.madeLost.timed := ⟨fun _ => ⟨rfl, rfl, rfl⟩, nofun, nofun⟩

/-- The speed slot's loss may list SPEED_LOST; every other loss leaves the watch (R148). -/
theorem reportLoss_keepsWatch (role : Nat) (s : State) : s.KeepsWatch (reportLoss role s) := by
  rcases reportLoss_cases role s with ⟨-, h⟩ | ⟨-, h⟩ | ⟨k, -, -, h⟩ | ⟨k, -, -, h⟩ | ⟨-, -, -, -, h⟩ <;> rw [h]
  · exact (speedLostTest_keepsWatch _).from_eq rfl
  · exact .of_eq rfl
  · exact .of_eq (climateSlotLost_watch k s)
  · exact .of_eq ((climateSlotLost_watch k _).trans (by split <;> simp))
  · exact .refl s

theorem makeLost_keepsWatch (role : Nat) (s : State) : s.KeepsWatch (makeLost role s) := by
  have lost : s.KeepsWatch (s.setSlot role (s.slot role).madeLost) := setSlot_keepsWatch fun _ => madeLost_timed _
  rcases makeLost_cases role s with ⟨-, h⟩ | ⟨-, h⟩ <;> rw [h]
  · exact lost
  · exact lost.trans (reportLoss_keepsWatch role _)

/-- An accepted item leaves both timers of its slot running (R147). -/
theorem acceptItem_keepsWatch (role : Nat) (v : Int) (st : SampleStatus) (tick : Nat) (s : State) :
    s.KeepsWatch (acceptItem role v st tick s) := by
  rw [acceptItem]
  refine State.KeepsWatch.trans ?_ (.foldl (f := State.hand) (fun u e => .of_eq (u.hand_watch e)) _ _)
  let x := (s.slot role).accepted (storedValue role v) st tick (limitsOf s.line (classOf role))
  let y := if classOf role = .event then { x with baseline := some (storedValue role v).toNat } else x
  have timed : y.timed := by
    simp only [y]
    split <;> exact ⟨nofun, nofun, fun _ => ⟨nofun, nofun⟩⟩
  have stored : s.KeepsWatch (s.setSlot role y) := setSlot_keepsWatch fun _ => timed
  split
  · exact stored.trans (.of_eq (reportGain_watch role _))
  · exact stored

theorem takeItem_keepsWatch (source tick : Nat) (i : SampleItem) (s : State) :
    s.KeepsWatch (takeItem source tick i s) := by
  rw [takeItem]
  split
  · exact .refl s
  split
  · exact acceptItem_keepsWatch _ _ _ _ s
  · exact .ite (acceptItem_keepsWatch _ _ _ _ s)

theorem takeSample_keepsWatch (source : Nat) (payload : List Byte) (s : State) :
    s.KeepsWatch (takeSample source payload s) :=
  .ite (.foldl (fun u i => takeItem_keepsWatch source s.clock i u) _ s)

/-- A FRESH slot that becomes STALE stops its stale timer and goes on with its lost timer (R147). -/
theorem staleExpiry_keepsWatch (role : Nat) (s : State) : s.KeepsWatch (staleExpiry role s) := by
  rw [staleExpiry]
  split
  case isTrue h =>
    refine setSlot_keepsWatch fun hs => ?_
    obtain ⟨-, -, hfresh⟩ := hs.slot role
    exact ⟨nofun, fun _ => ⟨rfl, (hfresh h.2).2⟩, nofun⟩
  case isFalse => exact .refl s

end Sys2Proof.Machine
end

section
/-!
SUPPORT. The rows of the blocks and of the trunk keep the fault list law and the slot law (R125, R132, R146, R147).
-/

namespace Sys2Proof.Machine

/-! ## The pacer (R24 to R45) -/

@[simp] theorem miss_watch (s : State) : (miss s).watch = s.watch := by
  rw [miss_eq, afterFireEnd_watch, missCounted]
  split <;> rfl

@[simp] theorem takeFireOutcome_watch (n : Nat) (o : FrameOutcome) (s : State) :
    (takeFireOutcome n o s).watch = s.watch := by
  rw [takeFireOutcome]
  (repeat' split) <;> simp [acknowledgeFire]

@[simp] theorem cancelFire_watch (s : State) : (cancelFire s).watch = s.watch := by
  rw [cancelFire]
  split <;> simp

@[simp] theorem settleWatch_watch (v : Nat) (s : State) : (settleWatch v s).watch = s.watch := by
  rw [settleWatch]; split <;> rfl

@[simp] theorem overlengthCheck_watch (s : State) : (overlengthCheck s).watch = s.watch := by
  rw [overlengthCheck]; split <;> rfl

@[simp] theorem takeSpeed_watch (v tick : Nat) (s : State) : (takeSpeed v tick s).watch = s.watch := by
  rw [takeSpeed]
  split <;> simp

@[simp] theorem pacerFollowsMode_watch (new : LineMode) (s : State) : (pacerFollowsMode new s).watch = s.watch := by
  rw [pacerFollowsMode]
  split
  · rw [evaluateFire_watch]; split <;> rfl
  · split <;> rfl

@[simp] theorem settleModeChange_watch (old new : LineMode) (s : State) :
    (settleModeChange old new s).watch = s.watch := by
  rw [settleModeChange]; (repeat' split) <;> rfl

@[simp] theorem switchTest_watch (s : State) : (switchTest s).watch = s.watch := by
  have switched (old new : Nat) : (switchLots old new s).watch = s.watch :=
    (freeIfRetired_watch old (s.setLot old { s.lotSlot old with life := .retiring }))
  rw [switchTest]
  (repeat' split) <;> simp [switched]

@[simp] theorem handOverCut_watch (f : Fire) (length : Nat) (s : State) : (handOverCut f length s).watch = s.watch := by
  have hung : (hangCane length s).watch = s.watch := by
    rw [hangCane]
    split
    · rw [placeRecord_watch]; rfl
    · rfl
  rw [handOverCut]
  split <;> simp [hung]

@[simp] theorem completeCut_watch (f : Fire) (s : State) : (completeCut f s).watch = s.watch := by
  simp [completeCut]

@[simp] theorem unexpectedCuts_watch (n : Nat) (s : State) : (unexpectedCuts n s).watch = s.watch := by
  simp [unexpectedCuts]

@[simp] theorem takeKnifeCount_watch (n : Nat) (s : State) : (takeKnifeCount n s).watch = s.watch := by
  rw [takeKnifeCount]
  (repeat' split) <;> simp

/-! ## The chain controller (R59 to R72) -/

@[simp] theorem afterStepEnd_watch (s : State) : (afterStepEnd s).watch = s.watch := by simp [afterStepEnd]

@[simp] theorem failStep_watch (d : Nat) (s : State) : (failStep d s).watch = s.watch := by
  rw [failStep, afterStepEnd_watch]; rfl

@[simp] theorem takeStepOutcome_watch (n : Nat) (o : FrameOutcome) (s : State) :
    (takeStepOutcome n o s).watch = s.watch := by
  have recommanded (st : StepInFlight) : (recommandStep st s).watch = s.watch := by
    rw [recommandStep]
    split
    · rw [setStepState_watch, handFrame_watch]; rfl
    · rfl
  have timed (u : State) : (startStepTimer u).watch = u.watch := rfl
  rw [takeStepOutcome]
  (repeat' split) <;> simp [recommanded, timed]

/-- Records that move leave the watch (R61, R62). -/
theorem recordsMoved_watch (s : State) : (recordsMoved s).watch = s.watch := by
  have joined : (stationJoins s).watch = s.watch := by rw [stationJoins]; split <;> rfl
  rw [recordsMoved]
  split
  · refine Eq.trans ?_ joined
    rw [departHead]
    split <;> rfl
  · exact joined

theorem endStep_watch (s : State) : (endStep s).watch = s.watch := by
  rw [endStep]; split <;> rfl

/-- The end of a drain leaves DRAINING, where at most one fault is listed (R131). -/
theorem reportDeparture_keepsWatch (d : Option Cane) (s : State) : s.KeepsWatch (reportDeparture d s) := by
  cases d with
  | none => exact .refl s
  | some c =>
    rw [reportDeparture]
    split
    case isTrue h => exact enterMode_keepsWatch_of_ne_safe _ _ (by rw [h.2.1]; decide)
    case isFalse => exact .refl s

theorem stepDone_keepsWatch (s : State) : s.KeepsWatch (stepDone s) := by
  rw [stepDone_eq]
  refine ((reportDeparture_keepsWatch _ _).trans (climateCheck_keepsWatch _)).from_eq ?_
  rw [afterStepEnd_watch, endStep_watch, recordsMoved_watch]

theorem takeChainCount_keepsWatch (n : Nat) (s : State) : s.KeepsWatch (takeChainCount n s) := by
  rw [takeChainCount]
  split
  · exact .refl s
  split
  · split
    · exact stepDone_keepsWatch s
    · exact (stepDone_keepsWatch s).trans (.of_eq rfl)
  · exact .of_eq rfl

@[simp] theorem indexEvent_watch (s : State) : (indexEvent s).watch = s.watch := by
  rw [indexEvent]; split <;> rfl

@[simp] theorem drainModeChange_watch (old new : LineMode) (s : State) :
    (drainModeChange old new s).watch = s.watch := by
  rw [drainModeChange]; (repeat' split) <;> rfl

/-! ## The discharge unit (R117 to R120) -/

@[simp] theorem orderHead_watch (s : State) : (orderHead s).watch = s.watch := by
  rw [orderHead]
  split
  · split
    · exact handFrame_watch _ _ s
    · rfl
  · rfl

@[simp] theorem takeOrderOutcome_watch (q : Nat) (o : FrameOutcome) (s : State) :
    (takeOrderOutcome q o s).watch = s.watch := by
  rw [takeOrderOutcome]
  split
  · split <;> rfl
  · rfl

@[simp] theorem takeStripperCount_watch (n : Nat) (s : State) : (takeStripperCount n s).watch = s.watch := by
  have completed (e : DischargeEntry) (rest : List DischargeEntry) : (completeHead e rest s).watch = s.watch := by
    rw [completeHead_eq, evaluateChain_watch, releaseRef_watch]
    exact queueReport_watch _ s
  have stray (k : Nat) (u : State) : (strayEvents k u).watch = u.watch := queueReport_watch _ u
  rw [takeStripperCount]
  (repeat' split) <;> simp [completed, stray]

/-! ## Sweeps and zones (R79 to R101) -/

@[simp] theorem takeNumber_watch (w : Sweep) (n : Nat) (s : State) : (takeNumber w n s).watch = s.watch := by
  have reported (p q : Product) (k : Nat) (u : State) : (reportExcursion p q k u).watch = u.watch := by
    rw [reportExcursion]; split <;> simp
  have visited (pos : Nat) (c : Cane) (p : Product) (v : Sweep) : (visitProduct v pos c p s).watch = s.watch := by
    rw [visitProduct]
    split
    · exact reported _ _ _ _
    · rfl
  simp only [takeNumber]
  (repeat' split) <;> simp [visited]

theorem closeSweep_keepsWatch (w : Sweep) (s : State) : s.KeepsWatch (closeSweep w s) := by
  have derived : (deriveClimate s).watch = s.watch :=
    forEach_keeps State.watch _ (fun k t => by simp [deriveZone, State.setSetpoints]) _ s
  rw [closeSweep]
  exact (climateCheck_keepsWatch _).from_eq derived

theorem startSweep_keepsWatch (s : State) : s.KeepsWatch (startSweep s) := .of_eq rfl

theorem finishSweep_keepsWatch (w : Sweep) (s : State) : s.KeepsWatch (finishSweep w s) := by
  have empty (u : State) : u.KeepsWatch (startAndCloseEmpty u) := by
    simp only [startAndCloseEmpty]
    split
    · split
      · exact (startSweep_keepsWatch u).trans (closeSweep_keepsWatch _ _)
      · exact startSweep_keepsWatch u
    · exact startSweep_keepsWatch u
  simp only [finishSweep]
  split
  · exact (closeSweep_keepsWatch w s).trans ((empty _).from_eq rfl)
  · exact closeSweep_keepsWatch w s

theorem onSweepExpiry_keepsWatch (s : State) : s.KeepsWatch (onSweepExpiry s) := by
  simp only [onSweepExpiry]
  split
  · exact .of_eq rfl
  split
  · split
    · exact (startSweep_keepsWatch s).trans (finishSweep_keepsWatch _ _)
    · exact startSweep_keepsWatch s
  · exact startSweep_keepsWatch s

@[simp] theorem configureZones_watch (n : Nat) (s : State) : (configureZones n s).watch = s.watch := by
  rw [configureZones, stopAirTimersFrom, forEach_keeps State.watch, forEach_keeps State.watch]
  · intro k t
    simp only [configureZone]
    split <;> simp [State.setSetpoints]
  · intro k t
    split <;> rfl

@[simp] theorem restartLossTimers_watch (n : Nat) (s : State) : (restartLossTimers n s).watch = s.watch := by
  rw [restartLossTimers]
  split
  · exact forEach_keeps State.watch _ (fun k t => t.setLoss_watch k _ _) _ s
  · exact forEach_keeps State.watch _ (fun k t => by split <;> rfl) _ s

/-! ## The trunk (R155 to R165) -/

theorem cutOffReception_watch (cs : List RxChar) (s : State) : (cutOffReception cs s).watch = s.watch := by
  rw [cutOffReception]; (repeat' split) <;> rfl

theorem endReception_keepsWatch (cs : List RxChar) (e : ReceptionEnding) (s : State) :
    s.KeepsWatch (endReception cs e s) := by
  simp only [endReception, takeFrame]
  split
  · exact .refl s
  split
  · exact .of_eq rfl
  split
  · exact (takeSample_keepsWatch _ _ (setTrunk .busy .closed s)).from_eq rfl
  · exact .of_eq rfl

theorem endFrame_watch (o : FrameOutcome) (s : State) : (endFrame o s).watch = s.watch := by
  rw [endFrame]; split <;> rfl

/-- An outcome row leaves the watch when its action does. -/
theorem takeOutcome_watch {act : State → State} (e : Instr) (h : ∀ u : State, (act u).watch = u.watch) (s : State) :
    (takeOutcome e act s).watch = s.watch := by
  rcases takeOutcome_cases e act s with ⟨-, ht⟩ | ⟨-, ht⟩ <;> rw [ht]
  exact h (s.took e)

end Sys2Proof.Machine
end

section
/-!
SUPPORT. The directives keep the fault list law and the slot law, and with them every row, and the obligation.
-/

namespace Sys2Proof.Machine

/-! ## Directives (R168, R169) -/

/-- A directive row keeps the laws when its execution does: the queue and the response are not in the watch. -/
theorem runDirective_keepsWatch {d : Directive} {gap : Bool} {act : List Byte → State → Answer}
    (h : Effects State.KeepsWatch act) (s : State) : s.KeepsWatch (runDirective d gap act s) := by
  rcases runDirective_cases d gap act s with ⟨-, hr⟩ | ⟨-, hr⟩ <;> rw [hr]
  · have taken : s.KeepsWatch (act d.args (popDirective s)).state := (h d.args (popDirective s)).from_eq rfl
    exact taken.trans (.of_eq (handFrame_watch _ _ _))
  · exact .refl s

theorem readTable_keepsWatch : Effects State.KeepsWatch readTableAnswer := by
  intro args u
  simp only [readTableAnswer, readKnownTable, readLot]
  (repeat' split) <;> exact .refl u

theorem readCane_keepsWatch : Effects State.KeepsWatch readCaneAnswer := by
  intro args u
  simp only [readCaneAnswer, readBySequence, readByPosition]
  (repeat' split) <;> exact .refl u

theorem readStatus_keepsWatch : Effects State.KeepsWatch readStatusAnswer := by
  intro args u
  rw [readStatusAnswer]
  split <;> exact .refl u

theorem markCanes_keepsWatch : Effects State.KeepsWatch markCanesAnswer := by
  intro args u
  simp only [markCanesAnswer]
  split <;> exact .of_eq rfl

theorem clearLine_watch (s : State) : (clearLine s).watch = s.watch := by
  rw [clearLine, evaluateFire_watch, evaluateChain_watch]
  exact forEach_keeps State.watch freeIfRetired freeIfRetired_watch 16 (clearRefs (emptyPlaces s))

theorem clearLine_keepsWatch : Effects State.KeepsWatch clearLineAnswer := by
  intro args u
  rw [clearLineAnswer]
  split
  · exact .refl u
  split
  · exact .refl u
  · rw [doneWith_state]
    exact .of_eq (clearLine_watch u)

/-! ### The lot directives -/

theorem openLot_keepsWatch (h : Option LotHeader) (i : Nat) (u : State) : u.KeepsWatch (openLot h i u).state := by
  unfold openLot
  (repeat' split) <;> exact .of_eq rfl

theorem appendStage_keepsWatch (g : Stage) (i : Nat) (u : State) : u.KeepsWatch (appendStage g i u).state := by
  rw [appendStage]
  (repeat' split) <;> exact .of_eq rfl

theorem sealLot_keepsWatch (i : Nat) (u : State) : u.KeepsWatch (sealLot i u).state := by
  rw [sealLot]
  (repeat' split) <;> exact .of_eq rfl

theorem discardLot_keepsWatch (i : Nat) (u : State) : u.KeepsWatch (discardLot i u).state := by
  rw [discardLot]
  split <;> exact .of_eq rfl

theorem armLot_keepsWatch (b : Nat) (u : State) : u.KeepsWatch (armLot b u).state := by
  rw [armLot]
  (repeat' split) <;> exact .of_eq rfl

/-! ### The modes and the faults (R126, R133) -/

/-- A MODE directive that SAFE does not accept acts outside SAFE only (R126). -/
theorem modeFrom_keepsWatch_outside_safe {taken : LineMode → Bool} {act : State → Answer} (ht : taken .safe = false)
    (h : ∀ u : State, u.sequencer.mode ≠ .safe → u.KeepsWatch (act u).state) :
    Effects State.KeepsWatch (modeFrom taken act) := by
  intro args u
  rw [modeFrom]
  split
  · exact .refl u
  split
  case isTrue hu => exact h u fun hm => Bool.false_ne_true (ht.symm.trans (hm ▸ hu))
  case isFalse => exact .refl u

theorem enterByDirective_keepsWatch {m : LineMode} {u : State}
    (h : FaultListLaw u → u.sequencer.faults.length ≤ 1 ∨ m = .safe) : u.KeepsWatch (enterByDirective m u).state :=
  enterMode_keepsWatch _ h

/-- PRIMING is entered with the fault list empty (R126). -/
theorem enterPriming_keepsWatch (u : State) : u.KeepsWatch (enterPriming u).state := by
  rw [enterPriming]
  split
  · exact .refl u
  case isFalse hf =>
    split
    · exact .refl u
    · exact enterByDirective_keepsWatch fun _ => .inl (by rw [not_not.1 hf]; exact Nat.zero_le 1)

theorem enterRunning_keepsWatch (u : State) (h : u.sequencer.mode ≠ .safe) : u.KeepsWatch (enterRunning u).state := by
  rw [enterRunning]
  split
  · exact .refl u
  split
  · exact .refl u
  · exact enterByDirective_keepsWatch fun hu => .inl (hu.length_le_one h)

/-- DRAIN passes through DRAINING to STOPPED, neither of them from SAFE (R131). -/
theorem enterDraining_keepsWatch (u : State) (h : u.sequencer.mode ≠ .safe) :
    u.KeepsWatch (enterDraining u).state := by
  have draining : u.KeepsWatch (enterMode .draining .directive u) := enterMode_keepsWatch_of_ne_safe _ _ h
  simp only [enterDraining, doneWith_state]
  split
  · exact draining
  · refine draining.trans (enterMode_keepsWatch_of_ne_safe _ _ ?_)
    have hmode := congrArg Sequencer.mode (enterModeCore_sequencer .draining .directive none u)
    exact hmode ▸ nofun

/-- STOP is taken in SAFE with at most one fault listed (R126). -/
theorem enterStopped_keepsWatch (u : State) : u.KeepsWatch (enterStopped u).state := by
  rw [enterStopped]
  split
  · split
    case isTrue hl => exact enterByDirective_keepsWatch fun _ => .inl hl
    case isFalse => exact .refl u
  case isFalse hm =>
    split
    · exact .refl u
    · exact enterByDirective_keepsWatch fun hu => .inl (hu.length_le_one hm)

theorem enterSafe_keepsWatch (u : State) : u.KeepsWatch (enterSafe u).state := by
  rw [enterSafe]
  split
  · exact .refl u
  · exact enterByDirective_keepsWatch fun _ => .inr rfl

/-- SAFE is left with the fault list empty (R126). -/
theorem leaveSafe_keepsWatch (u : State) : u.KeepsWatch (leaveSafe u).state := by
  rw [leaveSafe]
  split
  · exact .refl u
  case isFalse hf => exact enterByDirective_keepsWatch fun _ => .inl (by rw [not_not.1 hf]; exact Nat.zero_le 1)

/-- An acknowledged fault leaves the list, and the others stay as they are (R133). -/
theorem ackFault_keepsWatch (b : Nat) (u : State) : u.KeepsWatch (ackFaultCode b u).state := by
  rw [ackFaultCode]
  split
  · exact .refl u
  split
  · exact .refl u
  case h_2 e _ =>
    have sub : (removeFault e.code u.sequencer.faults).Sublist u.sequencer.faults := List.filter_sublist
    refine .of_faults (fun ⟨hcodes, hcounts, hsafe⟩ => ⟨?_, fun x hx => ?_, fun hlen => ?_⟩) rfl
    · exact hcodes.sublist (sub.map _)
    · exact hcounts x (sub.subset hx)
    · exact hsafe (Nat.le_trans hlen sub.length_le)

/-! ### The table writes -/

theorem writeListen_keepsWatch : WriteEffects State.KeepsWatch writeListen := by
  intro first es u
  rw [writeListen]
  split
  · exact .refl u
  split
  · exact (State.KeepsWatch.foldl (fun v k => makeLost_keepsWatch _ v) _ _).from_eq rfl
  · exact .refl u

theorem writeTalk_keepsWatch : WriteEffects State.KeepsWatch writeTalk := by
  intro first es u
  rw [writeTalk]
  split
  · exact .refl u
  · refine .of_eq ?_
    simp only [doneWith_state, storeTalk, apply_ite State.watch, evaluateChain_watch, evaluateFire_watch, ite_self]
    rfl

theorem writeZone_keepsWatch : WriteEffects State.KeepsWatch writeZone := by
  intro first es u
  unfold writeZone
  cases parseAll parseZone es <;> exact .of_eq rfl

theorem writeZoneCount_keepsWatch (n : Nat) (u : State) : u.KeepsWatch (writeZoneCount n u).state := by
  rw [writeZoneCount]
  split
  · exact .refl u
  split
  · exact .refl u
  split
  · exact .refl u
  split
  · refine .of_eq ((evaluateChain_watch _).trans ?_)
    rw [restartLossTimers_watch, configureZones_watch]
    rfl
  · exact .refl u

theorem writeMeq_keepsWatch : WriteEffects State.KeepsWatch writeMeq := by
  intro first es u
  unfold writeMeq
  cases parseAll parseMeq es <;> exact .of_eq rfl

theorem writeModel_keepsWatch (entry : List Byte) (u : State) : u.KeepsWatch (writeModel entry u).state := by
  unfold writeModel
  cases parseModel entry <;> exact .of_eq rfl

theorem writePacer_keepsWatch (entry : List Byte) (u : State) : u.KeepsWatch (writePacer entry u).state := by
  unfold writePacer
  cases parsePacer entry <;> exact .of_eq rfl

theorem writeLine_keepsWatch (entry : List Byte) (u : State) : u.KeepsWatch (writeLine entry u).state := by
  unfold writeLine
  cases parseLine u.port.node entry <;> exact .of_eq rfl

/-! ## Every row -/

/-- At power-on no fault is listed, and every slot is LOST with nothing running (R125, R146). -/
theorem powerOn_keepsWatch (straps : BitVec 6) (s : State) : s.KeepsWatch (State.powerOn straps) :=
  ⟨fun _ => ⟨List.nodup_nil, nofun, fun h => absurd h (by decide : ¬ 2 ≤ 0)⟩,
    fun _ => ⟨rfl, fun x hx => by rw [List.eq_of_mem_replicate hx]; exact timed_initial⟩⟩

theorem setOwed_watch (owed : Bool) (s : State) :
    (s.setSequencer { s.sequencer with pressOwed := owed }).watch = s.watch := rfl

/-- Every row keeps the fault list law and the slot law. -/
theorem exec_keepsWatch {c : Instr} {s t : State} (ht : exec c s = .next t) : s.KeepsWatch t := by
  -- a row by the state that it answers
  have row {u : State} (hu : (.next u : Host.Outcome State Fault Refusal) = .next t) (h : s.KeepsWatch u) :
      s.KeepsWatch t := of_next (P := s.KeepsWatch) hu h
  -- a row that leaves the watch
  have same {u : State} (hu : (.next u : Host.Outcome State Fault Refusal) = .next t) (h : u.watch = s.watch) :
      s.KeepsWatch t := row hu (.of_eq h)
  -- a row that first takes what was handed on
  have took {u : State} (e : Instr) (hu : (.next u : Host.Outcome State Fault Refusal) = .next t)
      (h : (s.took e).KeepsWatch u) : s.KeepsWatch t := row hu (h.from_eq rfl)
  -- a directive row
  have dir {d : Directive} {gap : Bool} {act : List Byte → State → Answer}
      (hu : (.next (runDirective d gap act s) : Host.Outcome State Fault Refusal) = .next t)
      (h : Effects State.KeepsWatch act) : s.KeepsWatch t := row hu (runDirective_keepsWatch h s)
  cases c with
  | powerOnReset straps => exact row ht ((powerOn_keepsWatch straps s).trans (.of_eq rfl))
  | trunkReset =>
    refine same ht ?_
    split
    · rfl
    · exact (foldl_keeps State.watch State.hand State.hand_watch _ _).trans (s.setPort_watch _)
  | signalUnitTrunkReset => exact took _ ht (.foldl (fun u k => makeLost_keepsWatch k u) _ _)
  | pacerTrunkReset => exact same ht (cancelFire_watch _)
  | chainTrunkReset => exact same ht (by (repeat' split) <;> rfl)
  | dischargeTrunkReset => exact same ht rfl
  | lineSequencerTrunkReset =>
    -- HOLDING is entered from a mode that steps, which SAFE is not (R138)
    refine took .lineSequencerTrunkReset ht (State.KeepsWatch.trans ?_ (.of_eq (setOwed_watch true _)))
    split
    case isTrue hm => exact enterMode_keepsWatch_of_ne_safe _ _ fun h => by rw [h] at hm; cases hm
    case isFalse => exact .refl _
  | agentTrunkReset => exact same ht rfl
  | idleGap received =>
    refine same ht ?_
    split
    · rfl
    · exact cutOffReception_watch received s
  | receptionEnd received ending => exact row ht (endReception_keepsWatch received ending s)
  | directiveAcknowledge received => exact same ht (by (repeat' split) <;> rfl)
  | frameDraw => exact same ht (by split <;> rfl)
  | claimLost => exact same ht (by (repeat' split) <;> rfl)
  | transmissionBroken => exact same ht (endFrame_watch _ s)
  | acknowledgeSlotOutcome dominant => exact same ht (endFrame_watch _ s)
  | knifeFireOutcome f o => exact same ht (takeOutcome_watch _ (takeFireOutcome_watch _ o) s)
  | chainStepOutcome f o => exact same ht (takeOutcome_watch _ (takeStepOutcome_watch _ o) s)
  | pressCmdOutcome f run o =>
    exact same ht (takeOutcome_watch _ (fun u => by rw [takePressOutcome]; split <;> rfl) s)
  | zoneCommandOutcome f o => exact same ht (takeOutcome_watch _ (fun _ => rfl) s)
  | stripOrderOutcome f q o => exact same ht (takeOutcome_watch _ (takeOrderOutcome_watch q o) s)
  | managementFrameOutcome f o => exact same ht (takeOutcome_watch _ (fun _ => rfl) s)
  | speedArrival v tick => exact same ht (takeSpeed_watch v tick _)
  | spreaderStateArrival v =>
    refine same ht ?_
    split
    · exact evaluateFire_watch _
    · rfl
  | knifeCountEvents n => exact same ht (takeKnifeCount_watch n _)
  | knifeTimerExpiry => exact same ht (by split <;> simp)
  | settleTimerExpiry => exact same ht (by split <;> rfl)
  | pacerModeChange old new =>
    exact same ht ((pacerFollowsMode_watch new _).trans (settleModeChange_watch old new _))
  | chainModeChange old new =>
    refine same ht (Eq.trans ?_ (drainModeChange_watch old new (s.took (.chainModeChange old new))))
    split
    · exact evaluateChain_watch _
    · rfl
  | chainCountEvents n => exact took _ ht (takeChainCount_keepsWatch n _)
  | chainIndexEvents n => exact same ht (forEach_keeps State.watch _ (fun _ => indexEvent_watch) n _)
  | stepTimerExpiry => exact same ht (by split <;> simp)
  | drainTimerExpiry =>
    refine same ht ?_
    split
    · rw [evaluateChain_watch, tryInsertion_watch]; rfl
    · rfl
  | stripperStateArrival v =>
    refine same ht ?_
    split
    · exact orderHead_watch _
    · rfl
  | stripperCountEvents n => exact same ht (takeStripperCount_watch n _)
  | stallTimerExpiry => exact same ht (by split <;> rfl)
  | pressStateArrival v =>
    have owed (u : State) : u.KeepsWatch (sendOwedCommand u) := .ite (.of_eq (queuePressCommand_watch u))
    refine took (.pressStateArrival v) ht (State.KeepsWatch.trans ?_ (owed _))
    exact .ite (raiseFault_keepsWatch _ _ _)
  | zoneRhArrival k =>
    refine same ht ?_
    split
    · exact refreshDemand_watch k _
    · rfl
  | staleTimerExpiry role => exact row ht (staleExpiry_keepsWatch role s)
  | lostTimerExpiry role => exact row ht (.ite (makeLost_keepsWatch role s))
  | climateLossTimerExpiry k =>
    exact row ht (.ite ((climateCheck_keepsWatch _).from_eq (s.setLoss_watch k _ _)))
  | airTimerExpiry k => exact same ht (by split <;> simp [alternateAir])
  | sweepTimerExpiry => exact row ht (.ite ((onSweepExpiry_keepsWatch _).from_eq rfl))
  | caneVisit => exact same ht (by (repeat' split) <;> simp)
  | sweepEnd =>
    refine row ht ?_
    split
    · exact .refl s
    · exact .ite (finishSweep_keepsWatch _ s)
  | faultRaise code d => exact took _ ht (raiseFault_keepsWatch code d _)
  | readTable r => exact dir ht readTable_keepsWatch
  | writeTableListen r =>
    exact dir ht (effects_withEntries .refl
      (writeEffects_withModes .refl (writeEffects_withRange .refl writeListen_keepsWatch)))
  | writeTableTalk r =>
    exact dir ht (effects_withEntries .refl
      (writeEffects_withModes .refl (writeEffects_withRange .refl writeTalk_keepsWatch)))
  | writeTableZone r =>
    exact dir ht (effects_withEntries .refl
      (writeEffects_withZoneCountZero .refl (writeEffects_withRange .refl writeZone_keepsWatch)))
  | writeTableZoneCount r =>
    exact dir ht (effects_withEntries .refl (writeEffects_withRange .refl fun _ _ => writeZoneCount_keepsWatch _))
  | writeTableMeq r => exact dir ht (effects_withEntries .refl (writeEffects_withRange .refl writeMeq_keepsWatch))
  | writeTableKd r =>
    exact dir ht (effects_withEntries .refl (writeEffects_withRange .refl fun _ _ _ => .of_eq rfl))
  | writeTableModel r =>
    exact dir ht (effects_withEntries .refl (writeEffects_withRange .refl fun _ _ => writeModel_keepsWatch _))
  | writeTableGap r =>
    exact dir ht (effects_withEntries .refl (writeEffects_withRange .refl fun _ _ _ => .of_eq rfl))
  | writeTablePacer r =>
    exact dir ht (effects_withEntries .refl (writeEffects_withRange .refl fun _ _ => writePacer_keepsWatch _))
  | writeTableLine r =>
    exact dir ht (effects_withEntries .refl (writeEffects_withRange .refl fun _ _ => writeLine_keepsWatch _))
  | writeTableUnwritable r =>
    refine row ht ?_
    split
    · exact .refl s
    · exact runDirective_keepsWatch (fun args u => by rw [refuseTable]; split <;> exact .refl u) s
  | readCane r => exact dir ht (effects_withLength .refl readCane_keepsWatch)
  | markCanes r => exact dir ht (effects_withLength .refl markCanes_keepsWatch)
  | clearLine r => exact dir ht (effects_withLength .refl clearLine_keepsWatch)
  | lotOpen r => exact dir ht (effects_withLength .refl (effects_withSlot .refl fun _ => openLot_keepsWatch _))
  | lotStage r => exact dir ht (effects_withLength .refl (effects_withSlot .refl fun _ => appendStage_keepsWatch _))
  | lotSeal r => exact dir ht (effects_withLength .refl (effects_withSlot .refl fun _ => sealLot_keepsWatch))
  | lotDiscard r => exact dir ht (effects_withLength .refl (effects_withSlot .refl fun _ => discardLot_keepsWatch))
  | lotArm r => exact dir ht (effects_withLength .refl fun _ => armLot_keepsWatch _)
  | modePrime r => exact dir ht (effects_modeFrom .refl enterPriming_keepsWatch)
  | modeRun r => exact dir ht (modeFrom_keepsWatch_outside_safe rfl enterRunning_keepsWatch)
  | modeHold r =>
    exact dir ht (modeFrom_keepsWatch_outside_safe rfl fun u hm =>
      enterByDirective_keepsWatch fun hu => .inl (hu.length_le_one hm))
  | modeResume r => exact dir ht (effects_modeFrom .refl enterPriming_keepsWatch)
  | modeDrain r => exact dir ht (modeFrom_keepsWatch_outside_safe rfl enterDraining_keepsWatch)
  | modeStop r => exact dir ht (effects_modeFrom .refl enterStopped_keepsWatch)
  | modeSafe r => exact dir ht (effects_modeFrom .refl enterSafe_keepsWatch)
  | modeLeaveSafe r => exact dir ht (effects_modeFrom .refl leaveSafe_keepsWatch)
  | ackFault r => exact dir ht (effects_withLength .refl fun _ => ackFault_keepsWatch _)
  | readStatus r => exact dir ht (effects_withLength .refl readStatus_keepsWatch)
  | readTotals r => exact dir ht (effects_withLength .refl fun _ => .refl)
  | clearTotals r => exact dir ht (effects_withLength .refl fun _ _ => .of_eq rfl)
  | unknownDirective sender payload =>
    refine row ht ?_
    split
    · exact .refl s
    · exact runDirective_keepsWatch (fun _ => .refl) s
  | lineClockTick => exact same ht rfl
  | startMark received =>
    refine same ht ?_
    split
    · rfl
    · exact cutOffReception_watch received s
  | dominantRun bits => exact same ht (by split <;> rfl)
  | trunkResetReleased => exact same ht (by split <;> rfl)
  | modeUnknownArgument r =>
    refine row ht ?_
    split
    · exact .refl s
    · exact runDirective_keepsWatch (fun args u => by rw [refuseMode]; split <;> exact .refl u) s

/-- Settles O51: an idle step leaves the watch, and every row keeps both laws. -/
theorem faultListAndSlotLawsAreKept : Obligations.FaultListAndSlotLawsAreKept := by
  have kept {s t : State} (ht : step s = .next t) : s.KeepsWatch t := by
    unfold step at ht
    split at ht
    case h_1 => exact of_next (P := s.KeepsWatch) ht (.refl s)
    case h_2 c rest _ => exact (exec_keepsWatch ht).from_eq rfl
  exact ⟨fun s t hs ht => (kept ht).faults hs, fun s t hs ht => (kept ht).slots hs⟩

end Sys2Proof.Machine
end

section
/-!
SUPPORT. The press command, the entry to a mode and the fault raised, each as what it leaves in the words of the
statements (R128, R129, R132), and the obligations about the press command and the fault list.
-/

namespace Sys2Proof.Machine

/-! ## The press command (R128, R129) -/

section PressCommand

variable {s : State} {dest : Nat}

/-- Without a PRESS entry or room in the urgent queue the command is owed, and nothing else changes. -/
theorem queuePressCommand_of_unqueued (h : s.talkNode 2 = none ∨ 4 ≤ s.port.fill .urgent) :
    queuePressCommand s = { s with sequencer := { s.sequencer with pressOwed := true } } := by
  rcases queuePressCommand_cases s with ⟨dest, hd, hroom, -⟩ | ⟨-, e⟩
  · have hd' : s.talkNode 2 = some dest := hd
    rcases h with h | h
    · rw [hd'] at h; cases h
    · exact absurd ((hasRoom_urgent_iff _).1 hroom) (Nat.not_lt.2 h)
  · exact e

/-- With both it is handed to the urgent queue and no longer owed. -/
theorem queuePressCommand_of_queued (hd : s.talkNode 2 = some dest) (hf : s.port.fill .urgent < 4)
    (hs : s.port.silent = false) :
    queuePressCommand s = withUrgent { s with sequencer := { s.sequencer with pressOwed := false } } dest
      (.pressCmd (LineMode.pressRuns s.sequencer.mode)) := by
  rcases queuePressCommand_cases s with ⟨d, hd', -, e⟩ | ⟨hn, -⟩
  · obtain rfl : dest = d := Option.some.inj (hd.symm.trans hd')
    rw [e, handFrame_handedUrgent _ rfl, handedUrgent, if_pos ⟨hs, hf⟩]
    rfl
  · rcases hn with hn | hn
    · exact absurd (hd.symm.trans hn) nofun
    · rw [(hasRoom_urgent_iff s.port).2 hf] at hn; cases hn

/-- The command of the present mode runs the press in PRIMING and RUNNING. -/
theorem pressRuns_eq (m : LineMode) : LineMode.pressRuns m = decide (m = .priming ∨ m = .running) :=
  (Bool.decide_or _ _).symm

/-- An ordinary node reports no frame at once: the command adds nothing to the ledger. -/
theorem queuePressCommand_handed (hs : s.port.silent = false) : (queuePressCommand s).handed = s.handed := by
  by_cases hq : s.talkNode 2 = none ∨ 4 ≤ s.port.fill .urgent
  · rw [queuePressCommand_of_unqueued hq]
  · obtain ⟨hd, hf⟩ := not_or.1 hq
    obtain ⟨dest, hd⟩ := Option.ne_none_iff_exists'.1 hd
    rw [queuePressCommand_of_queued hd (Nat.not_le.1 hf) hs]
    rfl

end PressCommand

/-! ## The entry to a mode (R128) -/

section Entry

variable {m : LineMode} {r : ModeReason} {code : Option FaultCode} {s : State}

/-- The press command's part of an entry. -/
def modePressed (m : LineMode) (s : State) : State :=
  if entersWithPressCommand m then queuePressCommand (setMode m s) else setMode m s

/-- An entry is the mode with its press command, the report, and the two commands handed on. -/
theorem enterModeCore_eq (m : LineMode) (r : ModeReason) (code : Option FaultCode) (s : State) :
    enterModeCore m r code s =
      let u := queueReport (.modeChange s.sequencer.mode m r code) (modePressed m s)
      { u with handed := u.handed ++
        [.pacerModeChange s.sequencer.mode m, .chainModeChange s.sequencer.mode m] } := by
  change ((queueReport _ (modePressed m s)).hand _).hand _ = _
  simp only [State.hand, List.append_assoc]
  rfl

theorem modePressed_management (m : LineMode) (s : State) :
    (modePressed m s).port.management = s.port.management ∧
    (modePressed m s).port.fill .management = s.port.fill .management ∧
    (modePressed m s).port.silent = s.port.silent := by
  rw [modePressed]
  split
  · exact queuePressCommand_management (setMode m s)
  · exact ⟨rfl, rfl, rfl⟩

theorem modePressed_agent (m : LineMode) (s : State) : (modePressed m s).agent = s.agent := by
  rw [modePressed]
  split
  · exact queuePressCommand_agent (setMode m s)
  · rfl

theorem modePressed_lineTime (m : LineMode) (s : State) : (modePressed m s).lineTime = s.lineTime := by
  rw [modePressed]
  split
  · exact queuePressCommand_lineTime (setMode m s)
  · rfl

/-- The urgent queue and the command owed are those of the press command. -/
theorem enterModeCore_pressed (m : LineMode) (r : ModeReason) (code : Option FaultCode) (s : State) :
    (enterModeCore m r code s).port.urgent = (modePressed m s).port.urgent ∧
    (enterModeCore m r code s).sequencer.pressOwed = (modePressed m s).sequencer.pressOwed := by
  rw [enterModeCore_eq]
  exact ⟨(queueReport_urgent _ _).1, congrArg Sequencer.pressOwed (queueReport_sequencer _ _)⟩

/-- Without a PRESS entry or room the command of the mode entered is owed. -/
theorem enterModeCore_unqueued (hm : entersWithPressCommand m = true)
    (h : s.talkNode 2 = none ∨ 4 ≤ s.port.fill .urgent) :
    (enterModeCore m r code s).sequencer.pressOwed = true ∧
    (enterModeCore m r code s).port.urgent = s.port.urgent := by
  obtain ⟨hurgent, howed⟩ := enterModeCore_pressed m r code s
  rw [hurgent, howed, modePressed, if_pos hm, queuePressCommand_of_unqueued (s := setMode m s) h]
  exact ⟨rfl, rfl⟩

/-- With both it stands at the tail of the urgent queue. -/
theorem enterModeCore_queued {dest : Nat} (hm : entersWithPressCommand m = true) (hd : s.talkNode 2 = some dest)
    (hf : s.port.fill .urgent < 4) (hs : s.port.silent = false) :
    (enterModeCore m r code s).sequencer.pressOwed = false ∧
    (enterModeCore m r code s).port.urgent = s.port.urgent ++
      [{ number := inc32 s.port.frameCount, dest := dest, body := .pressCmd (LineMode.pressRuns m) }] := by
  obtain ⟨hurgent, howed⟩ := enterModeCore_pressed m r code s
  rw [hurgent, howed, modePressed, if_pos hm, queuePressCommand_of_queued (s := setMode m s) hd hf hs]
  exact ⟨rfl, rfl⟩

/-- RUNNING and STOPPED queue no press command. -/
theorem enterModeCore_uncommanded (hm : entersWithPressCommand m = false) :
    (enterModeCore m r code s).sequencer.pressOwed = s.sequencer.pressOwed ∧
    (enterModeCore m r code s).port.urgent = s.port.urgent := by
  obtain ⟨hurgent, howed⟩ := enterModeCore_pressed m r code s
  rw [hurgent, howed, modePressed, hm]
  exact ⟨rfl, rfl⟩

/-- In an ordinary node nothing but the two commands is handed on. -/
theorem enterModeCore_handed_eq (hs : s.port.silent = false) :
    (enterModeCore m r code s).handed =
      s.handed ++ [.pacerModeChange s.sequencer.mode m, .chainModeChange s.sequencer.mode m] := by
  have hpressed : (modePressed m s).handed = s.handed := by
    rw [modePressed]
    split
    · exact queuePressCommand_handed (s := setMode m s) hs
    · rfl
  have hsilent : (modePressed m s).port.silent = false := (modePressed_management m s).2.2.trans hs
  rw [enterModeCore_eq]
  simp only [queueReport_handed _ hsilent, hpressed]

/-- The management queue and the node are those after the report of the change. -/
theorem enterModeCore_reported (m : LineMode) (r : ModeReason) (code : Option FaultCode) (s : State) :
    (enterModeCore m r code s).port =
      (queueReport (.modeChange s.sequencer.mode m r code) (modePressed m s)).port := by
  rw [enterModeCore_eq]

/-- MODE_CHANGE stands at the tail of the management queue while it finds room (R128, R171). -/
theorem enterModeCore_management (hs : s.port.silent = false) (hf : s.port.fill .management < 5) :
    (enterModeCore m r code s).port.management.map Frame.body = s.port.management.map Frame.body ++
      [.report s.agent.missed s.lineTime (.modeChange s.sequencer.mode m r code)] := by
  obtain ⟨hman, hfill, hsilent⟩ := modePressed_management m s
  rw [enterModeCore_reported, queueReport_of_room _ (hsilent.trans hs) (hfill ▸ hf), modePressed_agent,
    modePressed_lineTime]
  simp [Port.withReport, hman]

/-- An entry leaves an ordinary node ordinary, with a fill of at most 5 or where it was. -/
theorem enterModeCore_fill_le (hs : s.port.silent = false) :
    (enterModeCore m r code s).port.silent = false ∧
    (enterModeCore m r code s).port.fill .management ≤ max (s.port.fill .management) 5 := by
  obtain ⟨-, hfill, hsilent⟩ := modePressed_management m s
  rw [enterModeCore_reported, ← hfill]
  exact ⟨(queueReport_urgent _ _).2.2.trans (hsilent.trans hs), queueReport_fill_le _ (hsilent.trans hs)⟩

end Entry

/-! ## A new code (R132) -/

section NewCode

variable {s : State} {code : FaultCode} {d : Nat}

/-- The mode that a new code leaves. -/
def State.faultMode (s : State) : LineMode := modeAfterFault s.sequencer.mode s.sequencer.faults.isEmpty

/-- In the words of the statements. -/
theorem faultMode_eq (s : State) : s.faultMode =
    if s.sequencer.faults ≠ [] then .safe
    else if s.sequencer.mode = .priming ∨ s.sequencer.mode = .running ∨ s.sequencer.mode = .draining
      then .holding else s.sequencer.mode := by
  have hsteps : LineMode.allowsSteps s.sequencer.mode = true ↔
      s.sequencer.mode = .priming ∨ s.sequencer.mode = .running ∨ s.sequencer.mode = .draining := by
    simp [LineMode.allowsSteps, or_assoc]
  rw [State.faultMode, modeAfterFault]
  cases s.sequencer.faults with
  | nil => simp [hsteps]
  | cons => rfl

/-- A change of the mode by a fault is to HOLDING or SAFE, whose press command holds. -/
theorem faultMode_commands (h : s.faultMode ≠ s.sequencer.mode) :
    entersWithPressCommand s.faultMode = true ∧ LineMode.pressRuns s.faultMode = false := by
  rw [State.faultMode, modeAfterFault] at h ⊢
  split at h
  case isTrue he =>
    rw [if_pos he]
    split at h
    case isTrue hsteps => rw [if_pos hsteps]; exact ⟨rfl, rfl⟩
    case isFalse => exact absurd rfl h
  case isFalse he => rw [if_neg he]; exact ⟨rfl, rfl⟩

/-- The state with the new entry listed and reported. -/
def faultListed (code : FaultCode) (d : Nat) (s : State) : State :=
  queueReport (.faultRaised code d s.sequencer.mode s.faultMode)
    { s with sequencer := { s.sequencer with faults := s.sequencer.faults ++ [newFault s code d] } }

/-- A new code is listed, and then the mode is entered if it is another. -/
theorem raiseFault_of_new (h : s.sequencer.lists code = false) :
    raiseFault code d s =
      if s.faultMode = s.sequencer.mode then faultListed code d s
      else enterModeCore s.faultMode .fault (some code) (faultListed code d s) := by
  rcases raiseFault_cases code d s with ⟨hl, -⟩ | ⟨-, e⟩
  · rw [h] at hl; cases hl
  · exact e

/-- The listing adds the entry to the sequencer and nothing else. -/
theorem faultListed_sequencer (code : FaultCode) (d : Nat) (s : State) : (faultListed code d s).sequencer =
    { s.sequencer with faults := s.sequencer.faults ++ [newFault s code d] } := queueReport_sequencer _ _

theorem faultListed_signals (code : FaultCode) (d : Nat) (s : State) :
    (faultListed code d s).signals = s.signals := queueReport_signals _ _

theorem faultListed_urgent (code : FaultCode) (d : Nat) (s : State) :
    (faultListed code d s).port.urgent = s.port.urgent ∧
    (faultListed code d s).port.fill .urgent = s.port.fill .urgent ∧
    (faultListed code d s).port.silent = s.port.silent := queueReport_urgent _ _

/-- FAULT_RAISED finds room below a fill of 4, and so does the report behind it; none was missed before that one. -/
theorem faultListed_management (hs : s.port.silent = false) (hf : s.port.fill .management < 4) :
    (faultListed code d s).port.management.map Frame.body = s.port.management.map Frame.body ++
      [.report s.agent.missed s.lineTime (.faultRaised code d s.sequencer.mode s.faultMode)] ∧
    (faultListed code d s).port.fill .management < 5 ∧ (faultListed code d s).agent.missed = 0 := by
  have hport : (faultListed code d s).port = s.port.withReport s.agent.supervisor s.agent.missed s.lineTime
      (.faultRaised code d s.sequencer.mode s.faultMode) := by
    rw [faultListed, queueReport_of_room _ (by exact hs) (by exact Nat.lt_succ_of_lt hf)]
  refine ⟨?_, ?_, ?_⟩
  · rw [hport]
    simp [Port.withReport]
  · rw [hport, Port.withReport_fill]
    exact Nat.succ_lt_succ hf
  · rw [faultListed, queueReport_of_room _ (by exact hs) (by exact Nat.lt_succ_of_lt hf)]

/-- A new code that changes the mode enters HOLDING or SAFE with the press command held. -/
theorem raiseFault_of_change (h : s.sequencer.lists code = false) (hm : s.faultMode ≠ s.sequencer.mode) :
    raiseFault code d s = enterModeCore s.faultMode .fault (some code) (faultListed code d s) := by
  rw [raiseFault_of_new h, if_neg hm]

theorem raiseFault_of_same (h : s.sequencer.lists code = false) (hm : s.faultMode = s.sequencer.mode) :
    raiseFault code d s = faultListed code d s := by
  rw [raiseFault_of_new h, if_pos hm]

/-- What a raised fault leaves. -/
theorem raiseFault_frame (code : FaultCode) (d : Nat) (s : State) :
    { raiseFault code d s with
      sequencer := s.sequencer, port := s.port, agent := s.agent, handed := s.handed } = s := by
  simp only [raiseFault_clock, raiseFault_lineTime, raiseFault_lots, raiseFault_pacer, raiseFault_chain,
    raiseFault_canes, raiseFault_drying, raiseFault_climate, raiseFault_discharge, raiseFault_signals,
    raiseFault_line, raiseFault_pending]

/-- The sequencer with a new code listed: the entry, the mode and the command owed (R132). -/
theorem raiseFault_new_sequencer (h : s.sequencer.lists code = false) :
    (raiseFault code d s).sequencer = { s.sequencer with
      faults := s.sequencer.faults ++ [newFault s code d], mode := s.faultMode,
      pressOwed := (raiseFault code d s).sequencer.pressOwed } := by
  obtain ⟨owed, e⟩ := raiseFault_sequencer code d s
  rw [h] at e
  rw [e]
  rfl

end NewCode

/-! ## FAULT_RAISE (R132) -/

/-- The row takes what was asked for off the ledger and raises it. -/
theorem exec_faultRaise (code : FaultCode) (d : Nat) (s : State) :
    exec (.faultRaise code d) s = .next (raiseFault code d (s.took (.faultRaise code d))) := rfl

/-- The reports of a new code: FAULT_RAISED, and MODE_CHANGE with a change of the mode. -/
theorem raiseFault_management {s : State} {code : FaultCode} {d : Nat} (h : s.sequencer.lists code = false)
    (hs : s.port.silent = false) (hf : s.port.fill .management < 4) :
    (raiseFault code d s).port.management.map Frame.body = s.port.management.map Frame.body ++
      [.report s.agent.missed s.lineTime (.faultRaised code d s.sequencer.mode s.faultMode)] ++
      (if s.faultMode = s.sequencer.mode then []
       else [.report 0 s.lineTime (.modeChange s.sequencer.mode s.faultMode .fault (some code))]) := by
  obtain ⟨hman, hfill, hmissed⟩ := faultListed_management (code := code) (d := d) hs hf
  by_cases hm : s.faultMode = s.sequencer.mode
  · rw [raiseFault_of_same h hm, hman, if_pos hm, List.append_nil]
  · have htime : (faultListed code d s).lineTime = s.lineTime := queueReport_lineTime _ _
    rw [raiseFault_of_change h hm, enterModeCore_management ((faultListed_urgent code d s).2.2.trans hs) hfill, hman,
      hmissed, htime, faultListed_sequencer, if_neg hm]

/-- Settles O27: a listed code is counted, and a new one is listed and then enters its mode. -/
theorem faultsListOnceAndEscalate : Obligations.FaultsListOnceAndEscalate := by
  intro s code d after
  let u := s.took (.faultRaise code d)
  have hafter : u.faultMode = after := faultMode_eq u
  rw [exec_faultRaise]
  constructor
  · rintro ⟨e, he, hc⟩
    have hl : u.sequencer.lists code = true := by
      simp only [Sequencer.lists, List.any_eq_true, decide_eq_true_eq]
      exact ⟨e, he, hc⟩
    rcases raiseFault_cases code d u with ⟨-, e⟩ | ⟨hn, -⟩
    · rw [e]; rfl
    · rw [hl] at hn; cases hn
  · intro hnew
    have hl : u.sequencer.lists code = false := (lists_eq_false_iff _ _).2 hnew
    obtain ⟨hurgent, hfill, hsilent⟩ := faultListed_urgent code d u
    have hseq := raiseFault_new_sequencer (d := d) hl
    have htalk : (faultListed code d u).talkNode 2 = s.talkNode 2 := by
      rw [State.talkNode, faultListed_signals]; rfl
    rw [← hafter]
    refine ⟨_, rfl, ?_, ?_, fun hm => ?_, ?_, ?_, fun hm => ?_, fun hm hq => ?_, fun dest hm hd hf hs => ?_, ?_,
      fun hs hf => ?_⟩
    · rw [hseq]; rfl
    · rw [hseq]
    · have handed := enterModeCore_handed u.faultMode .fault (some code) (faultListed code d u)
      rw [faultListed_sequencer] at handed
      rw [raiseFault_of_change hl hm]
      exact handed
    · rw [hseq]; rfl
    · rw [hseq]; rfl
    · rw [raiseFault_of_same hl hm, faultListed_sequencer, hurgent]
      exact ⟨rfl, rfl⟩
    · rw [raiseFault_of_change hl hm]
      obtain ⟨howed, hsame⟩ := enterModeCore_unqueued (r := .fault) (code := some code)
        (s := faultListed code d u) (faultMode_commands hm).1 (by rw [htalk, hfill]; exact hq)
      exact ⟨howed, hsame.trans hurgent⟩
    · rw [raiseFault_of_change hl hm]
      obtain ⟨hcommand, hruns⟩ := faultMode_commands hm
      obtain ⟨howed, hqueued⟩ := enterModeCore_queued (r := .fault) (code := some code) (s := faultListed code d u)
        hcommand (htalk.trans hd) (hfill ▸ hf) (hsilent.trans hs)
      rw [hurgent, hruns] at hqueued
      exact ⟨howed, _, hqueued⟩
    · exact congrArg (fun v : State => { v with handed := s.handed }) (raiseFault_frame code d u)
    · exact raiseFault_management hl hs hf

/-! ## The press command owed (R129, R130) -/

/-- What was handed on last of all and is taken at once leaves the ledger as it was before. -/
theorem took_head (s : State) (e : Instr) (es : List Instr) :
    ({ s with handed := e :: es } : State).took e = { s with handed := es } := by
  rw [State.took, List.erase_cons_head]

/-- The row takes the arrival, raises PRESS_FAULT at FAULT, and then sends an owed command. -/
theorem exec_pressStateArrival (v : Int) (s : State) :
    exec (.pressStateArrival v) s = .next (sendOwedCommand
      (if v = 3 then raiseFault .pressFault 0 (s.took (.pressStateArrival v))
       else s.took (.pressStateArrival v))) := rfl

/-- An arrival other than FAULT only sends an owed command. -/
theorem exec_pressStateArrival_of_ne {v : Int} (s : State) (h : v ≠ 3) :
    exec (.pressStateArrival v) s = .next (sendOwedCommand (s.took (.pressStateArrival v))) := by
  rw [exec_pressStateArrival, if_neg h]

theorem sendOwedCommand_watch (s : State) : (sendOwedCommand s).watch = s.watch := by
  rw [sendOwedCommand]
  split
  · exact queuePressCommand_watch s
  · rfl

/-- The oldest outcome reported is taken off the ledger and acted on (R164). -/
theorem exec_pressCmdOutcome {s : State} {n : SentFrame} {run : Bool} {o : FrameOutcome}
    (h : s.nextOutcome = some (.pressCmdOutcome n run o)) :
    exec (.pressCmdOutcome n run o) s = .next (takePressOutcome run o (s.took (.pressCmdOutcome n run o))) := by
  change Host.Outcome.next (takeOutcome _ _ s) = _
  rw [takeOutcome, if_pos h]

/-- Settles O26: the arrival by the command owed, the FAULT arrival by the raise before it, and the outcome by its kind
and mode. -/
theorem pressCommandsAreOwedUntilTaken : Obligations.PressCommandsAreOwedUntilTaken := by
  intro s v n dest run o arrived taken runs
  have hruns : LineMode.pressRuns s.sequencer.mode = runs := pressRuns_eq _
  refine ⟨fun hv howed => ?_, fun hv howed hd hf hs => ?_, fun hv howed hq => ?_, fun hl => ?_, ?_,
    fun hnext ho hrun => ?_, fun hnext ho => ?_⟩
  · rw [exec_pressStateArrival_of_ne s hv, sendOwedCommand]
    exact congrArg Host.Outcome.next (if_neg (by exact howed ▸ nofun))
  · rw [exec_pressStateArrival_of_ne s hv, sendOwedCommand, if_pos (by exact howed),
      queuePressCommand_of_queued (s := s.took (.pressStateArrival v)) hd hf hs, ← hruns]
    rfl
  · rw [exec_pressStateArrival_of_ne s hv, sendOwedCommand, if_pos (by exact howed),
      queuePressCommand_of_unqueued (s := s.took (.pressStateArrival v)) hq, ← howed]
    rfl
  · let u := s.took (.pressStateArrival 3)
    have hwatch := sendOwedCommand_watch (raiseFault .pressFault 0 u)
    obtain ⟨hmode, hfaults, -⟩ := Watch.mk.inj hwatch
    have hseq := raiseFault_new_sequencer (s := u) (d := 0) hl
    refine ⟨_, (exec_pressStateArrival 3 s).trans (by rw [if_pos rfl]), ?_, ?_⟩
    · rw [hfaults, hseq]; rfl
    · rw [hmode, hseq]; exact faultMode_eq u
  · refine ⟨_, exec_faultRaise _ _ _, ?_⟩
    rw [exec_pressStateArrival, if_pos rfl, exec_pressStateArrival_of_ne _ (by decide)]
    rw [took_head, took_head]
    rfl
  · rw [exec_pressCmdOutcome hnext, takePressOutcome, if_pos ⟨ho, by rw [hrun]; exact hruns.symm⟩]
    rfl
  · rw [exec_pressCmdOutcome hnext, takePressOutcome,
      if_neg fun ⟨hne, hrun⟩ => ho.elim hne fun h => h (hrun.trans hruns)]
    rfl

end Sys2Proof.Machine
end

section
/-!
SUPPORT. The checks that come before a directive's content (R126, R169, R173): of a MODE row, of a length, of a range;
and the obligation about them.
-/

namespace Sys2Proof.Machine

/-! ## The MODE rows (R126) -/

/-- The MODE rows with the argument of each and the modes that accept it (R126). -/
def modeRows : List ((Request → Instr) × Byte × List LineMode) :=
  [(.modePrime, 0, [.stopped]), (.modeRun, 1, [.priming]), (.modeHold, 2, [.priming, .running, .draining]),
   (.modeResume, 3, [.holding]), (.modeDrain, 4, [.running, .holding]), (.modeStop, 5, [.holding, .draining, .safe]),
   (.modeSafe, 6, [.stopped, .priming, .running, .holding, .draining, .safe]), (.modeLeaveSafe, 7, [.safe])]

/-- The row makes the tests of R126 for its argument, accepts the given modes, and then does `act`. -/
def ModeRow (row : Request → Instr) (argument : Byte) (modes : List LineMode) (act : State → Answer) : Prop :=
  ∃ taken, (∀ r s, exec (row r) s =
      .next (runDirective (directiveOf 0x10 [argument] r) false (modeFrom taken act) s)) ∧
    ∀ m, taken m = true ↔ m ∈ modes

theorem modeRow_prime : ModeRow .modePrime 0 [.stopped] enterPriming :=
  ⟨_, fun _ _ => rfl, fun m => by simp⟩

theorem modeRow_run : ModeRow .modeRun 1 [.priming] enterRunning :=
  ⟨_, fun _ _ => rfl, fun m => by simp⟩

theorem modeRow_hold : ModeRow .modeHold 2 [.priming, .running, .draining] (enterByDirective .holding) :=
  ⟨_, fun _ _ => rfl, fun m => by simp [LineMode.allowsSteps, or_assoc]⟩

theorem modeRow_resume : ModeRow .modeResume 3 [.holding] enterPriming :=
  ⟨_, fun _ _ => rfl, fun m => by simp⟩

theorem modeRow_drain : ModeRow .modeDrain 4 [.running, .holding] enterDraining :=
  ⟨_, fun _ _ => rfl, fun m => by simp⟩

theorem modeRow_stop : ModeRow .modeStop 5 [.holding, .draining, .safe] enterStopped :=
  ⟨_, fun _ _ => rfl, fun m => by simp [or_assoc]⟩

theorem modeRow_safe :
    ModeRow .modeSafe 6 [.stopped, .priming, .running, .holding, .draining, .safe] enterSafe :=
  ⟨_, fun _ _ => rfl, fun m => by cases m <;> simp⟩

theorem modeRow_leaveSafe : ModeRow .modeLeaveSafe 7 [.safe] leaveSafe :=
  ⟨_, fun _ _ => rfl, fun m => by simp⟩

/-- Every MODE row makes the tests of R126. -/
theorem modeRow_of_mem {row : Request → Instr} {argument : Byte} {modes : List LineMode}
    (h : (row, argument, modes) ∈ modeRows) : ∃ act, ModeRow row argument modes act := by
  simp only [modeRows, List.mem_cons, List.not_mem_nil, or_false, Prod.mk.injEq] at h
  rcases h with ⟨rfl, rfl, rfl⟩ | ⟨rfl, rfl, rfl⟩ | ⟨rfl, rfl, rfl⟩ | ⟨rfl, rfl, rfl⟩ | ⟨rfl, rfl, rfl⟩ |
    ⟨rfl, rfl, rfl⟩ | ⟨rfl, rfl, rfl⟩ | ⟨rfl, rfl, rfl⟩
  · exact ⟨_, modeRow_prime⟩
  · exact ⟨_, modeRow_run⟩
  · exact ⟨_, modeRow_hold⟩
  · exact ⟨_, modeRow_resume⟩
  · exact ⟨_, modeRow_drain⟩
  · exact ⟨_, modeRow_stop⟩
  · exact ⟨_, modeRow_safe⟩
  · exact ⟨_, modeRow_leaveSafe⟩

namespace ModeRow

variable {row : Request → Instr} {argument : Byte} {modes : List LineMode} {act : State → Answer} {s : State}
  {r : Request}

/-- An argument list longer than the argument is refused first (R126 step 1). -/
theorem badForm (h : ModeRow row argument modes act) (hs : Starts s (directiveOf 0x10 [argument] r))
    (hr : r.args ≠ []) : exec (row r) s = .next (answered s (directiveOf 0x10 [argument] r) .badForm [] id) := by
  obtain ⟨taken, hexec, -⟩ := h
  have hlen : (directiveOf 0x10 [argument] r).args.length ≠ 1 := by
    change ([argument] ++ r.args).length ≠ 1
    simpa using hr
  rw [hexec]
  exact congrArg _ (runDirective_refuse hs (if_pos hlen))

/-- A mode that does not accept the argument is refused next (R126 step 3). -/
theorem wrongMode (h : ModeRow row argument modes act) (hs : Starts s (directiveOf 0x10 [argument] r))
    (hr : r.args = []) (hm : s.sequencer.mode ∉ modes) :
    exec (row r) s = .next (answered s (directiveOf 0x10 [argument] r) .wrongMode [] id) := by
  obtain ⟨taken, hexec, htaken⟩ := h
  have hlen : (directiveOf 0x10 [argument] r).args = [argument] := congrArg (argument :: ·) hr
  rw [hexec]
  refine congrArg _ (runDirective_refuse hs ?_)
  rw [modeFrom, hlen, if_neg (not_not.2 (show [argument].length = 1 from rfl)), if_neg]
  exact fun ht => hm ((htaken _).1 ht)

/-- In an accepting mode the row does what its argument asks. -/
theorem accepted (h : ModeRow row argument modes act) (hr : r.args = []) (hm : s.sequencer.mode ∈ modes) :
    exec (row r) s = .next (runDirective (directiveOf 0x10 [argument] r) false (fun _ => act) s) := by
  obtain ⟨taken, hexec, htaken⟩ := h
  have hlen : (directiveOf 0x10 [argument] r).args = [argument] := congrArg (argument :: ·) hr
  have hact : modeFrom taken act [argument] (popDirective s) = act (popDirective s) := by
    rw [modeFrom, if_neg (not_not.2 (show [argument].length = 1 from rfl)), if_pos]
    exact (htaken _).2 hm
  rw [hexec]
  simp only [runDirective, hlen, hact]

end ModeRow

/-! ## Rows of fixed length (R169) -/

/-- The rows of fixed length with the code and the argument length of each. -/
def fixedRows : List ((Request → Instr) × Byte × Nat) :=
  [(.readCane, 0x03, 4), (.markCanes, 0x04, 7), (.clearLine, 0x05, 0), (.lotOpen, 0x08, 19), (.lotStage, 0x09, 13),
   (.lotSeal, 0x0A, 1), (.lotDiscard, 0x0B, 1), (.lotArm, 0x0C, 1), (.ackFault, 0x11, 1), (.readStatus, 0x12, 1),
   (.readTotals, 0x13, 0), (.clearTotals, 0x14, 0)]

/-- Each of them compares its length before all else. -/
theorem exec_of_mem_fixedRows {row : Request → Instr} {code : Byte} {length : Nat}
    (h : (row, code, length) ∈ fixedRows) : ∃ act, ∀ r s, exec (row r) s =
      .next (runDirective (directiveOf code [] r) false (withLength length act) s) := by
  simp only [fixedRows, List.mem_cons, List.not_mem_nil, or_false, Prod.mk.injEq] at h
  rcases h with ⟨rfl, rfl, rfl⟩ | ⟨rfl, rfl, rfl⟩ | ⟨rfl, rfl, rfl⟩ | ⟨rfl, rfl, rfl⟩ | ⟨rfl, rfl, rfl⟩ |
    ⟨rfl, rfl, rfl⟩ | ⟨rfl, rfl, rfl⟩ | ⟨rfl, rfl, rfl⟩ | ⟨rfl, rfl, rfl⟩ | ⟨rfl, rfl, rfl⟩ | ⟨rfl, rfl, rfl⟩ |
    ⟨rfl, rfl, rfl⟩ <;> exact ⟨_, fun _ _ => rfl⟩

/-! ## The table writes (R169, R173) -/

/-- The rows that write a table with the ID and the entry size of each. -/
def tableRows : List ((Request → Instr) × Byte × Nat) :=
  [(.writeTableListen, 1, 3), (.writeTableTalk, 2, 2), (.writeTableZone, 3, 29), (.writeTableZoneCount, 4, 1),
   (.writeTableMeq, 5, 2), (.writeTableKd, 6, 2), (.writeTableModel, 7, 6), (.writeTableGap, 8, 1),
   (.writeTablePacer, 9, 18), (.writeTableLine, 10, 35)]

/-- The row writes table `t` after its form test, held for the sweep gap when `gap` says so. -/
def TableRow (row : Request → Instr) (table : Byte) (t : TableId) (gap : Bool)
    (act : Nat → List (List Byte) → State → Answer) : Prop :=
  tableOfId table.toNat = some t ∧ ∀ r s, exec (row r) s =
    .next (runDirective (directiveOf 0x02 [table] r) gap (withEntries t act) s)

/-- Each of them has the form test; the model tables are held for the sweep gap, and the tables of one record make the
range test next. -/
theorem tableRow_of_mem {row : Request → Instr} {table : Byte} {size : Nat} (h : (row, table, size) ∈ tableRows) :
    ∃ t gap act, TableRow row table t gap act ∧ entrySize t = size ∧
      (gap = true → 5 ≤ table.toNat ∧ table.toNat ≤ 7) ∧
      (table ∈ ([4, 7, 9, 10] : List Byte) → singleTable t = true ∧ ∃ store, act = withRange t store) := by
  simp only [tableRows, List.mem_cons, List.not_mem_nil, or_false, Prod.mk.injEq] at h
  rcases h with ⟨rfl, rfl, rfl⟩ | ⟨rfl, rfl, rfl⟩ | ⟨rfl, rfl, rfl⟩ | ⟨rfl, rfl, rfl⟩ | ⟨rfl, rfl, rfl⟩ |
    ⟨rfl, rfl, rfl⟩ | ⟨rfl, rfl, rfl⟩ | ⟨rfl, rfl, rfl⟩ | ⟨rfl, rfl, rfl⟩ | ⟨rfl, rfl, rfl⟩
  · exact ⟨.listen, false, _, ⟨rfl, fun _ _ => rfl⟩, rfl, nofun, fun h => absurd h (by decide)⟩
  · exact ⟨.talk, false, _, ⟨rfl, fun _ _ => rfl⟩, rfl, nofun, fun h => absurd h (by decide)⟩
  · exact ⟨.zone, false, _, ⟨rfl, fun _ _ => rfl⟩, rfl, nofun, fun h => absurd h (by decide)⟩
  · exact ⟨.zoneCount, false, _, ⟨rfl, fun _ _ => rfl⟩, rfl, nofun, fun _ => ⟨rfl, _, rfl⟩⟩
  · exact ⟨.meq, true, _, ⟨rfl, fun _ _ => rfl⟩, rfl, fun _ => by decide, fun h => absurd h (by decide)⟩
  · exact ⟨.kd, true, _, ⟨rfl, fun _ _ => rfl⟩, rfl, fun _ => by decide, fun h => absurd h (by decide)⟩
  · exact ⟨.model, true, _, ⟨rfl, fun _ _ => rfl⟩, rfl, fun _ => by decide, fun _ => ⟨rfl, _, rfl⟩⟩
  · exact ⟨.gap, false, _, ⟨rfl, fun _ _ => rfl⟩, rfl, nofun, fun h => absurd h (by decide)⟩
  · exact ⟨.pacer, false, _, ⟨rfl, fun _ _ => rfl⟩, rfl, nofun, fun _ => ⟨rfl, _, rfl⟩⟩
  · exact ⟨.line, false, _, ⟨rfl, fun _ _ => rfl⟩, rfl, nofun, fun _ => ⟨rfl, _, rfl⟩⟩

section TableWrite

variable {t : TableId} {act : Nat → List (List Byte) → State → Answer} {u : State}

/-- Without a first index and a count the form is wrong: the fixed part has three bytes. -/
theorem withEntries_short {args : List Byte} (h : args.length < 3) :
    withEntries t act args u = refuse .badForm u := by
  rw [withEntries, if_neg (by omega)]

/-- The entries must be as many bytes as the count says (R169). -/
theorem withEntries_of_ne {id first count : Byte} {entries : List Byte}
    (h : entries.length ≠ count.toNat * entrySize t) :
    withEntries t act (id :: first :: count :: entries) u = refuse .badForm u := by
  have hcount : field (id :: first :: count :: entries) 2 1 = count.toNat := by simp [field_cons_skip]
  rw [withEntries, hcount, if_neg (by simp only [List.length_cons]; omega)]

/-- A table of one record takes only the index 0 and the count 1 (R173). -/
theorem withEntries_badIndex {store : Nat → List (List Byte) → State → Answer} {id first count : Byte}
    {entries : List Byte} (ht : singleTable t = true) (h : entries.length = count.toNat * entrySize t)
    (hi : first ≠ 0 ∨ count ≠ 1) :
    withEntries t (withRange t store) (id :: first :: count :: entries) u = refuse .badIndex u := by
  have hcount : field (id :: first :: count :: entries) 2 1 = count.toNat := by simp [field_cons_skip]
  have hfirst : field (id :: first :: count :: entries) 1 1 = first.toNat := by simp [field_cons_skip]
  have hlen : (entriesIn t (id :: first :: count :: entries)).length = count.toNat := by
    rw [entriesIn, hcount, entriesOf, List.length_map, List.length_range]
  have hne : first.toNat ≠ 0 ∨ count.toNat ≠ 1 :=
    hi.imp (mt fun e => BitVec.eq_of_toNat_eq e) (mt fun e => BitVec.eq_of_toNat_eq e)
  have hrange : rangeOk t first.toNat count.toNat = false := by
    simpa [rangeOk, ht, imp_iff_not_or] using hne
  rw [withEntries, hcount, if_pos (by simp only [List.length_cons]; omega), hfirst]
  exact withRange_of_not_rangeOk u (by rw [hlen]; exact hrange)

end TableWrite

/-- A table write that starts, and waits for no sweep, is answered with the refusal of its checks. -/
theorem TableRow.refused {row : Request → Instr} {table : Byte} {t : TableId} {gap : Bool}
    {act : Nat → List (List Byte) → State → Answer} {s : State} {r : Request} {o : OutcomeCode}
    (h : TableRow row table t gap act) (hs : Starts s (directiveOf 0x02 [table] r))
    (hgap : gap = true → s.drying.sweep = none)
    (ha : withEntries t act (table :: r.args) (popDirective s) = refuse o (popDirective s)) :
    exec (row r) s = .next (answered s (directiveOf 0x02 [table] r) o [] id) := by
  rw [h.2]
  cases gap with
  | false => exact congrArg _ (runDirective_refuse hs ha)
  | true => exact congrArg _ (runDirective_held_refuse ⟨hs, hgap rfl⟩ ha)

/-! ## The rows that no table, mode or code of the part belongs to (R126, R169, R173) -/

/-- WRITE_TABLE naming none of the tables 1 to 10 (R169, R173). -/
theorem exec_writeTableUnwritable_refused {s : State} {r : Request} {b : Byte} {rest : List Byte}
    (hr : r.args = b :: rest) (hb : b.toNat = 0 ∨ 10 < b.toNat) (hs : Starts s (directiveOf 0x02 [] r)) :
    exec (.writeTableUnwritable r) s = .next (answered s (directiveOf 0x02 [] r) .badTable [] id) := by
  have hname : namesWritableTable r.args = false := by
    simp only [hr, namesWritableTable, Bool.and_eq_false_iff, decide_eq_false_iff_not]
    omega
  have hargs : (directiveOf 0x02 [] r).args = b :: rest := hr
  change Host.Outcome.next (if namesWritableTable r.args then s else _) = _
  rw [hname]
  exact congrArg _ (runDirective_refuse hs (if_neg (by rw [hargs]; exact List.cons_ne_nil b rest)))

/-- MODE naming none of the arguments 0 to 7: its length first, then its value (R126). -/
theorem exec_modeUnknownArgument_refused {s : State} {r : Request} {b : Byte} {rest : List Byte}
    (hr : r.args = b :: rest) (hb : 7 < b.toNat) (hs : Starts s (directiveOf 0x10 [] r)) :
    exec (.modeUnknownArgument r) s = .next (answered s (directiveOf 0x10 [] r)
      (if rest = [] then .badValue else .badForm) [] id) := by
  have hname : namesKnownMode r.args = false := by
    simp only [hr, namesKnownMode, decide_eq_false_iff_not]
    omega
  have hargs : (directiveOf 0x10 [] r).args = b :: rest := hr
  change Host.Outcome.next (if namesKnownMode r.args then s else _) = _
  rw [hname]
  refine congrArg _ (runDirective_refuse hs ?_)
  rw [hargs, refuseMode]
  cases rest with
  | nil => rfl
  | cons c rest => rw [if_pos (by simp), if_neg (List.cons_ne_nil c rest)]

/-- A code that is none of the fifteen (R169). -/
theorem exec_unknownDirective_refused {s : State} {sender : Nat} {payload : List Byte}
    (hc : carriesKnownCode payload = false) (hs : Starts s { payload := payload, sender := sender }) :
    exec (.unknownDirective sender payload) s =
      .next (answered s { payload := payload, sender := sender } .badForm [] id) := by
  change Host.Outcome.next (if carriesKnownCode payload then s else _) = _
  rw [hc, if_neg Bool.false_ne_true]
  exact congrArg _ (runDirective_refuse hs rfl)

/-! ## The obligation (O47) -/

/-- Settles O47, by the rows' tests: of the MODE rows, of the rows that nothing of the part belongs to, of the rows of
fixed length and of the table writes. -/
theorem modesTablesAndCodesAreCheckedFirst : Obligations.ModesTablesAndCodesAreCheckedFirst := by
  refine ⟨fun s r row argument modes hrow hs => ?_, fun s r sender payload => ⟨?_, ?_, ?_, ?_⟩,
    fun s r row => ⟨?_, ?_⟩⟩
  · obtain ⟨act, hact⟩ := modeRow_of_mem hrow
    exact ⟨hact.badForm hs, hact.wrongMode hs⟩
  · exact fun b rest hr hb hs => exec_writeTableUnwritable_refused hr hb hs
  · exact fun b hr hb hs => exec_modeUnknownArgument_refused hr hb hs
  · exact fun b c rest hr hb hs => exec_modeUnknownArgument_refused hr hb hs
  · rintro tag code args rfl hcode hs
    exact exec_unknownDirective_refused (by simpa [carriesKnownCode, directiveCodes] using hcode) hs
  · intro code length hrow hne hs
    obtain ⟨act, hexec⟩ := exec_of_mem_fixedRows hrow
    rw [hexec]
    exact congrArg _ (runDirective_refuse hs (if_neg hne))
  · intro table size hrow hsweep hs
    obtain ⟨t, gap, act, hact, rfl, hgap, hsingle⟩ := tableRow_of_mem hrow
    have hfree : gap = true → s.drying.sweep = none := fun h => hsweep (hgap h).1 (hgap h).2
    refine ⟨fun hlen => hact.refused hs hfree (withEntries_short (by simp only [List.length_cons]; omega)), ?_⟩
    intro first count entries hr
    refine ⟨fun hne => hact.refused hs hfree ?_, fun heq htable hi => hact.refused hs hfree ?_⟩
    · rw [hr]
      exact withEntries_of_ne hne
    · obtain ⟨hone, store, rfl⟩ := hsingle htable
      rw [hr]
      exact withEntries_badIndex hone heq hi

end Sys2Proof.Machine
end

section
/-!
SUPPORT. ACK_FAULT (R133): the entry acknowledged and the list without it; and the obligation about it.
-/

namespace Sys2Proof.Machine

/-- A byte names a code only if it is 1 to 8 (R181). -/
theorem faultOfCode_of_out_of_range {n : Nat} (h : n = 0 ∨ 8 < n) : faultOfCode n = none := by
  rw [faultOfCode]
  all_goals omega

/-- Every code reads back from its byte. -/
theorem faultOfCode_faultByte (c : FaultCode) : faultOfCode (faultByte c).toNat = some c := by
  cases c <;> rfl

section List

variable {code : FaultCode} {es before after : List FaultEntry} {e : FaultEntry}

/-- A code that is not listed has no entry. -/
theorem findFault_eq_none (h : ∀ e ∈ es, e.code ≠ code) : es.find? (fun e => decide (e.code = code)) = none :=
  List.find?_eq_none.2 fun e he => by simpa using h e he

/-- The first entry of a code is found behind entries of other codes. -/
theorem findFault_eq_some (h : ∀ x ∈ before, x.code ≠ e.code) :
    (before ++ e :: after).find? (fun x => decide (x.code = e.code)) = some e := by
  rw [List.find?_append, findFault_eq_none h, List.find?_cons_of_pos (by simp), Option.none_or]

/-- Without the one entry of a code the entries before and after it stand as they were. -/
theorem removeFault_eq (h : ∀ x ∈ before ++ after, x.code ≠ e.code) :
    removeFault e.code (before ++ e :: after) = before ++ after := by
  rw [removeFault, List.filter_append, List.filter_cons_of_neg (by simp), ← List.filter_append]
  exact List.filter_eq_self.2 fun x hx => by simpa using h x hx

end List

/-- ACK_FAULT as a directive: its length is right, then R133 decides. -/
theorem exec_ackFault {r : Request} {b : Byte} (s : State) (hr : r.args = [b]) :
    exec (.ackFault r) s =
      .next (runDirective (directiveOf 0x11 [] r) false (fun _ => ackFaultCode b.toNat) s) := by
  refine congrArg _ ((runDirective_oneByte (d := directiveOf 0x11 [] r) _ s hr).trans ?_)
  simp only [field_cons_head]

/-- Settles O50: the code byte, then the list, then the entry taken from it. -/
theorem acknowledgedFaultsLeaveTheList : Obligations.AcknowledgedFaultsLeaveTheList := by
  intro s r b hr hs
  rw [exec_ackFault s hr]
  refine ⟨fun hb => ?_, fun code hb hnot => ?_, fun e before after hb hlist hother => ?_⟩ <;> refine congrArg _ ?_
  · refine runDirective_refuse hs ?_
    rw [ackFaultCode, faultOfCode_of_out_of_range hb]
  · subst hb
    have hfind : (popDirective s).sequencer.faults.find? _ = none := findFault_eq_none hnot
    refine runDirective_refuse hs ?_
    simp only [ackFaultCode, faultOfCode_faultByte, hfind]
  · subst hb
    have hfaults : (popDirective s).sequencer.faults = before ++ e :: after := hlist
    have hbefore : ∀ x ∈ before, x.code ≠ e.code := fun x hx => hother x (List.mem_append_left _ hx)
    refine runDirective_done hs ?_ rfl
    simp only [ackFaultCode, faultOfCode_faultByte, hfaults, findFault_eq_some hbefore, acknowledgeFault,
      removeFault_eq hother]

end Sys2Proof.Machine
end

section
/-!
SUPPORT. The MODE directives that have passed their checks (R126, R127, R128, R131): the conditions in the words of
the statements, a mode entered and answered, and the obligations about the seven arguments.
-/

namespace Sys2Proof.Machine

/-! ## The conditions (R126, R127, R131) -/

/-- The configuration test of PRIME and RESUME reads the entries that R127 names. -/
theorem configured_iff (s : State) : s.configured = true ↔ ConfigurationComplete s := by
  simp only [State.configured, ConfigurationComplete, Bool.and_eq_true, decide_eq_true_eq, List.all_eq_true,
    List.mem_range, Option.isSome_iff_ne_none, Nat.one_le_iff_ne_zero]
  constructor
  · rintro ⟨⟨⟨⟨hcount, hline⟩, hzone⟩, htalk⟩, hclimate⟩
    exact ⟨hcount, hline, htalk, fun k hk => ⟨(hzone k hk).1, (hzone k hk).2, hclimate k hk⟩⟩
  · rintro ⟨hcount, hline, htalk, hzone⟩
    exact ⟨⟨⟨⟨hcount, hline⟩, fun k hk => ⟨(hzone k hk).1, (hzone k hk).2.1⟩⟩, htalk⟩, fun k hk => (hzone k hk).2.2⟩

/-- The product test of DRAIN and STOP looks at the station and the cane queue. -/
theorem holdsProduct_iff (s : State) : s.holdsProduct = true ↔ ProductOnTheLine s := by
  have hcane (c : Cane) : c.isProduct = true ↔ c.product ≠ none := Option.isSome_iff_ne_none
  simp only [State.holdsProduct, ProductOnTheLine, List.mem_append, Bool.or_eq_true, List.any_eq_true, hcane,
    or_and_right, exists_or]
  cases s.chain.station with
  | none => simp
  | some c => simp [hcane]

/-! ## A mode entered and answered -/

section Answered

variable {s u : State} {d : Directive} {m : LineMode} {l : LotTable} {p : Pacer} {act : State → Answer}

/-- A directive that only enters a mode leaves room for its response. -/
theorem enterModeCore_room {r : ModeReason} {code : Option FaultCode} (hs : u.port.silent = false)
    (hf : u.port.fill .management < 6) : (enterModeCore m r code u).port.silent = false ∧
      (enterModeCore m r code u).port.fill .management < 6 := by
  obtain ⟨hsilent, hfill⟩ := enterModeCore_fill_le (m := m) (r := r) (code := code) hs
  exact ⟨hsilent, by omega⟩

/-- A started directive whose execution leaves the state `u`, with room for the response, is answered with it. -/
theorem runDirective_leaves (hs : Starts s d) (ha : act (popDirective s) = doneWith [] u)
    (hu : u.port.silent = false ∧ u.port.fill .management < 6) :
    runDirective d false (fun _ => act) s = answered s d .done [] fun _ => u :=
  runDirective_answered (effect := fun _ => u) (startable_of_starts hs) ha hu.1 hu.2

/-- What such a directive leaves is what `u` holds, with the response at the tail of the management queue. -/
theorem runDirective_leaves_parts (hs : Starts s d) (ha : act (popDirective s) = doneWith [] u)
    (hu : u.port.silent = false ∧ u.port.fill .management < 6) :
    ∃ t, Host.Outcome.next (runDirective d false (fun _ => act) s) = (.next t : Host.Outcome State Fault Refusal) ∧
      t.sequencer = u.sequencer ∧ t.lots = u.lots ∧ t.pacer = u.pacer ∧ t.handed = u.handed ∧
      t.port.management.getLast?.map Frame.body = some (.response d.tag d.code .done []) := by
  obtain ⟨q, n, e, hman⟩ := answered_eq s d .done [] fun _ => u
  refine ⟨_, congrArg _ (runDirective_leaves hs ha hu), rfl, rfl, rfl, rfl, ?_⟩
  rw [e, hman, List.getLast?_concat]
  rfl

/-- An entry leaves the directive queue and the supervisor. -/
theorem enterModeCore_agent (m : LineMode) (r : ModeReason) (code : Option FaultCode) (s : State) :
    (enterModeCore m r code s).agent.directives = s.agent.directives ∧
    (enterModeCore m r code s).agent.supervisor = s.agent.supervisor := by
  rw [enterModeCore_eq, ← modePressed_agent m s]
  exact queueReport_agent _ _

/-- An entry sets the mode and keeps the faults, the loss timers and the loss marks. -/
theorem enterModeCore_keeps (m : LineMode) (r : ModeReason) (code : Option FaultCode) (s : State) :
    (enterModeCore m r code s).sequencer.mode = m ∧
    (enterModeCore m r code s).sequencer.faults = s.sequencer.faults ∧
    (enterModeCore m r code s).sequencer.lossTimers = s.sequencer.lossTimers ∧
    (enterModeCore m r code s).sequencer.lossRaised = s.sequencer.lossRaised := by
  rw [enterModeCore_sequencer]
  exact ⟨rfl, rfl, rfl, rfl⟩

/-- RUNNING and STOPPED are the modes that are entered without a press command (R128). -/
theorem entersWithPressCommand_iff (m : LineMode) :
    entersWithPressCommand m = true ↔ m ≠ .running ∧ m ≠ .stopped := by
  cases m <;> decide

/-- A mode entered and answered, with the lot table and the pacer as the mode's own rules leave them (R128). -/
theorem modeEntered_answered (hs : Starts s d) :
    ModeEntered s (answered s d .done [] fun _ =>
      { enterModeCore m .directive none (popDirective s) with lots := l, pacer := p }) d m := by
  obtain ⟨-, -, hsilent⟩ := hs
  obtain ⟨hmode, hfaults, htimers, hraised⟩ := enterModeCore_keeps m .directive none (popDirective s)
  have hcommand := entersWithPressCommand_iff m
  have hqueued (hm) (dest) := enterModeCore_queued (m := m) (r := .directive) (code := none) (s := popDirective s)
    (dest := dest) hm
  have hunqueued (hm) := enterModeCore_unqueued (m := m) (r := .directive) (code := none) (s := popDirective s) hm
  have hbare (hm) := enterModeCore_uncommanded (m := m) (r := .directive) (code := none) (s := popDirective s) hm
  have hhanded := enterModeCore_handed_eq (m := m) (r := .directive) (code := none) (s := popDirective s) hsilent
  have hagent := enterModeCore_agent m .directive none (popDirective s)
  have hreport := enterModeCore_management (m := m) (r := .directive) (code := none) (s := popDirective s) hsilent
  have hframe := enterModeCore_frame m .directive none (popDirective s)
  generalize enterModeCore m .directive none (popDirective s) = v at *
  refine ⟨hmode, hfaults, htimers, hraised, fun hm ⟨htalk, hf⟩ => ?_, fun hm hq => ?_, fun hm => ?_, hhanded,
    hagent.1, hagent.2, fun hf => ?_, ?_⟩
  · obtain ⟨dest, hdest⟩ := Option.ne_none_iff_exists'.1 htalk
    obtain ⟨howed, hurgent⟩ := hqueued (hcommand.2 hm) dest hdest hf hsilent
    refine ⟨howed, (congrArg (List.map Frame.body) hurgent).trans ?_⟩
    rw [List.map_append, pressRuns_eq]
    simp only [hm.1, or_false]
    rfl
  · exact hunqueued (hcommand.2 hm) ((not_and_or.1 hq).imp not_not.1 Nat.not_lt.1)
  · exact hbare (Bool.eq_false_iff.2 (mt hcommand.1 hm))
  · obtain ⟨q, n, e, hman⟩ := answered_eq s d .done [] fun _ => { v with lots := l, pacer := p }
    rw [e, hman, List.map_append, hreport hf, List.append_assoc]
    rfl
  · exact congrArg (fun v : State => { v with agent := s.agent, lots := s.lots, pacer := s.pacer }) hframe

/-- A started directive that enters a mode is answered there. -/
theorem runDirective_enters (hs : Starts s d) (ha : act (popDirective s) = doneWith []
      { enterModeCore m .directive none (popDirective s) with lots := l, pacer := p }) :
    ∃ t, Host.Outcome.next (runDirective d false (fun _ => act) s) = (.next t : Host.Outcome State Fault Refusal) ∧
      ModeEntered s t d m ∧ t.lots = l ∧ t.pacer = p :=
  ⟨_, congrArg _ (runDirective_leaves hs ha (enterModeCore_room (u := popDirective s) hs.2.2 hs.2.1)),
    modeEntered_answered hs, rfl, rfl⟩

/-- A mode without rules of its own leaves the lot table and the pacer. -/
theorem runDirective_entersCore (hs : Starts s d)
    (ha : act (popDirective s) = doneWith [] (enterModeCore m .directive none (popDirective s))) :
    ∃ t, Host.Outcome.next (runDirective d false (fun _ => act) s) = (.next t : Host.Outcome State Fault Refusal) ∧
      ModeEntered s t d m ∧ t.lots = s.lots ∧ t.pacer = s.pacer := by
  refine runDirective_enters hs (ha.trans (congrArg (doneWith []) ?_))
  exact congrArg₂ (fun l p => { enterModeCore m .directive none (popDirective s) with lots := l, pacer := p })
    (enterModeCore_lots m .directive none (popDirective s)) (enterModeCore_pacer m .directive none (popDirective s))

end Answered

/-! ## Entry to PRIMING (R127, R136) -/

section Priming

variable {s : State}

/-- While the speed slot is not LOST the test at entry does nothing. -/
theorem enterMode_priming_of_not_lost (r : ModeReason) (h : s.isLost 0 = false) :
    enterMode .priming r s = enterModeCore .priming r none s := by
  have hlost : (enterModeCore .priming r none s).isLost roleSpeed = false := by
    rw [State.isLost, State.slot, enterModeCore_signals]
    exact h
  change speedLostTest _ = _
  rw [speedLostTest, hlost]
  rfl

/-- While it is LOST the fault is raised at entry. -/
theorem enterMode_priming_of_lost (r : ModeReason) (h : s.isLost 0 = true) :
    enterMode .priming r s = raiseFault .speedLost 0 (enterModeCore .priming r none s) := by
  have hlost : (enterModeCore .priming r none s).isLost roleSpeed = true := by
    rw [State.isLost, State.slot, enterModeCore_signals]
    exact h
  change speedLostTest _ = _
  rw [speedLostTest, hlost, enterModeCore_sequencer]
  rfl

/-- In PRIMING with the list empty a new code leaves for HOLDING (R132). -/
theorem raiseFault_primed {code : FaultCode} {d : Nat} (hfaults : s.sequencer.faults = [])
    (hmode : s.sequencer.mode = .priming) (hsilent : s.port.silent = false) :
    (raiseFault code d s).sequencer.mode = .holding ∧
    (raiseFault code d s).sequencer.faults = [newFault s code d] ∧
    (raiseFault code d s).handed =
      s.handed ++ ([.pacerModeChange .priming .holding, .chainModeChange .priming .holding] : List Instr) ∧
    (s.port.fill .management < 6 → (raiseFault code d s).port.silent = false ∧
      (raiseFault code d s).port.fill .management < 6) := by
  have hnew : s.sequencer.lists code = false := by rw [Sequencer.lists, hfaults]; rfl
  have hholding : s.faultMode = .holding := by rw [State.faultMode, hfaults, hmode]; rfl
  have hchange : raiseFault code d s = enterModeCore .holding .fault (some code) (faultListed code d s) := by
    rw [raiseFault_of_change hnew (by rw [hholding, hmode]; nofun), hholding]
  have hlisted : (faultListed code d s).port.silent = false := (faultListed_urgent code d s).2.2.trans hsilent
  have hseq := raiseFault_new_sequencer (d := d) hnew
  refine ⟨?_, ?_, ?_, fun hf => ?_⟩
  · rw [hseq]; exact hholding
  · rw [hseq, hfaults]; rfl
  · rw [hchange, enterModeCore_handed_eq hlisted, faultListed_sequencer, faultListed,
      queueReport_handed _ (by exact hsilent), hmode]
  · have hfill : (faultListed code d s).port.fill .management ≤ max (s.port.fill .management) 5 :=
      queueReport_fill_le _ (by exact hsilent)
    rw [hchange]
    exact enterModeCore_room hlisted (by omega)

/-- PRIMING entered by a directive with the speed slot LOST: both changes and the fault between them. -/
theorem runDirective_entersPrimingLost {d : Directive} {act : State → Answer} (hs : Starts s d)
    (hfaults : s.sequencer.faults = []) (hlost : s.isLost 0 = true)
    (ha : act (popDirective s) = doneWith [] (enterMode .priming .directive (popDirective s))) :
    ∃ t, Host.Outcome.next (runDirective d false (fun _ => act) s) = (.next t : Host.Outcome State Fault Refusal) ∧
      t.sequencer.mode = .holding ∧ t.sequencer.faults = [newFault s .speedLost 0] ∧ t.lots = s.lots ∧
      t.pacer = s.pacer ∧
      t.handed = s.handed ++
        ([.pacerModeChange s.sequencer.mode .priming, .chainModeChange s.sequencer.mode .priming,
          .pacerModeChange .priming .holding, .chainModeChange .priming .holding] : List Instr) ∧
      t.port.management.getLast?.map Frame.body = some (.response d.tag d.code .done []) := by
  obtain ⟨hprimed, hkept, -, -⟩ := enterModeCore_keeps .priming .directive none (popDirective s)
  obtain ⟨hroom, hfull⟩ := enterModeCore_room (m := .priming) (r := .directive) (code := none)
    (u := popDirective s) hs.2.2 hs.2.1
  have hhanded := enterModeCore_handed_eq (m := .priming) (r := .directive) (code := none) (s := popDirective s) hs.2.2
  have htime := enterModeCore_lineTime .priming .directive none (popDirective s)
  have hlots := enterModeCore_lots .priming .directive none (popDirective s)
  have hpacer := enterModeCore_pacer .priming .directive none (popDirective s)
  rw [enterMode_priming_of_lost (s := popDirective s) _ hlost] at ha
  generalize enterModeCore .priming .directive none (popDirective s) = v at *
  obtain ⟨hmode, hlist, hraised, hfill⟩ := raiseFault_primed (s := v) (code := .speedLost) (d := 0)
    (hkept.trans hfaults) hprimed hroom
  obtain ⟨t, hexec, hseq, htlots, htpacer, hthanded, hresponse⟩ := runDirective_leaves_parts hs ha (hfill hfull)
  refine ⟨t, hexec, hseq ▸ hmode, ?_, ?_, ?_, ?_, hresponse⟩
  · rw [hseq, hlist, newFault, newFault, htime]
    rfl
  · rw [htlots, raiseFault_lots, hlots]
    rfl
  · rw [htpacer, raiseFault_pacer, hpacer]
    rfl
  · rw [hthanded, hraised, hhanded, List.append_assoc]
    rfl

end Priming

/-! ## PRIME, RESUME and RUN (O48) -/

/-- PRIME and RESUME make the same tests: the fault list, then the configuration (R126, R127). -/
theorem enterPriming_refuses_faults {u : State} (h : u.sequencer.faults ≠ []) :
    enterPriming u = refuse .wrongState u := if_pos h

theorem enterPriming_refuses_unconfigured {u : State} (h : u.sequencer.faults = [])
    (hc : ¬ ConfigurationComplete u) : enterPriming u = refuse .notConfigured u := by
  have hc' : u.configured = false := Bool.eq_false_iff.2 (mt (configured_iff u).1 hc)
  rw [enterPriming, if_neg (not_not.2 h), hc']
  rfl

theorem enterPriming_enters {u : State} (h : u.sequencer.faults = []) (hc : ConfigurationComplete u) :
    enterPriming u = doneWith [] (enterMode .priming .directive u) := by
  rw [enterPriming, if_neg (not_not.2 h), (configured_iff u).2 hc]
  rfl

/-- RUN by a lot and SETTLED (R126). -/
theorem enterRunning_refuses_unsettled {u : State} (hlot : u.lots.active ≠ none ∨ u.lots.armed ≠ none)
    (h : u.pacer.settled = false) : enterRunning u = refuse .notSettled u := by
  rw [enterRunning, if_neg fun ⟨hactive, harmed⟩ => hlot.elim (· hactive) (· harmed), h]
  rfl

theorem enterRunning_enters {u : State} (hlot : u.lots.active ≠ none ∨ u.lots.armed ≠ none)
    (h : u.pacer.settled = true) : enterRunning u = doneWith [] (enterMode .running .directive u) := by
  rw [enterRunning, if_neg fun ⟨hactive, harmed⟩ => hlot.elim (· hactive) (· harmed), h]
  rfl

/-- The lot table after the activation test at entry to RUNNING (R12). -/
theorem activateArmed_eq (s : State) : activateArmed s = { s with lots := (activateArmed s).lots } := by
  rw [activateArmed]
  split <;> rfl

theorem activateArmed_lots_of_active {s : State} (h : s.lots.active ≠ none) : (activateArmed s).lots = s.lots := by
  obtain ⟨a, h⟩ := Option.ne_none_iff_exists'.1 h
  simp only [activateArmed, h]

theorem activateArmed_lots_of_armed {s : State} {a : Nat} (h : s.lots.active = none) (ha : s.lots.armed = some a) :
    (activateArmed s).lots = { s.lots with
      active := some a, armed := none, slots := s.lots.slots.set a { s.lotSlot a with life := .active } } := by
  simp only [activateArmed, h, ha]
  rfl

/-- Entry to RUNNING: the activation test, and the purge of the curtain pending (R12, R41). -/
theorem enterMode_running_eq (r : ModeReason) (s : State) :
    enterMode .running r s = { enterModeCore .running r none s with
      lots := (activateArmed s).lots, pacer := { s.pacer with purgePending := true } } := by
  have hlots : (activateArmed (enterModeCore .running r none s)).lots = (activateArmed s).lots := by
    simp only [activateArmed, enterModeCore_lots]
    split <;> simp [State.lotSlot]
  have hpacer := enterModeCore_pacer .running r none s
  have hactivated := activateArmed_eq (enterModeCore .running r none s)
  rw [hlots] at hactivated
  change (let u := activateArmed _; { u with pacer := { u.pacer with purgePending := true } } : State) = _
  rw [hactivated]
  simp only [hpacer]

/-- Settles O48: PRIME and RESUME by the tests they share, RUN by its own and the activation at entry. -/
theorem primeResumeAndRunEnterTheirModes : Obligations.PrimeResumeAndRunEnterTheirModes := by
  intro s r hr
  refine ⟨fun row argument from' hrow hs hfrom => ?_, fun hs hmode => ?_⟩
  · obtain ⟨modes, hact, haccepts⟩ : ∃ modes, ModeRow row argument modes enterPriming ∧ from' ∈ modes := by
      simp only [List.mem_cons, List.not_mem_nil, or_false, Prod.mk.injEq] at hrow
      obtain ⟨rfl, rfl, rfl⟩ | ⟨rfl, rfl, rfl⟩ := hrow
      · exact ⟨_, modeRow_prime, List.mem_singleton_self _⟩
      · exact ⟨_, modeRow_resume, List.mem_singleton_self _⟩
    rw [hact.accepted hr (hfrom ▸ haccepts)]
    refine ⟨fun hf => ?_, fun hf hc => ?_, fun hf hc hlost => ?_, fun hf hc hlost => ?_⟩
    · exact congrArg _ (runDirective_refuse hs (enterPriming_refuses_faults hf))
    · exact congrArg _ (runDirective_refuse hs (enterPriming_refuses_unconfigured hf hc))
    · refine runDirective_entersCore hs ?_
      rw [enterPriming_enters (u := popDirective s) hf hc, enterMode_priming_of_not_lost (s := popDirective s) _ hlost]
    · exact runDirective_entersPrimingLost hs hf hlost (enterPriming_enters hf hc)
  · rw [modeRow_run.accepted hr (List.mem_singleton.2 hmode)]
    refine ⟨fun hactive harmed => ?_, fun hlot hsettled => ?_, fun hlot hsettled => ?_⟩
    · exact congrArg _ (runDirective_refuse hs (if_pos ⟨hactive, harmed⟩))
    · exact congrArg _ (runDirective_refuse hs (enterRunning_refuses_unsettled (u := popDirective s) hlot hsettled))
    · have henter := enterRunning_enters (u := popDirective s) hlot hsettled
      rw [enterMode_running_eq] at henter
      obtain ⟨t, hexec, hentered, hlots, hpacer⟩ := runDirective_enters hs henter
      refine ⟨t, hexec, hentered, hpacer, fun hactive => ?_, fun a hactive harmed => ?_⟩
      · exact hlots.trans (activateArmed_lots_of_active (s := popDirective s) hactive)
      · exact hlots.trans (activateArmed_lots_of_armed (s := popDirective s) hactive harmed)

/-! ## HOLD, DRAIN, STOP, SAFE and LEAVE_SAFE (O49) -/

/-- With no product on the line DRAIN enters DRAINING and at once STOPPED (R131). -/
theorem runDirective_drained {s : State} {d : Directive} {act : State → Answer} (hs : Starts s d)
    (ha : act (popDirective s) = doneWith []
      (enterMode .stopped .drained (enterMode .draining .directive (popDirective s)))) :
    ∃ t, Host.Outcome.next (runDirective d false (fun _ => act) s) = (.next t : Host.Outcome State Fault Refusal) ∧
      t.sequencer.mode = .stopped ∧
      t.handed = s.handed ++
        ([.pacerModeChange s.sequencer.mode .draining, .chainModeChange s.sequencer.mode .draining,
          .pacerModeChange .draining .stopped, .chainModeChange .draining .stopped] : List Instr) ∧
      t.port.management.getLast?.map Frame.body = some (.response d.tag d.code .done []) := by
  obtain ⟨hdraining, -, -, -⟩ := enterModeCore_keeps .draining .directive none (popDirective s)
  obtain ⟨hroom, hfull⟩ := enterModeCore_room (m := .draining) (r := .directive) (code := none)
    (u := popDirective s) hs.2.2 hs.2.1
  have hhanded := enterModeCore_handed_eq (m := .draining) (r := .directive) (code := none) (s := popDirective s) hs.2.2
  change act _ = doneWith [] (enterModeCore .stopped .drained none (enterModeCore .draining .directive none _)) at ha
  generalize enterModeCore .draining .directive none (popDirective s) = v at *
  obtain ⟨t, hexec, hseq, -, -, hthanded, hresponse⟩ := runDirective_leaves_parts hs ha (enterModeCore_room hroom hfull)
  refine ⟨t, hexec, ?_, ?_, hresponse⟩
  · rw [hseq]
    exact (enterModeCore_keeps .stopped .drained none v).1
  · rw [hthanded, enterModeCore_handed_eq hroom, hhanded, hdraining, List.append_assoc]
    rfl

namespace ModeRow

variable {row : Request → Instr} {argument : Byte} {modes : List LineMode} {act : State → Answer} {s : State}
  {r : Request}

/-- A row whose own condition fails in an accepting mode. -/
theorem refused {o : OutcomeCode} (h : ModeRow row argument modes act) (hr : r.args = [])
    (hs : Starts s (directiveOf 0x10 [argument] r)) (hm : s.sequencer.mode ∈ modes)
    (ha : act (popDirective s) = refuse o (popDirective s)) :
    exec (row r) s = .next (answered s (directiveOf 0x10 [argument] r) o [] id) :=
  (h.accepted hr hm).trans (congrArg _ (runDirective_refuse hs ha))

/-- A row that enters a mode without rules of its own. -/
theorem enters {new : LineMode} (h : ModeRow row argument modes act) (hr : r.args = [])
    (hs : Starts s (directiveOf 0x10 [argument] r)) (hm : s.sequencer.mode ∈ modes)
    (ha : act (popDirective s) = doneWith [] (enterModeCore new .directive none (popDirective s))) :
    ∃ t, exec (row r) s = .next t ∧ ModeEntered s t (directiveOf 0x10 [argument] r) new ∧ t.lots = s.lots ∧
      t.pacer = s.pacer := by
  rw [h.accepted hr hm]
  exact runDirective_entersCore hs ha

end ModeRow

section Conditions

variable {u : State}

/-- DRAIN by the product on the line (R131). -/
theorem enterDraining_of_product (h : ProductOnTheLine u) :
    enterDraining u = doneWith [] (enterModeCore .draining .directive none u) := by
  rw [enterDraining, if_pos ((holdsProduct_iff u).2 h)]
  rfl

theorem enterDraining_of_no_product (h : ¬ ProductOnTheLine u) :
    enterDraining u = doneWith [] (enterMode .stopped .drained (enterMode .draining .directive u)) := by
  rw [enterDraining, if_neg (mt (holdsProduct_iff u).1 h)]

/-- STOP by the product on the line, outside SAFE (R126). -/
theorem enterStopped_of_product (hm : u.sequencer.mode ≠ .safe) (h : ProductOnTheLine u) :
    enterStopped u = refuse .wrongState u := by
  rw [enterStopped, if_neg hm, if_pos ((holdsProduct_iff u).2 h)]

theorem enterStopped_of_no_product (hm : u.sequencer.mode ≠ .safe) (h : ¬ ProductOnTheLine u) :
    enterStopped u = doneWith [] (enterModeCore .stopped .directive none u) := by
  rw [enterStopped, if_neg hm, if_neg (mt (holdsProduct_iff u).1 h)]
  rfl

/-- STOP by the fault list, in SAFE (R126). -/
theorem enterStopped_of_safe (hm : u.sequencer.mode = .safe) : enterStopped u =
    if u.sequencer.faults.length ≤ 1 then doneWith [] (enterModeCore .stopped .directive none u)
    else refuse .wrongState u := by
  rw [enterStopped, if_pos hm]
  rfl

end Conditions

/-- Settles O49, each row by the mode it enters or the condition it fails. -/
theorem holdDrainStopAndSafeEnterTheirModes : Obligations.HoldDrainStopAndSafeEnterTheirModes := by
  intro s r hr entered refused
  refine ⟨fun hs hm => ?_, fun hs hm => ?_, fun hs => ⟨fun hm => ?_, fun hm => ?_⟩,
    fun hs => ⟨fun hm => ?_, fun hm => ?_⟩, fun hs hm => ?_⟩
  · exact modeRow_hold.enters hr hs (by simpa using hm) rfl
  · have haccepts : s.sequencer.mode ∈ [.running, .holding] := by simpa using hm
    refine ⟨fun hp => ?_, fun hp => ?_⟩
    · exact modeRow_drain.enters hr hs haccepts (enterDraining_of_product (u := popDirective s) hp)
    · rw [modeRow_drain.accepted hr haccepts]
      exact runDirective_drained hs (enterDraining_of_no_product (u := popDirective s) hp)
  · have haccepts : s.sequencer.mode ∈ [.holding, .draining, .safe] := by
      rcases hm with hm | hm <;> rw [hm] <;> decide
    have hsafe : s.sequencer.mode ≠ .safe := by rcases hm with hm | hm <;> rw [hm] <;> nofun
    exact ⟨fun hp => modeRow_stop.refused hr hs haccepts (enterStopped_of_product (u := popDirective s) hsafe hp),
      fun hp => modeRow_stop.enters hr hs haccepts (enterStopped_of_no_product (u := popDirective s) hsafe hp)⟩
  · have haccepts : s.sequencer.mode ∈ [.holding, .draining, .safe] := by rw [hm]; decide
    have hstop := enterStopped_of_safe (u := popDirective s) hm
    exact ⟨fun hf => modeRow_stop.enters hr hs haccepts (hstop.trans (if_pos hf)),
      fun hf => modeRow_stop.refused hr hs haccepts (hstop.trans (if_neg (Nat.not_le.2 hf)))⟩
  · refine modeRow_safe.enters hr hs ?_ (if_neg hm)
    cases s.sequencer.mode <;> decide
  · rw [modeRow_safe.accepted hr (by rw [hm]; decide)]
    exact congrArg _ (runDirective_done (effect := id) hs (if_pos hm) rfl)
  · have haccepts : s.sequencer.mode ∈ [.safe] := List.mem_singleton.2 hm
    exact ⟨fun hf => modeRow_leaveSafe.enters hr hs haccepts (if_neg (not_not.2 hf)),
      fun hf => modeRow_leaveSafe.refused hr hs haccepts (if_pos hf)⟩

end Sys2Proof.Machine
end

section
/-!
SUPPORT. The expiries of a slot's two timers (R147, R148): the slot made stale, and for each role the served block told
of the loss; and the obligation about them.
-/

namespace Sys2Proof.Machine

/-- A timer that has reached its expiry is due. -/
theorem due_of_le {t : Timer} {e now : Nat} (h : t = .running e) (he : e ≤ now) : t.due now = true := by
  rw [h]
  exact decide_eq_true he

/-- The stale timer of a FRESH slot makes it STALE. -/
theorem exec_staleTimerExpiry_due {s : State} {role e : Nat} (ht : (s.slot role).staleTimer = .running e)
    (he : e ≤ s.clock) (hf : (s.slot role).freshness = .fresh) :
    exec (.staleTimerExpiry role) s =
      .next (s.setSlot role { s.slot role with freshness := .stale, staleTimer := .stopped }) :=
  congrArg Host.Outcome.next (if_pos ⟨due_of_le ht he, hf⟩)

/-- The lost timer makes the slot LOST. -/
theorem exec_lostTimerExpiry_due {s : State} {role e : Nat} (ht : (s.slot role).lostTimer = .running e)
    (he : e ≤ s.clock) : exec (.lostTimerExpiry role) s = .next (makeLost role s) :=
  congrArg Host.Outcome.next (if_pos (due_of_le ht he))

/-! ## The loss by role (R148) -/

/-- The slot of a role made LOST, before its block is told. -/
def State.withLost (s : State) (role : Nat) : State := s.setSlot role (s.slot role).madeLost

section ByRole

variable {s : State}

theorem makeLost_unwatched {role : Nat} (hl : s.isLost role = false) (h : role = 1 ∨ role = 2 ∨ 5 ≤ role ∧ role ≤ 7) :
    makeLost role s = s.withLost role := by
  rw [makeLost_of_passing role s hl]
  rcases reportLoss_cases role (s.withLost role) with
    ⟨hr, -⟩ | ⟨hr, -⟩ | ⟨k, -, hr, -⟩ | ⟨k, -, hr, -⟩ | ⟨-, -, -, -, e⟩
  · omega
  · omega
  · omega
  · omega
  · exact e

theorem makeLost_temperature {k : Nat} (hl : s.isLost (8 + k) = false) (hk : k < 12) :
    makeLost (8 + k) s = climateSlotLost k (s.withLost (8 + k)) := by
  rw [makeLost_of_passing _ s hl]
  rcases reportLoss_cases (8 + k) (s.withLost (8 + k)) with
    ⟨hr, -⟩ | ⟨hr, -⟩ | ⟨j, -, hr, e⟩ | ⟨j, -, hr, -⟩ | ⟨-, -, -, hr, -⟩
  · omega
  · omega
  · obtain rfl : j = k := by omega
    exact e
  · omega
  · omega

theorem makeLost_humidity {k : Nat} (hl : s.isLost (20 + k) = false) (hk : k < 12) :
    makeLost (20 + k) s = climateSlotLost k
      (if k < s.canes.zoneCount then refreshDemand k (s.withLost (20 + k)) else s.withLost (20 + k)) := by
  rw [makeLost_of_passing _ s hl]
  rcases reportLoss_cases (20 + k) (s.withLost (20 + k)) with
    ⟨hr, -⟩ | ⟨hr, -⟩ | ⟨j, hj, hr, -⟩ | ⟨j, -, hr, e⟩ | ⟨-, -, -, hr, -⟩
  · omega
  · omega
  · omega
  · obtain rfl : j = k := by omega
    exact e
  · omega

/-- Outside PRIMING and RUNNING the loss of speed leaves the sequencer (R136). -/
theorem makeLost_speed_sequencer (hl : s.isLost 0 = false) (hm : LineMode.allowsFires s.sequencer.mode = false) :
    (makeLost 0 s).sequencer = s.sequencer := by
  rw [makeLost_of_passing 0 s hl]
  change (speedLostTest _).sequencer = _
  rw [speedLostTest, if_neg]
  · rfl
  · exact fun h => Bool.false_ne_true (hm.symm.trans (Bool.and_eq_true_iff.1 h).2)

end ByRole

/-! ## A zone's loss timer (R137) -/

section LossTimer

variable {k : Nat} {s w : State}

/-- Only the loss timers and marks of the sequencer move. -/
theorem climateSlotLost_eq (k : Nat) (w : State) :
    climateSlotLost k w = { w with sequencer := { w.sequencer with
      lossTimers := (climateSlotLost k w).sequencer.lossTimers,
      lossRaised := (climateSlotLost k w).sequencer.lossRaised } } := by
  rw [climateSlotLost]
  split <;> rfl

/-- A stopped timer of a configured zone starts, its mark cleared. -/
theorem climateSlotLost_starts (hk : k < 12) (hc : k < w.canes.zoneCount) (ht : w.lossTimer k = .stopped)
    (htimers : w.sequencer.lossTimers.length = 12) (hmarks : w.sequencer.lossRaised.length = 12) :
    (climateSlotLost k w).lossState k = (.running (w.lineTime + w.line.climateLossLimit), false) := by
  rw [climateSlotLost, if_pos ⟨hc, ht⟩, setLoss_lossState _ _ htimers hmarks hk, if_pos rfl]

/-- A zone that is not configured, or whose timer is not stopped, keeps it. -/
theorem climateSlotLost_of_not (h : w.canes.zoneCount ≤ k ∨ w.lossTimer k ≠ .stopped) : climateSlotLost k w = w :=
  if_neg fun ⟨hc, ht⟩ => h.elim (Nat.not_le.2 hc) (· ht)

/-- The report of a climate slot's loss is taken where the signals, the climate, the port and the ledger have moved at
most: the clauses about the loss timer and about what else stands. -/
theorem climateSlotLost_clauses (hk : k < 12)
    (hw : { w with signals := s.signals, climate := s.climate, port := s.port, handed := s.handed } = s) :
    (k < s.canes.zoneCount → s.lossTimer k = .stopped → s.sequencer.lossTimers.length = 12 →
      s.sequencer.lossRaised.length = 12 →
      (climateSlotLost k w).lossTimer k = .running (s.lineTime + s.line.climateLossLimit) ∧
      (climateSlotLost k w).lossMark k = false) ∧
    (s.canes.zoneCount ≤ k ∨ s.lossTimer k ≠ .stopped → (climateSlotLost k w).sequencer = s.sequencer) ∧
    (climateSlotLost k w).sequencer = { s.sequencer with
      lossTimers := (climateSlotLost k w).sequencer.lossTimers,
      lossRaised := (climateSlotLost k w).sequencer.lossRaised } ∧
    { climateSlotLost k w with signals := s.signals, sequencer := s.sequencer, climate := s.climate, port := s.port,
                               handed := s.handed } = s := by
  have hseq : w.sequencer = s.sequencer := (congrArg State.sequencer hw :)
  have hcanes : w.canes = s.canes := (congrArg State.canes hw :)
  have htime : w.lineTime = s.lineTime := (congrArg State.lineTime hw :)
  have hline : w.line = s.line := (congrArg State.line hw :)
  have htimer : w.lossTimer k = s.lossTimer k := by rw [State.lossTimer, hseq]; rfl
  refine ⟨fun hc ht htimers hmarks => ?_, fun h => ?_, ?_, ?_⟩
  · have hstate := climateSlotLost_starts hk (hcanes ▸ hc) (htimer.trans ht) (hseq ▸ htimers) (hseq ▸ hmarks)
    rw [htime, hline] at hstate
    exact ⟨congrArg Prod.fst hstate, congrArg Prod.snd hstate⟩
  · rw [climateSlotLost_of_not (by rw [hcanes, htimer]; exact h), hseq]
  · rw [← hseq]
    exact congrArg State.sequencer (climateSlotLost_eq k w)
  · rw [climateSlotLost_eq]
    exact congrArg (fun v : State => { v with sequencer := s.sequencer }) hw

end LossTimer

/-! ## The neutral command of a zone (R103) -/

section NeutralCommand

/-- The state with another sequencer. -/
def State.withSequencer (s : State) (q : Sequencer) : State := { s with sequencer := q }

/-- A frame handed to the port does not look at the sequencer. -/
theorem handFrame_withSequencer (dest : Nat) (body : FrameBody) (q : Sequencer) (s : State) :
    handFrame dest body (s.withSequencer q) = (handFrame dest body s).withSequencer q := by
  rw [handFrame, handFrame, apply_ite (State.withSequencer · q)]
  rfl

/-- Nor does a zone command queued. -/
theorem queueZoneCommand_withSequencer (role : Nat) (body : FrameBody) (q : Sequencer) (s : State) :
    queueZoneCommand role body (s.withSequencer q) = (queueZoneCommand role body s).withSequencer q := by
  have htalk : (s.withSequencer q).talkNode role = s.talkNode role := rfl
  rw [queueZoneCommand, queueZoneCommand, htalk]
  cases s.talkNode role with
  | none => rfl
  | some dest =>
    dsimp only
    rw [apply_ite (State.withSequencer · q), apply_ite (State.withSequencer · q), ← handFrame_withSequencer]
    rfl

/-- A zone's loss timer may be set before the command is queued, or after. -/
theorem queueZoneCommand_setLoss (role : Nat) (body : FrameBody) (k : Nat) (x : LatchTimer) (m : Bool) (s : State) :
    queueZoneCommand role body (s.setLoss k x m) = (queueZoneCommand role body s).setLoss k x m := by
  rw [State.setLoss, State.setLoss, queueZoneCommand_sequencer]
  exact queueZoneCommand_withSequencer role body _ s

/-- The loss timer does not look at the port: it may start before the command is queued. -/
theorem climateSlotLost_queueZoneCommand (k role : Nat) (body : FrameBody) (w : State) :
    climateSlotLost k (queueZoneCommand role body w) = queueZoneCommand role body (climateSlotLost k w) := by
  have htimer : (queueZoneCommand role body w).lossTimer k = w.lossTimer k :=
    congrArg (fun q : Sequencer => q.lossTimers.getD k .stopped) (queueZoneCommand_sequencer role body w)
  rw [climateSlotLost, climateSlotLost, apply_ite (queueZoneCommand role body), queueZoneCommand_setLoss, htimer,
    queueZoneCommand_canes, queueZoneCommand_lineTime, queueZoneCommand_line]

/-- A refreshed demand leaves all but the climate, the port and the ledger. -/
theorem refreshDemand_frame (k : Nat) (s : State) :
    { refreshDemand k s with climate := s.climate, port := s.port, handed := s.handed } = s := by
  simp only [refreshDemand_clock, refreshDemand_lineTime, refreshDemand_lots, refreshDemand_pacer,
    refreshDemand_chain, refreshDemand_canes, refreshDemand_drying, refreshDemand_discharge, refreshDemand_sequencer,
    refreshDemand_signals, refreshDemand_agent, refreshDemand_line, refreshDemand_pending]

/-- The loss of a configured zone's humidity slot queues the neutral command, from the state with the demand at 0. -/
theorem makeLost_humidity_command {k : Nat} {s : State} (hl : s.isLost (20 + k) = false) (hk : k < 12)
    (hc : k < s.canes.zoneCount) (hz : k < s.climate.zones.length) (hslot : 20 + k < s.signals.slots.length) :
    let t := makeLost (20 + k) s
    let neutral : State := { s with
      signals := t.signals, sequencer := t.sequencer,
      climate := { s.climate with zones := s.climate.zones.set k { s.zoneState k with demand := 0 } } }
    ZoneCommandQueued neutral t (4 + k) (climateCommand s k (s.zoneState k).tempSetpoint 0) := by
  intro t neutral
  let body := climateCommand s k (s.zoneState k).tempSetpoint 0
  let v := (s.withLost (20 + k)).setZone k { s.zoneState k with demand := 0 }
  have hlost : (s.withLost (20 + k)).isLost (20 + k) = true := isLost_setSlot_madeLost (20 + k) s hslot
  have ht : t = queueZoneCommand (4 + k) body (climateSlotLost k v) := by
    rw [← climateSlotLost_queueZoneCommand]
    exact (makeLost_humidity hl hk).trans (congrArg _ ((if_pos hc).trans (refreshDemand_of_lost hlost hz)))
  have hneutral : neutral = climateSlotLost k v := by
    have hsignals : t.signals = v.signals := by rw [ht, queueZoneCommand_signals, climateSlotLost_signals]
    have hseq : t.sequencer = (climateSlotLost k v).sequencer := by rw [ht, queueZoneCommand_sequencer]
    rw [climateSlotLost_eq k v] at hseq ⊢
    change ({ s with signals := t.signals, sequencer := t.sequencer, climate := _ } : State) = _
    rw [hsignals, hseq]
    rfl
  rw [ht, hneutral]
  exact zoneCommandQueued_queueZoneCommand (zoneKey_climateCommand _ _ _ _)

end NeutralCommand

/-! ## The obligation (O29) -/

/-- What a climate slot's role keeps of the statement: its zone's loss timer, and the frame. -/
theorem makeLost_climate_clauses {s : State} {role k : Nat} (hl : s.isLost role = false)
    (hr : role = 8 + k ∨ role = 20 + k) (hk : k < 12) :
    ∃ w, makeLost role s = climateSlotLost k w ∧
      { w with signals := s.signals, climate := s.climate, port := s.port, handed := s.handed } = s ∧
      (role = 8 + k ∨ s.canes.zoneCount ≤ k → w = s.withLost role) := by
  rcases hr with rfl | rfl
  · exact ⟨_, makeLost_temperature hl hk, rfl, fun _ => rfl⟩
  · refine ⟨_, makeLost_humidity hl hk, ?_, fun h => if_neg (by omega)⟩
    split
    · exact congrArg (fun v : State => { v with signals := s.signals, climate := s.climate }) (refreshDemand_frame k _)
    · rfl

/-- Settles O29: the slot by its two timers, and the block told by the role. -/
theorem slotsGrowStaleAndAreLost : Obligations.SlotsGrowStaleAndAreLost := by
  intro s role e hrole hlen he
  refine ⟨fun ht hf => exec_staleTimerExpiry_due ht he hf, fun ht hf => ?_⟩
  have hslot : role < s.signals.slots.length := hlen ▸ hrole
  have hl : s.isLost role = false := decide_eq_false hf
  refine ⟨_, exec_lostTimerExpiry_due ht he, makeLost_signals role s, fun h0 => ?_, fun h34 => ?_, fun h => ?_,
    fun k hr hk hc hstop htimers hmarks => ?_, fun k hr hk hc hz => ?_, fun k hr => ?_, fun k hr hk h => ?_,
    fun k hr hk => ?_⟩
  · subst h0
    refine ⟨?_, makeLost_speed s hl hslot, makeLost_speed_sequencer hl⟩
    rw [makeLost_pacer, if_pos ⟨rfl, hl⟩]
  · rw [makeLost_chain, if_pos ⟨h34, hl⟩]
  · rw [makeLost_unwatched hl h]
    rfl
  · obtain ⟨w, e, hw, -⟩ := makeLost_climate_clauses hl hr hk
    rw [e]
    exact (climateSlotLost_clauses hk hw).1 hc hstop htimers hmarks
  · subst hr
    exact makeLost_humidity_command hl hk hc hz hslot
  · obtain ⟨w, e, -, hsame⟩ := makeLost_climate_clauses (k := k) hl (by omega) (by omega)
    rw [e, hsame (by omega), climateSlotLost_eq]
    rfl
  · obtain ⟨w, e, hw, -⟩ := makeLost_climate_clauses hl hr hk
    rw [e]
    exact (climateSlotLost_clauses hk hw).2.1 h
  · obtain ⟨w, e, hw, -⟩ := makeLost_climate_clauses hl hr hk
    rw [e]
    exact (climateSlotLost_clauses hk hw).2.2

end Sys2Proof.Machine
end
